-- ==== Sys2Proof/Config.lean ====
section
/-! DEFINITION. What the manual fixes for the part (its capacities and the tops of its ranges), and the
free values of the model. -/

namespace Sys2Proof.Config

/-- Read Queue entries per lane (R34). -/
abbrev readQueueSize : Nat := 48
/-- Largest stack a Stack Frame carries (R38). -/
abbrev stackSize : Nat := 16
/-- Lane transmit queue frames per lane (R50). -/
abbrev laneTxSize : Nat := 4
/-- Response Queue entries (R161). -/
abbrev responseQueueSize : Nat := 4
/-- Item Record Queue entries (R95). -/
abbrev itemQueueSize : Nat := 32
/-- Settlement Queue entries (R146). -/
abbrev settlementQueueSize : Nat := 8
/-- Container Type Table entries (R100). -/
abbrev typeTableSize : Nat := 64
/-- Segments per visit (R4). -/
abbrev segmentsPerVisit : Nat := 8
/-- Count lines per segment (R86). -/
abbrev linesPerSegment : Nat := 12
/-- Bytes of a Lane Notice (R41). -/
abbrev noticeSize : Nat := 32
/-- Payload bytes of a frame (R179). -/
abbrev payloadSize : Nat := 200

/-- Top of the 16-bit counts: lane counters, floats, segment counts, loss count (R5, R51, R93, R135). -/
abbrev top16 : Nat := 65535
/-- Top of bottles credited and of a float taken counter (R5). -/
abbrev top24 : Nat := 16777215
/-- Top of line credit, held balance, paid-today and daily ceiling (R5, R140). -/
abbrev top32 : Nat := 4294967295
/-- Top of the accumulators G and X (R89). -/
abbrev creditTop : Nat := 2147483647
/-- Top of the gross mass, in mass steps (R37), and of the keg constants (R101). -/
abbrev massTop : Nat := 20000
/-- Top of an account number (R128). -/
abbrev accountTop : Nat := 16777215
/-- Top of the pass count (R44). -/
abbrev passTop : Nat := 15

/-- FREE VALUE (log 5). The rank that orders the visits whose drains ONE Lane Reset completes together:
the first argument numbers the occasion, the second is the visit slot. R53 and R145 give no order, so
nothing constrains it. -/
opaque drainRank : Nat → Nat → Nat

/-- FREE VALUE (log 24). One less than the least number of bytes, 1 to 4, that the n-th of the capacities of
R166 whose width R185 leaves open takes in an Identify response. Nothing constrains it. -/
opaque capacityWidth : Nat → Fin 4

end Sys2Proof.Config
end

