-- ==== Sys2Proof/Word.lean ====
section
/-! DEFINITION. The words the ZT-624's links carry. Bit vectors stand for bytes and for what the manual
treats as a set of bits; counts, amounts and numbers are natural numbers elsewhere. -/

namespace Sys2Proof

/-- A byte of a frame (10.1, R179). -/
abbrev Byte := BitVec 8

/-- A two-byte field or the 16-bit check of a frame (R179, R185). -/
abbrev Word16 := BitVec 16

/-- A slot map or valid-slot map: bit n is position n (R185). -/
abbrev SlotMap := BitVec 24

/-- A set of lanes as a visit holds it: bit n is lane n (R1, R185). -/
abbrev LaneSet := BitVec 6

end Sys2Proof
end

