-- ==== Sys2Proof/Syntax.lean ====
section
/-! DEFINITION. The commands of the part: one constructor of `Instr` for each row of
spec/opcode_table.json, with the operands the rules give that row, and the requests as the trunk carries
them. Numeric request fields are natural numbers, so that the range checks of the rules (R164) are made
by the meanings; sets are bit vectors of the field's width on the wire (R185). -/

namespace Sys2Proof

/-- Lane n is the lane whose head has address n + 1 (00, Identifiers). -/
abbrev Lane := Fin 6
/-- A slot of the Visit Table (R1). -/
abbrev VisitSlot := Fin 24
/-- A slot of the Account Table (R128). -/
abbrev AccountSlot := Fin 256
/-- A slot of the Tariff Store (R111). -/
abbrev TariffIndex := Fin 2
/-- A container family 0 to 7 (00, Identifiers); NONE is the absence of one. -/
abbrev Family := Fin 8

/-- The kind of a read and of a lane (R32, R37). -/
inductive ReadKind where
  | crate
  | keg
deriving DecidableEq, Repr

/-- The condition a reader head sends with a read (R34, R65). -/
inductive Condition where
  | sound
  | damaged
  | scrap
deriving DecidableEq, Repr

/-- The seven links of the part: six lane links and the trunk (10.1). -/
inductive Link where
  | lane (l : Lane)
  | trunk
deriving DecidableEq, Repr

/-- A frame, less its sync byte and its length byte, which is the payload's length (R179). -/
structure Frame where
  address : Byte
  kind : Byte
  tag : Byte
  flags : Byte
  payload : List Byte
  check : Word16
deriving DecidableEq, Repr

/-- One crate read as a lane frame carries it (R37, R38, R186). -/
structure CrateRead where
  tagCode : Word16
  condition : Condition
  slots : SlotMap
deriving DecidableEq, Repr

/-- The one read of a Single Read (R37, R186). -/
inductive SingleRead where
  | crate (read : CrateRead)
  | keg (tagCode : Word16) (condition : Condition) (mass : Word16)
deriving DecidableEq, Repr

/-- The class of a Write Type with its class-specific part (R101, R187). `unknown` is a class code that is
none of CRATE, POOL and KEG. -/
inductive TypeSpec where
  | crate (map : SlotMap)
  | pool (map : SlotMap)
  | keg (tare tolerance fullLimit lightLimit : Nat)
  | unknown (code : Nat)
deriving DecidableEq, Repr

/-- What names a visit in Read Visit (R28, R187). -/
inductive VisitKey where
  | number (n : Nat)
  | slot (n : Nat)
deriving DecidableEq, Repr

/-- What names an account in Read Account (R134, R187). -/
inductive AccountKey where
  | number (n : Nat)
  | slot (n : Nat)
deriving DecidableEq, Repr

/-- The ten lane flag masks of each of the six lanes, as Set Masks carries them (R170, R187). -/
structure LaneMaskFields where
  lane0 : Word16
  lane1 : Word16
  lane2 : Word16
  lane3 : Word16
  lane4 : Word16
  lane5 : Word16
deriving DecidableEq, Repr

/-- A management request, as its payload carries it (R187): the request code and the fields in the order
its own rule names them. -/
inductive Request where
  | openVisit (account : Nat) (lanes : Byte) (minutes : Nat)
  | bindLanes (visit : Nat) (lanes : Byte)
  | releaseLanes (visit : Nat) (lanes : Byte)
  | nextSegment (visit account : Nat)
  | closeVisit (visit : Nat)
  | cancelVisit (visit : Nat)
  | readVisit (key : VisitKey) (segment : Nat)
  | configureLane (lane enabled kind level reporting : Nat)
  | laneReset (lane : Nat)
  | readLane (lane : Nat)
  | writeType (tagCode : Nat) (spec : TypeSpec) (family schedule : Nat)
  | deleteType (tagCode : Nat)
  | readTypeByTagCode (tagCode : Nat)
  | readTypeByIndex (index : Nat)
  | writeTariffHeader (generation mode feeA feeB feeC feeD : Nat) (enables : Byte)
  | writeSchedule (schedule defined depositA depositB depositC depositD bottle damaged ullage : Nat)
  | readTariff (slot part : Nat)
  | promoteTariff (expected : Nat)
  | discardPending
  | writeAccount (slot account cls frozen ceiling : Nat)
  | deleteAccount (account : Nat)
  | readAccount (key : AccountKey)
  | issueContainers (account family count : Nat)
  | setFloat (account family value : Nat)
  | freezeRun (start count mark : Nat)
  | dayClose
  | releaseHeld (account amount : Nat)
  | identify
  | readStatus
  | setMasks (part : Byte) (lanes : LaneMaskFields)
  | setPartParameters (grace aging : Nat)
  | partReset
deriving DecidableEq, Repr

/-- The commands of the part, one constructor for each row of spec/opcode_table.json. A request's `tag` is
the request tag of its frame (R162). -/
inductive Instr where
  /-- POWER_ON_RESET (R178) -/
  | powerOnReset
  /-- OPEN_VISIT (R8, R9) -/
  | openVisit (tag : Byte) (account : Nat) (lanes : Byte) (minutes : Nat)
  /-- BIND_LANES (R11) -/
  | bindLanes (tag : Byte) (visit : Nat) (lanes : Byte)
  /-- RELEASE_LANES (R12) -/
  | releaseLanes (tag : Byte) (visit : Nat) (lanes : Byte)
  /-- NEXT_SEGMENT (R13) -/
  | nextSegment (tag : Byte) (visit account : Nat)
  /-- CLOSE_VISIT (R17) -/
  | closeVisit (tag : Byte) (visit : Nat)
  /-- CANCEL_VISIT (R24 to R26) -/
  | cancelVisit (tag : Byte) (visit : Nat)
  /-- READ_VISIT (R28) -/
  | readVisit (tag : Byte) (key : VisitKey) (segment : Nat)
  /-- CONFIGURE_LANE (R32, R33) -/
  | configureLane (tag : Byte) (lane enabled kind level reporting : Nat)
  /-- LANE_RESET (R53) -/
  | laneReset (tag : Byte) (lane : Nat)
  /-- READ_LANE (R54) -/
  | readLane (tag : Byte) (lane : Nat)
  /-- WRITE_TYPE (R101 to R103) -/
  | writeType (tag : Byte) (tagCode : Nat) (spec : TypeSpec) (family schedule : Nat)
  /-- DELETE_TYPE (R104) -/
  | deleteType (tag : Byte) (tagCode : Nat)
  /-- READ_TYPE_BY_TAG_CODE (R105) -/
  | readTypeByTagCode (tag : Byte) (tagCode : Nat)
  /-- READ_TYPE_BY_INDEX (R106) -/
  | readTypeByIndex (tag : Byte) (index : Nat)
  /-- WRITE_TARIFF_HEADER (R116) -/
  | writeTariffHeader (tag : Byte) (generation mode feeA feeB feeC feeD : Nat) (enables : Byte)
  /-- WRITE_SCHEDULE (R117) -/
  | writeSchedule (tag : Byte)
      (schedule defined depositA depositB depositC depositD bottle damaged ullage : Nat)
  /-- READ_TARIFF (R118) -/
  | readTariff (tag : Byte) (slot part : Nat)
  /-- PROMOTE_TARIFF (R120, R121) -/
  | promoteTariff (tag : Byte) (expected : Nat)
  /-- DISCARD_PENDING (R122) -/
  | discardPending (tag : Byte)
  /-- WRITE_ACCOUNT (R131, R132) -/
  | writeAccount (tag : Byte) (slot account cls frozen ceiling : Nat)
  /-- DELETE_ACCOUNT (R133) -/
  | deleteAccount (tag : Byte) (account : Nat)
  /-- READ_ACCOUNT (R134) -/
  | readAccount (tag : Byte) (key : AccountKey)
  /-- ISSUE_CONTAINERS (R136) -/
  | issueContainers (tag : Byte) (account family count : Nat)
  /-- SET_FLOAT (R137) -/
  | setFloat (tag : Byte) (account family value : Nat)
  /-- FREEZE_RUN (R139) -/
  | freezeRun (tag : Byte) (start count mark : Nat)
  /-- DAY_CLOSE (R141) -/
  | dayClose (tag : Byte)
  /-- RELEASE_HELD (R155) -/
  | releaseHeld (tag : Byte) (account amount : Nat)
  /-- IDENTIFY (R166) -/
  | identify (tag : Byte)
  /-- READ_STATUS (R168, R169) -/
  | readStatus (tag : Byte)
  /-- SET_MASKS (R170) -/
  | setMasks (tag : Byte) (part : Byte) (lanes : LaneMaskFields)
  /-- SET_PART_PARAMETERS (R172) -/
  | setPartParameters (tag : Byte) (grace aging : Nat)
  /-- PART_RESET (R174, R175) -/
  | partReset (tag : Byte)
  /-- UNKNOWN_REQUEST (R163): `code` is the request code as received -/
  | unknownRequest (tag code : Byte)
  /-- REQUEST_OVERRUN (R161): a request arrives on a full Response Queue -/
  | requestOverrun
  /-- DOWNSTREAM_FRAME (R49): a checked trunk frame addressed to lane heads -/
  | downstreamFrame (frame : Frame)
  /-- TRUNK_FRAME_ERROR (R181, R183) -/
  | trunkFrameError
  /-- SINGLE_READ (R37) -/
  | singleRead (lane : Lane) (read : SingleRead)
  /-- STACK_FRAME (R38) -/
  | stackFrame (lane : Lane) (stack : Byte) (reads : List CrateRead)
  /-- STACK_CANCEL (R39) -/
  | stackCancel (lane : Lane) (stack : Byte)
  /-- LANE_NOTICE (R41) -/
  | laneNotice (lane : Lane) (bytes : List Byte)
  /-- LANE_FRAME_ERROR (R36) -/
  | laneFrameError (lane : Lane)
  /-- GRANT (R46) -/
  | grant
  /-- TICK (R173) -/
  | tick
  /-- OPEN_TIME_EXPIRY (R16) of the visit in a slot -/
  | openTimeExpiry (slot : VisitSlot)
  /-- GRACE_EXPIRY (R20) of the visit in a slot -/
  | graceExpiry (slot : VisitSlot)
  /-- SETTLEMENT (R148) -/
  | settlement
  /-- LANE_FRAME_COMPLETION (R50) -/
  | laneFrameCompletion (lane : Lane)
  /-- FIRST_FRAME_COMPLETION (R189) -/
  | firstFrameCompletion
  /-- MESSAGE_COMPLETION (R193) -/
  | messageCompletion
  /-- BYTE_RECEIVED (R181) -/
  | byteReceived (link : Link) (byte : Byte)
deriving DecidableEq, Repr

end Sys2Proof
end

