-- ==== Sys2Proof/Machine/State.lean ====
section
/-! DEFINITION. The state of the part as plain data, block by block (00, Blocks), the entries its queues
hold, and `State.reset`, the part right after power-on reset. -/

namespace Sys2Proof.Machine

/-! ## Flags and causes -/

/-- The seven part flags, in the order of the table of R167. -/
inductive PartFlag where
  | itemLoss
  | visitExpired
  | heldOverflow
  | floatClamp
  | tariffRetired
  | requestOverrun
  | trunkFrameError
deriving DecidableEq, Repr

/-- The ten lane flags, in the order of the table of R52. -/
inductive LaneFlag where
  | overrun
  | frameError
  | orphan
  | unlisted
  | diverted
  | ullageWarn
  | excess
  | staleCancel
  | stackAbandoned
  | downstreamLoss
deriving DecidableEq, Repr

/-- A set of part flags: bit n is the n-th flag of R167 (R185). -/
abbrev PartFlags := BitVec 7
/-- A set of lane flags: bit n is the n-th flag of R52 (R185). -/
abbrev LaneFlags := BitVec 10
/-- A set of causes: bits 0 to 6 in the order INEXACT, NEGATIVE, SATURATE, WRONG_KIND, INVALID,
FULL_RETURN, LIGHT (R185). -/
abbrev Causes := BitVec 7
/-- A set drawn from INEXACT, NEGATIVE and SATURATE, bits 0 to 2: enables and sticky flags (R92, R112). -/
abbrev Conditions := BitVec 3

/-! ## Lanes -/

/-- The tag of a read: the visit's slot and number (R34). -/
structure VisitTag where
  slot : VisitSlot
  number : Nat
deriving DecidableEq, Repr

/-- R31. -/
inductive LaneState where
  | disabled
  | idle
  | bound (visit : VisitTag)
deriving DecidableEq, Repr

/-- What a read observed: a crate's slot map or a keg's gross mass in mass steps (2.2). -/
inductive ReadBody where
  | crate (slots : SlotMap)
  | keg (mass : Nat)
deriving DecidableEq, Repr

/-- Stack membership of a read: stack number, position 1 to 16, and the last mark (2.2). -/
structure StackMember where
  stack : Nat
  position : Nat
  last : Bool
deriving DecidableEq, Repr

/-- One entry of a Read Queue (2.2). -/
structure ReadEntry where
  tagCode : Nat
  condition : Condition
  body : ReadBody
  member : Option StackMember
  tag : Option VisitTag
deriving DecidableEq, Repr

/-- The priced result of 3.1; `schedule` is absent for an UNLISTED item, and `family` absent stands for
NONE. -/
structure PricedResult where
  listed : Bool
  family : Option Family
  schedule : Option (Fin 16)
  bottles : Nat
  credit : Nat
  causes : Causes
  diverted : Bool
deriving DecidableEq, Repr

/-- A priced item of a stack waiting for its commit (2.4). -/
structure StagedItem where
  position : Nat
  tagCode : Nat
  condition : Condition
  priced : PricedResult
deriving DecidableEq, Repr

/-- The Stack Context of a lane while it holds items (R42). -/
structure StackContext where
  stack : Nat
  tag : VisitTag
  segment : Nat
  items : List StagedItem
deriving DecidableEq, Repr

/-- The receiver of a link (R181), with the bytes held since the sync byte it last trusted: address, kind,
tag, flags, length, payload and check bytes, as far as they have come. -/
inductive Receiver where
  | hunt
  | header (held : List Byte)
  | payload (held : List Byte)
  | check (held : List Byte)
deriving DecidableEq, Repr

/-- A Lane Port (chapter 2). The transmitter sends the oldest frame of `txQueue` and is idle when there is
none (R50). `passCount` is the arbiter's (R44). -/
structure LanePort where
  state : LaneState
  kind : ReadKind
  level : Nat
  reporting : Bool
  queue : List ReadEntry
  context : Option StackContext
  txQueue : List Frame
  hold : Bool
  accepted : Nat
  frameErrors : Nat
  overruns : Nat
  orphans : Nat
  abandoned : Nat
  downLosses : Nat
  flags : LaneFlags
  passCount : Nat
  rx : Receiver
deriving DecidableEq, Repr

/-- A lane after power-on reset (R55, R181). -/
def LanePort.reset : LanePort where
  state := .disabled
  kind := .crate
  level := 0
  reporting := false
  queue := []
  context := none
  txQueue := []
  hold := true
  accepted := 0
  frameErrors := 0
  overruns := 0
  orphans := 0
  abandoned := 0
  downLosses := 0
  flags := 0
  passCount := 0
  rx := .hunt

/-! ## Container Type Table -/

/-- The four constants of a KEG type, in mass steps (3.8). -/
structure KegLimits where
  tare : Nat
  tolerance : Nat
  fullLimit : Nat
  lightLimit : Nat
deriving DecidableEq, Repr

/-- Class, family and class-specific part of a type entry; a POOL type has family NONE (5.1). -/
inductive TypeBody where
  | crate (family : Family) (map : SlotMap)
  | pool (map : SlotMap)
  | keg (family : Family) (limits : KegLimits)
deriving DecidableEq, Repr

/-- One entry of the Container Type Table (5.1). -/
structure TypeEntry where
  tagCode : Nat
  schedule : Fin 16
  body : TypeBody
deriving DecidableEq, Repr

/-! ## Tariff Store -/

/-- Customer classes (00, Identifiers). -/
inductive CustomerClass where
  | a
  | b
  | c
  | d
deriving DecidableEq, Repr

/-- Four values, one for each customer class (6.2). -/
structure PerClass where
  a : Nat
  b : Nat
  c : Nat
  d : Nat
deriving DecidableEq, Repr

/-- Rounding modes in the order of their codes 0 to 3 (R63). -/
inductive RoundingMode where
  | nearestEven
  | nearestUp
  | down
  | up
deriving DecidableEq, Repr

/-- The header of a generation (R112). -/
structure TariffHeader where
  generation : Nat
  mode : RoundingMode
  fees : PerClass
  enables : Conditions
deriving DecidableEq, Repr

/-- A schedule (R113). -/
structure Schedule where
  defined : Bool
  deposits : PerClass
  bottle : Nat
  damaged : Nat
  ullage : Nat
deriving DecidableEq, Repr

/-- The contents of a slot outside EMPTY (6.2). -/
structure Generation where
  header : TariffHeader
  schedules : Vector Schedule 16
deriving DecidableEq, Repr

/-- A tariff slot (R111): an EMPTY slot holds no contents, and only ACTIVE and RETIRING slots hold pins. -/
inductive TariffSlot where
  | empty
  | pending (contents : Generation)
  | active (contents : Generation) (pins : Nat)
  | retiring (contents : Generation) (pins : Nat)
deriving DecidableEq, Repr

/-- The state of a tariff slot, as responses report it (R111). -/
inductive TariffState where
  | empty
  | pending
  | active
  | retiring
deriving DecidableEq, Repr

/-! ## Account Table -/

/-- An account slot; number 0 is an empty slot (R128). -/
structure Account where
  number : Nat
  cls : CustomerClass
  frozen : Bool
  floats : Vector Nat 8
  held : Nat
  paidToday : Nat
  ceiling : Nat
  useCount : Nat
deriving DecidableEq, Repr

/-- An empty slot, frozen mark clear (R128). -/
def Account.empty : Account where
  number := 0
  cls := .a
  frozen := false
  floats := Vector.replicate 8 0
  held := 0
  paidToday := 0
  ceiling := 0
  useCount := 0

/-! ## Visit Table -/

/-- The tally of a count line or of the overflow line (1.3). -/
structure Tally where
  sound : Nat
  damaged : Nat
  scrap : Nat
  bottles : Nat
  credit : Nat
deriving DecidableEq, Repr

/-- A count line (1.3). -/
structure CountLine where
  tagCode : Nat
  family : Option Family
  tally : Tally
deriving DecidableEq, Repr

/-- A segment (1.3): `gross` is G and `excessCredit` is X. -/
structure Segment where
  accountSlot : AccountSlot
  accountNumber : Nat
  cls : CustomerClass
  lines : List CountLine
  overflow : Tally
  unlisted : Nat
  diverted : Nat
  excess : Nat
  gross : Nat
  excessCredit : Nat
  floatTaken : Vector Nat 8
  sticky : Conditions
deriving DecidableEq, Repr

/-- R1. -/
inductive VisitState where
  | free
  | opened
  | closing
  | settling
deriving DecidableEq, Repr

/-- Why a visit left OPEN (1.1). -/
inductive CloseCause where
  | notClosed
  | requested
  | expired
deriving DecidableEq, Repr

/-- The pinned generation: tariff slot and generation number (1.1). -/
structure Pin where
  slot : TariffIndex
  generation : Nat
deriving DecidableEq, Repr

/-- A visit record (1.1). -/
structure Visit where
  number : Nat
  state : VisitState
  cause : CloseCause
  pin : Option Pin
  laneSet : LaneSet
  openLimit : Nat
  elapsed : Nat
  grace : Nat
  tagged : Nat
  segments : List Segment
deriving DecidableEq, Repr

/-- The values of a FREE record (R1). -/
def Visit.free : Visit where
  number := 0
  state := .free
  cause := .notClosed
  pin := none
  laneSet := 0
  openLimit := 0
  elapsed := 0
  grace := 0
  tagged := 0
  segments := []

/-! ## Records -/

/-- Outcomes of an item (4.7). -/
inductive ItemOutcome where
  | credited
  | excess
  | diverted
  | unlisted
  | orphan
  | cancelled
  | abandoned
deriving DecidableEq, Repr

/-- An item record (4.7, R94): `stack` is the stack number and position, absent outside a stack. -/
structure ItemRecord where
  lane : Lane
  visit : Nat
  segment : Nat
  tagCode : Nat
  outcome : ItemOutcome
  causes : Causes
  credit : Nat
  stack : Option (Nat × Nat)
deriving DecidableEq, Repr

/-- An entry of the Item Record Queue: an item record or a notice record (R95). -/
inductive ItemEntry where
  | item (record : ItemRecord)
  | notice (lane : Lane) (bytes : List Byte)
deriving DecidableEq, Repr

/-- A settlement record (R154): `segment` is the segment as it stands at settlement, the INEXACT of the
fee rounding included. -/
structure SettlementRecord where
  visit : Nat
  index : Nat
  count : Nat
  generation : Nat
  cause : CloseCause
  frozen : Bool
  fee : Nat
  payout : Nat
  heldAdded : Nat
  unplaced : Nat
  segment : Segment
deriving DecidableEq, Repr

/-- An entry of the Settlement Queue: a settlement record or a release record (R146, R156). -/
inductive SettlementEntry where
  | settled (record : SettlementRecord)
  | release (account amount held : Nat)
deriving DecidableEq, Repr

/-! ## Responses -/

/-- The eighteen response codes, in the order of the table of R165. -/
inductive ResponseCode where
  | ok
  | malformed
  | unknownRequest
  | noEntry
  | duplicate
  | tableFull
  | queueFull
  | laneHeld
  | laneDisabled
  | inUse
  | wrongState
  | tariffBusy
  | checkMismatch
  | noTariff
  | segmentsFull
  | tooLate
  | frozen
  | visitsFull
deriving DecidableEq, Repr

/-- The missing entry a NO_ENTRY detail names (R13, R129, R185). -/
inductive MissingEntry where
  | visit
  | account
deriving DecidableEq, Repr

/-- Write Account actions (R132). -/
inductive AccountAction where
  | created
  | updated
  | renumbered
deriving DecidableEq, Repr

/-- One entry of the void summary of Cancel Visit (R26). -/
structure VoidEntry where
  account : Nat
  committed : Nat
  unlisted : Nat
  diverted : Nat
  excess : Nat
  returned : Nat
deriving DecidableEq, Repr

/-- The header a Read Visit reports for a record outside FREE (R28). -/
structure VisitReport where
  number : Nat
  slot : VisitSlot
  state : VisitState
  cause : CloseCause
  pin : Option Pin
  laneSet : LaneSet
  minutes : Nat
  elapsed : Nat
  grace : Nat
  tagged : Nat
  segments : Nat
deriving DecidableEq, Repr

/-- What Read Lane reports (R54). -/
structure LaneReport where
  state : LaneState
  kind : ReadKind
  level : Nat
  reporting : Bool
  queued : Nat
  hold : Bool
  pendingStacks : List Nat
  staged : Nat
  context : Option (Nat × Nat × Nat)
  transmitting : Nat
  passCount : Nat
  effectiveLevel : Nat
  accepted : Nat
  frameErrors : Nat
  overruns : Nat
  orphans : Nat
  abandoned : Nat
  downLosses : Nat
  flags : LaneFlags
deriving DecidableEq, Repr

/-- What Read Account reports (R134). -/
structure AccountReport where
  slot : AccountSlot
  number : Nat
  cls : CustomerClass
  frozen : Bool
  floats : Vector Nat 8
  held : Nat
  paidToday : Nat
  ceiling : Nat
  room : Nat
  useCount : Nat
deriving DecidableEq, Repr

/-- What Read Status reports (R168): a visit's entry is its state and number, a tariff slot's its state,
generation number and pin count. -/
structure StatusReport where
  partFlags : PartFlags
  laneFlags : Vector LaneFlags 6
  partMasks : PartFlags
  laneMasks : Vector LaneFlags 6
  attention : Bool
  lossCount : Nat
  visits : List (VisitState × Nat)
  tariffs : List (TariffState × Nat × Nat)
  grace : Nat
  aging : Nat
deriving DecidableEq, Repr

/-- The detail of a response (R162): the contents the owning rule names for the outcome. -/
inductive Detail where
  /-- no contents named (R188) -/
  | empty
  /-- R9 -/
  | visitOpened (number : Nat) (slot : VisitSlot) (generation minutes : Nat) (lanes : LaneSet)
  /-- the lane that fails a lane claim (R7) -/
  | lane (l : Lane)
  /-- the state of a visit that does not take the request (R2) -/
  | visitState (state : VisitState)
  /-- NO_ENTRY with the missing entry (R13, R129) -/
  | missing (entry : MissingEntry)
  /-- the visit's lane set after the request (R11, R12) -/
  | laneSet (lanes : LaneSet)
  /-- R13 -/
  | segmentAdded (index count : Nat)
  /-- R17 -/
  | visitClosed (state : VisitState) (tagged grace : Nat)
  /-- R26 -/
  | visitCancelled (number : Nat) (state : VisitState) (purged : Nat) (summary : List VoidEntry)
  /-- a FREE slot read by slot (R28) -/
  | visitFree
  /-- header alone (R28) -/
  | visitHeader (report : VisitReport)
  /-- header and one segment (R28) -/
  | visitSegment (report : VisitReport) (segment : Segment)
  /-- lane state, Read Queue and Stack Context occupancy (R32) -/
  | laneBusy (state : LaneState) (queued staged : Nat)
  /-- lane state and configuration (R33) -/
  | laneConfigured (state : LaneState) (kind : ReadKind) (level : Nat) (reporting : Bool)
  /-- R53 -/
  | itemsRemoved (count : Nat)
  /-- R54 -/
  | laneReport (report : LaneReport)
  /-- tag code and number of entries (R101) -/
  | typeRefused (tagCode entries : Nat)
  /-- action, index and number of entries (R102, R103) -/
  | typeWritten (replaced : Bool) (index entries : Nat)
  /-- number of entries (R104, R106) -/
  | typeCount (entries : Nat)
  /-- R104 -/
  | typeDeleted (index entries : Nat)
  /-- number of entries and insertion index (R105) -/
  | typeAbsent (entries index : Nat)
  /-- R105, R106 -/
  | typeReport (index entries : Nat) (entry : TypeEntry)
  /-- R116 -/
  | headerWritten (slot : TariffIndex) (state : TariffState) (generation : Nat)
  /-- R117 -/
  | scheduleWritten (slot : TariffIndex) (schedule : Nat) (state : TariffState)
  /-- R115 -/
  | tariffBusy (slot : TariffIndex) (generation pins : Nat)
  /-- an EMPTY slot (R118) -/
  | tariffEmpty (slot : TariffIndex)
  /-- slot, state, pins, header, defined schedules and check value (R118) -/
  | tariffHeader (slot : TariffIndex) (state : TariffState) (pins : Nat) (header : TariffHeader)
      (defined : Word16) (check : Nat)
  /-- slot, state, pins and one schedule (R118) -/
  | tariffSchedule (slot : TariffIndex) (state : TariffState) (pins : Nat) (schedule : Schedule)
  /-- state and generation number of each slot (R120, R122) -/
  | tariffStates (state0 : TariffState) (generation0 : Nat) (state1 : TariffState) (generation1 : Nat)
  /-- R120 -/
  | checkMismatch (slot : TariffIndex) (expected computed : Nat)
  /-- R121; the former ACTIVE slot, its state and pin count, if there was one -/
  | promoted (slot : TariffIndex) (generation check : Nat)
      (former : Option (TariffIndex × TariffState × Nat))
  /-- R122 -/
  | pendingDiscarded (slot : TariffIndex)
  /-- the slot that holds the account number (R131) -/
  | accountHolder (slot : AccountSlot)
  /-- the slot's number and use count (R131) -/
  | accountInUse (number useCount : Nat)
  /-- R132 -/
  | accountWritten (action : AccountAction) (report : AccountReport)
  /-- use count, with the detail USE (R133) -/
  | deleteUse (useCount : Nat)
  /-- held balance, with the detail HELD (R133) -/
  | deleteHeld (held : Nat)
  /-- R133 -/
  | accountDeleted (slot : AccountSlot) (floats : Vector Nat 8) (paidToday : Nat)
  /-- R134 -/
  | accountReport (report : AccountReport)
  /-- family, float before and after, amount not recorded (R136) -/
  | containersIssued (family : Family) (before after unrecorded : Nat)
  /-- R137 -/
  | floatSet (family : Family) (before after : Nat)
  /-- R139 -/
  | freezeRun (processed next remaining accounts : Nat)
  /-- R141 -/
  | dayClosed (sum slots : Nat)
  /-- R155, FROZEN -/
  | heldBalance (held : Nat)
  /-- R155 -/
  | released (amount held paidToday : Nat)
  /-- vendor, part and revision codes, and the nine capacities in the order of the table (R166) -/
  | identity (vendor part revision : Nat) (capacities : List Nat)
  /-- R168 -/
  | status (report : StatusReport)
  /-- R170 -/
  | masks (part : PartFlags) (lanes : Vector LaneFlags 6) (attention : Bool)
  /-- R172 -/
  | parameters (grace aging : Nat)
  /-- R175 -/
  | partReset (cancelled kept removed records responses : Nat)
  /-- the request code as received (R163, R188) -/
  | unknownCode (code : Byte)
deriving DecidableEq, Repr

/-- A response waiting for the trunk (R162): request tag, request code, response code and detail. -/
structure Response where
  tag : Byte
  request : Byte
  code : ResponseCode
  detail : Detail
deriving DecidableEq, Repr

/-! ## Trunk transmitter -/

/-- The three queues that feed the trunk transmitter (R193). -/
inductive TrunkQueue where
  | responses
  | settlements
  | items
deriving DecidableEq, Repr

/-- Which frame of its message is on the line (R189). -/
inductive FramePart where
  | only
  | first
  | second
deriving DecidableEq, Repr

/-- The trunk transmitter (R193). The message in transmission is the oldest entry of `source`. -/
inductive TrunkTx where
  | idle
  | sending (source : TrunkQueue) (part : FramePart) (frame : Frame)
deriving DecidableEq, Repr

/-! ## The part -/

/-- The whole part. `pending` and `freeIndex` are the model's own: the commands waiting, and the index of
the next free value (log 5). -/
structure State where
  lanes : Vector LanePort 6
  lastGranted : Lane
  types : List TypeEntry
  tariffs : Vector TariffSlot 2
  accounts : Vector Account 256
  visits : Vector Visit 24
  settleWait : List VisitTag
  settlementQueue : List SettlementEntry
  responses : List Response
  items : List ItemEntry
  lossCount : Nat
  trunkRx : Receiver
  trunkTx : TrunkTx
  partFlags : PartFlags
  partMasks : PartFlags
  laneMasks : Vector LaneFlags 6
  attention : Bool
  graceSeconds : Nat
  agingLimit : Nat
  visitCounter : Nat
  freeIndex : Nat
  pending : List Instr
deriving DecidableEq, Repr

/-- The part right after power-on reset (R29, R55, R99, R110, R127, R144, R159, R178, R181, R193). -/
def State.reset : State where
  lanes := Vector.replicate 6 LanePort.reset
  lastGranted := 5
  types := []
  tariffs := Vector.replicate 2 .empty
  accounts := Vector.replicate 256 Account.empty
  visits := Vector.replicate 24 Visit.free
  settleWait := []
  settlementQueue := []
  responses := []
  items := []
  lossCount := 0
  trunkRx := .hunt
  trunkTx := .idle
  partFlags := 0
  partMasks := 0
  laneMasks := Vector.replicate 6 0
  attention := false
  graceSeconds := 10
  agingLimit := 8
  visitCounter := 1
  freeIndex := 0
  pending := []

/-! ## Stops -/

/-- Where the model stops though the part would not be there: states the rules exclude. -/
inductive Fault where
  /-- Raised by GRANT alone, when the oldest entry of the granted lane carries a visit tag that names no
  OPEN or CLOSING visit with a current segment and a pinned generation. R46 says this does not arise. SAFE:
  the model stops where the rules say nothing (log 15). -/
  | danglingTag
  /-- Raised by SETTLEMENT alone, when the head of the settle-wait list names no SETTLING visit with a pinned
  generation. R145 says this does not arise. SAFE (log 15). -/
  | danglingWait
deriving DecidableEq, Repr

/-- Commands the model gives no meaning. -/
inductive Refusal where
  /-- A command whose meaning is not written. Raised by an arm of `exec`. SAFE. No arm raises it now. -/
  | notModelled (mnemonic : String)
deriving DecidableEq, Repr

end Sys2Proof.Machine
end

