-- ==== Sys2Proof/Machine/Update.lean ====
section
/-! DEFINITION. The elementary updates of State: one per piece of state that more than one rule changes.
Each changes the one field it names; Laws/State.lean says so. -/

namespace Sys2Proof.Machine

/-- Replace entry i of a table by its image. -/
def upd {α : Type} {n : Nat} (v : Vector α n) (i : Fin n) (f : α → α) : Vector α n :=
  v.set i.val (f v[i]) i.isLt

/-- Replace every entry of a table by its image. -/
def updAll {α β : Type} {n : Nat} (v : Vector α n) (f : α → β) : Vector β n :=
  Vector.ofFn (fun i => f v[i])

/-- A count that stops at the top of its range. -/
def satAdd (top a b : Nat) : Nat := min top (a + b)

def State.modifyLane (s : State) (l : Lane) (f : LanePort → LanePort) : State :=
  { s with lanes := upd s.lanes l f }

/-- Change every lane, each by its number. -/
def State.mapLanes (s : State) (f : Lane → LanePort → LanePort) : State :=
  { s with lanes := Vector.ofFn (fun l => f l s.lanes[l]) }

def State.modifyVisit (s : State) (v : VisitSlot) (f : Visit → Visit) : State :=
  { s with visits := upd s.visits v f }

def State.modifyAccount (s : State) (a : AccountSlot) (f : Account → Account) : State :=
  { s with accounts := upd s.accounts a f }

def State.setTariff (s : State) (t : TariffIndex) (slot : TariffSlot) : State :=
  { s with tariffs := upd s.tariffs t (fun _ => slot) }

def State.setTypes (s : State) (types : List TypeEntry) : State :=
  { s with types := types }

def State.setPartFlags (s : State) (flags : PartFlags) : State :=
  { s with partFlags := flags }

def State.setItems (s : State) (items : List ItemEntry) : State :=
  { s with items := items }

def State.setResponses (s : State) (responses : List Response) : State :=
  { s with responses := responses }

def State.setSettlementQueue (s : State) (queue : List SettlementEntry) : State :=
  { s with settlementQueue := queue }

def State.setSettleWait (s : State) (list : List VisitTag) : State :=
  { s with settleWait := list }

def State.setTrunkTx (s : State) (tx : TrunkTx) : State :=
  { s with trunkTx := tx }

def State.setLossCount (s : State) (n : Nat) : State :=
  { s with lossCount := n }

def State.setAttention (s : State) (b : Bool) : State :=
  { s with attention := b }

def State.setLastGranted (s : State) (l : Lane) : State :=
  { s with lastGranted := l }

def State.setTrunkRx (s : State) (rx : Receiver) : State :=
  { s with trunkRx := rx }

def State.setPending (s : State) (queue : List Instr) : State :=
  { s with pending := queue }

def State.setFreeIndex (s : State) (n : Nat) : State :=
  { s with freeIndex := n }

def State.setVisitCounter (s : State) (n : Nat) : State :=
  { s with visitCounter := n }

/-- The six lanes in ascending order. -/
def allLanes : List Lane := [0, 1, 2, 3, 4, 5]

/-- The eight families in ascending order. -/
def allFamilies : List Family := [0, 1, 2, 3, 4, 5, 6, 7]

/-- The 24 visit slots in ascending order. -/
def allVisits : List VisitSlot := List.finRange 24

/-- The 256 account slots in ascending order. -/
def allAccounts : List AccountSlot := List.finRange 256

end Sys2Proof.Machine
end

