-- ==== Sys2Proof/Machine/Operands.lean ====
section
/-! DEFINITION. Operand forms: the codes of R185 read into the names they stand for, and the lookups by
which requests name visits, accounts, lanes and types. -/

namespace Sys2Proof.Machine

/-- A lane operand; above 5 names no lane. -/
def laneOf (n : Nat) : Option Lane := if h : n < 6 then some ⟨n, h⟩ else none

/-- A lane set operand; a bit above 5 names no lane (R187). -/
def laneSetOf (lanes : Byte) : Option LaneSet :=
  if lanes.toNat < 64 then some (lanes.setWidth 6) else none

/-- Whether a lane is in a set. -/
def inSet (lanes : LaneSet) (l : Lane) : Bool := lanes.getLsbD l.val

/-- A family operand of Issue Containers and Set Float: 0 to 7 (R136, R137). -/
def familyOf (n : Nat) : Option Family := if h : n < 8 then some ⟨n, h⟩ else none

/-- A schedule number. -/
def scheduleOf (n : Nat) : Option (Fin 16) := if h : n < 16 then some ⟨n, h⟩ else none

/-- A tariff slot number. -/
def tariffOf (n : Nat) : Option TariffIndex := if h : n < 2 then some ⟨n, h⟩ else none

/-- A visit slot number (R28). -/
def visitSlotOf (n : Nat) : Option VisitSlot := if h : n < 24 then some ⟨n, h⟩ else none

/-- An account slot number (R131, R134). -/
def accountSlotOf (n : Nat) : Option AccountSlot := if h : n < 256 then some ⟨n, h⟩ else none

/-- A read kind or lane kind code (R185). -/
def kindOf : Nat → Option ReadKind
  | 0 => some .crate
  | 1 => some .keg
  | _ => none

/-- A two-valued field: the first named is 1, the second 0 (R185). -/
def switchOf : Nat → Option Bool
  | 0 => some false
  | 1 => some true
  | _ => none

/-- A customer class code (R185). -/
def classOf : Nat → Option CustomerClass
  | 0 => some .a
  | 1 => some .b
  | 2 => some .c
  | 3 => some .d
  | _ => none

/-- A rounding mode code (R63, R185). -/
def modeOf : Nat → Option RoundingMode
  | 0 => some .nearestEven
  | 1 => some .nearestUp
  | 2 => some .down
  | 3 => some .up
  | _ => none

/-- An enables field; a bit above 2 names no enable (R116). -/
def enablesOf (b : Byte) : Option Conditions :=
  if b.toNat < 8 then some (b.setWidth 3) else none

/-- A part mask set; bit 7 names no part flag (R170). -/
def partMasksOf (b : Byte) : Option PartFlags :=
  if b.toNat < 128 then some (b.setWidth 7) else none

/-- A lane mask set; bits 10 to 15 name no lane flag (R170). -/
def laneMasksOf (w : Word16) : Option LaneFlags :=
  if w.toNat < 1024 then some (w.setWidth 10) else none

/-- The value for a customer class. -/
def PerClass.of (v : PerClass) : CustomerClass → Nat
  | .a => v.a
  | .b => v.b
  | .c => v.c
  | .d => v.d

/-- Whether an account number lies in 1 to 16,777,215 (R129). -/
def accountInRange (n : Nat) : Bool := 1 ≤ n && n ≤ Config.accountTop

/-- Whether a visit number lies in 1 to 65,535 (R2, R164). -/
def visitInRange (n : Nat) : Bool := 1 ≤ n && n ≤ Config.top16

/-- The record outside FREE that holds a visit number (R2). -/
def State.findVisit (s : State) (n : Nat) : Option VisitSlot :=
  allVisits.find? (fun v => s.visits[v].state != .free && s.visits[v].number == n)

/-- The slot that holds an account number (R129). -/
def State.findAccount (s : State) (n : Nat) : Option AccountSlot :=
  allAccounts.find? (fun a => n != 0 && s.accounts[a].number == n)

/-- The type entry that holds a tag code, by exact match (R107). -/
def State.findType (s : State) (tagCode : Nat) : Option TypeEntry :=
  s.types.find? (fun e => e.tagCode == tagCode)

/-- The tag by which a visit's reads are known: its slot and number (R34). -/
def State.visitTag (s : State) (v : VisitSlot) : VisitTag := ⟨v, s.visits[v].number⟩

/-- The index of a visit's current segment, the last of its list (R4). -/
def Visit.current (v : Visit) : Nat := v.segments.length - 1

def ReadBody.kind : ReadBody → ReadKind
  | .crate _ => .crate
  | .keg _ => .keg

/-- Family of a type entry; POOL has NONE (5.1). -/
def TypeBody.family : TypeBody → Option Family
  | .crate f _ => some f
  | .pool _ => none
  | .keg f _ => some f

/-- The read kind that matches a type's class (R61). -/
def TypeBody.kind : TypeBody → ReadKind
  | .crate _ _ => .crate
  | .pool _ => .crate
  | .keg _ _ => .keg

/-- The contents of a tariff slot; an EMPTY slot holds none (R111). -/
def TariffSlot.contents : TariffSlot → Option Generation
  | .empty => none
  | .pending g => some g
  | .active g _ => some g
  | .retiring g _ => some g

/-- R111. -/
def TariffSlot.state : TariffSlot → TariffState
  | .empty => .empty
  | .pending _ => .pending
  | .active _ _ => .active
  | .retiring _ _ => .retiring

/-- The pin count of a slot: 0 in EMPTY and PENDING (6.1). -/
def TariffSlot.pins : TariffSlot → Nat
  | .empty => 0
  | .pending _ => 0
  | .active _ n => n
  | .retiring _ n => n

/-- The generation number of a slot, 0 when EMPTY (R168). -/
def TariffSlot.generation (t : TariffSlot) : Nat :=
  match t.contents with
  | some g => g.header.generation
  | none => 0

/-- The ACTIVE slot (R111). -/
def State.activeTariff (s : State) : Option TariffIndex :=
  ([0, 1] : List TariffIndex).find? (fun t => s.tariffs[t].state == .active)

/-- The PENDING slot (R120, R122). -/
def State.pendingTariff (s : State) : Option TariffIndex :=
  ([0, 1] : List TariffIndex).find? (fun t => s.tariffs[t].state == .pending)

/-- The other tariff slot. -/
def otherTariff (t : TariffIndex) : TariffIndex := if t = 0 then 1 else 0

/-- The load slot (R114). -/
def State.loadSlot (s : State) : TariffIndex :=
  match s.activeTariff with
  | some t => otherTariff t
  | none => 0

/-- The generation a visit has pinned, as its slot holds it (R58, R125). -/
def State.pinned (s : State) (v : Visit) : Option Generation :=
  v.pin.bind (fun p => s.tariffs[p.slot].contents)

end Sys2Proof.Machine
end

