-- ==== Sys2Proof/Machine/Link.lean ====
section
/-! DEFINITION. Link frames (10.1 to 10.3): the check, the bytes of a frame, and the receivers. -/

namespace Sys2Proof

/-- One bit of the check's register with generator x^16 + x^12 + x^5 + 1 (R180). -/
def crcShift (c : Word16) : Word16 := if c.msb then (c <<< 1) ^^^ 0x1021#16 else c <<< 1

/-- One byte into the check, most significant bit first (R180). -/
def crcByte (c : Word16) (b : Byte) : Word16 :=
  crcShift (crcShift (crcShift (crcShift (crcShift (crcShift (crcShift (crcShift
    (c ^^^ (b.setWidth 16 <<< 8)))))))))

/-- The 16-bit check over a run of bytes, the register set to all ones before the first (R180). -/
def crc (bytes : List Byte) : Word16 := bytes.foldl crcByte 0xFFFF#16

/-- The bytes the check covers: address, kind, tag, flags, length and payload (R179). -/
def Frame.covered (f : Frame) : List Byte :=
  [f.address, f.kind, f.tag, f.flags, BitVec.ofNat 8 f.payload.length] ++ f.payload

/-- The high and the low byte of a 16-bit field. -/
def bytesOfWord (w : Word16) : List Byte := [(w >>> 8).setWidth 8, w.setWidth 8]

/-- A frame as it stands on the line, its sync byte first (R179). -/
def Frame.bytes (f : Frame) : List Byte := 0x7E#8 :: (f.covered ++ bytesOfWord f.check)

/-- The check a frame ought to carry. -/
def Frame.properCheck (f : Frame) : Word16 := crc f.covered

/-- A frame the part originates, with its check (R179). -/
def Frame.make (kind tag flags : Byte) (payload : List Byte) : Frame :=
  let f : Frame := { address := 0, kind := kind, tag := tag, flags := flags, payload := payload, check := 0 }
  { f with check := f.properCheck }

end Sys2Proof

namespace Sys2Proof.Machine

/-- What the bytes held since a sync byte amount to (R181). -/
inductive Candidate where
  /-- the frame is not finished -/
  | incomplete
  /-- its length is above 200, or its check fails -/
  | failed
  /-- its check passes; `after` are the bytes beyond it -/
  | passed (frame : Frame) (after : List Byte)
deriving DecidableEq, Repr

/-- Test the bytes held since a sync byte (R180, R181). -/
def candidate (held : List Byte) : Candidate :=
  match held with
  | address :: kind :: tag :: flags :: len :: rest =>
    if Config.payloadSize < len.toNat then .failed
    else
      match rest.drop len.toNat with
      | high :: low :: after =>
        let f : Frame := { address := address, kind := kind, tag := tag, flags := flags,
                           payload := rest.take len.toNat, check := high ++ low }
        if f.properCheck = f.check then .passed f after else .failed
      | _ => .incomplete
  | _ => .incomplete

/-- The state of a receiver that holds these bytes since its sync byte: HEADER until the length byte,
PAYLOAD until the payload is whole, then CHECK (R181). -/
def Receiver.awaiting (held : List Byte) : Receiver :=
  match held with
  | _ :: _ :: _ :: _ :: len :: rest => if rest.length < len.toNat then .payload held else .check held
  | _ => .header held

/-- What a receiver reports: a failed candidate, or a frame whose check passes. -/
inductive LinkEvent where
  | error
  | frame (f : Frame)
deriving DecidableEq, Repr

/-- A receiver in HUNT takes up a run of bytes (R181). A failed candidate sends it back to the byte after
that candidate's sync byte. `fuel` bounds the bytes. -/
def scan : Nat → List Byte → List LinkEvent × Receiver
  | 0, _ => ([], .hunt)
  | _ + 1, [] => ([], .hunt)
  | fuel + 1, b :: rest =>
    if b = 0x7E#8 then
      match candidate rest with
      | .incomplete => ([], .awaiting rest)
      | .failed =>
        let r := scan fuel rest
        (.error :: r.1, r.2)
      | .passed f after =>
        let r := scan fuel after
        (.frame f :: r.1, r.2)
    else scan fuel rest

/-- The bytes a receiver holds, its sync byte first. -/
def Receiver.bytes : Receiver → List Byte
  | .hunt => []
  | .header held => 0x7E#8 :: held
  | .payload held => 0x7E#8 :: held
  | .check held => 0x7E#8 :: held

/-- One byte into a receiver: what it reports, and its state after (R181). -/
def Receiver.receive (r : Receiver) (b : Byte) : List LinkEvent × Receiver :=
  scan (r.bytes.length + 1) (r.bytes ++ [b])

/-- The frame kinds and their codes (R182). -/
inductive FrameKind where
  | singleRead
  | stackFrame
  | stackCancel
  | laneNotice
  | request
  | response
  | settlementRecord
  | releaseRecord
  | itemRecord
  | noticeRecord
deriving DecidableEq, Repr

def FrameKind.code : FrameKind → Byte
  | .singleRead => 0x21#8
  | .stackFrame => 0x22#8
  | .stackCancel => 0x23#8
  | .laneNotice => 0x24#8
  | .request => 0x40#8
  | .response => 0x41#8
  | .settlementRecord => 0x50#8
  | .releaseRecord => 0x51#8
  | .itemRecord => 0x52#8
  | .noticeRecord => 0x53#8

end Sys2Proof.Machine
end

