-- ==== Sys2Proof/Machine/Flags.lean ====
section
/-! DEFINITION. Latched flags, causes and attention: the bit each name has in its set (R185), latching
(R52, R167), and attention (R171). -/

namespace Sys2Proof.Machine

/-- The place of a part flag in its set, the order of the table of R167. -/
def PartFlag.place : PartFlag → Nat
  | .itemLoss => 0
  | .visitExpired => 1
  | .heldOverflow => 2
  | .floatClamp => 3
  | .tariffRetired => 4
  | .requestOverrun => 5
  | .trunkFrameError => 6

/-- The place of a lane flag in its set, the order of the table of R52. -/
def LaneFlag.place : LaneFlag → Nat
  | .overrun => 0
  | .frameError => 1
  | .orphan => 2
  | .unlisted => 3
  | .diverted => 4
  | .ullageWarn => 5
  | .excess => 6
  | .staleCancel => 7
  | .stackAbandoned => 8
  | .downstreamLoss => 9

def PartFlag.bit (f : PartFlag) : PartFlags := 1#7 <<< f.place

def LaneFlag.bit (f : LaneFlag) : LaneFlags := 1#10 <<< f.place

/-- The seven causes, in the order of their bits (R185). -/
inductive Cause where
  | inexact
  | negative
  | saturate
  | wrongKind
  | invalid
  | fullReturn
  | light
deriving DecidableEq, Repr

def Cause.place : Cause → Nat
  | .inexact => 0
  | .negative => 1
  | .saturate => 2
  | .wrongKind => 3
  | .invalid => 4
  | .fullReturn => 5
  | .light => 6

def Cause.bit (c : Cause) : Causes := 1#7 <<< c.place

/-- The set holding one cause when a condition is raised, and none when it is not. -/
def Cause.when (c : Cause) (raised : Bool) : Causes := if raised then c.bit else 0

/-- The part of a cause set that enables and sticky flags speak of: INEXACT, NEGATIVE, SATURATE (R185). -/
def conditionsOf (c : Causes) : Conditions := c.setWidth 3

/-- Latch a part flag (R167). -/
def State.latchPart (s : State) (f : PartFlag) : State :=
  s.setPartFlags (s.partFlags ||| f.bit)

/-- Latch a part flag when a condition holds. -/
def State.latchPartIf (s : State) (f : PartFlag) (raised : Bool) : State :=
  if raised then s.latchPart f else s

/-- Whether a part flag is latched. -/
def State.partFlag (s : State) (f : PartFlag) : Bool := s.partFlags.getLsbD f.place

/-- A lane with a flag latched (R52). -/
def LanePort.latch (p : LanePort) (f : LaneFlag) : LanePort :=
  { p with flags := p.flags ||| f.bit }

/-- Latch a lane flag (R52). -/
def State.latchLane (s : State) (l : Lane) (f : LaneFlag) : State :=
  s.modifyLane l (fun p => p.latch f)

/-- Latch a lane flag when a condition holds. -/
def State.latchLaneIf (s : State) (l : Lane) (f : LaneFlag) (raised : Bool) : State :=
  if raised then s.latchLane l f else s

/-- Whether a lane flag is latched. -/
def State.laneFlag (s : State) (l : Lane) (f : LaneFlag) : Bool :=
  s.lanes[l].flags.getLsbD f.place

/-- Whether some latched flag of a lane is unmasked. -/
def State.laneAttention (s : State) (l : Lane) : Bool :=
  s.lanes[l].flags &&& ~~~s.laneMasks[l] != 0

/-- Attention as R171 gives it: at least one latched flag, part or lane, is unmasked. -/
def State.attentionNow (s : State) : Bool :=
  (s.partFlags &&& ~~~s.partMasks != 0) || allLanes.any s.laneAttention

/-- Re-evaluate attention and the attention output (R171). -/
def State.reevaluateAttention (s : State) : State :=
  s.setAttention s.attentionNow

end Sys2Proof.Machine
end

