-- ==== Sys2Proof/Machine/Ops.lean ====
section
/-! DEFINITION. The shared operations over the part's state: the Read Queue and its hold output, item
records, tagged counts and the drain, the lanes a visit holds, pins, use counts, floats, and the return of
a visit to FREE. -/

namespace Sys2Proof.Machine

/-! ## Lanes -/

def LanePort.enabled (p : LanePort) : Bool := p.state != .disabled

/-- The visit tag the reads of an arriving frame take (R34). -/
def LanePort.tag (p : LanePort) : Option VisitTag :=
  match p.state with
  | .bound t => some t
  | _ => none

/-- Free entries of the Read Queue (R35). -/
def LanePort.freeEntries (p : LanePort) : Nat := Config.readQueueSize - p.queue.length

/-- The hold output as R35 re-evaluates it. -/
def LanePort.holdNow (p : LanePort) : Bool :=
  if !p.enabled then true
  else if p.freeEntries < 16 then true
  else if 24 ≤ p.freeEntries then false
  else p.hold

/-- Re-evaluate hold (R35). -/
def LanePort.rehold (p : LanePort) : LanePort := { p with hold := p.holdNow }

/-- What follows a removal of entries that is no grant: hold is re-evaluated, and a lane that stops
waiting has its pass count set to 0 (R35, R44). -/
def LanePort.afterRemoval (p : LanePort) : LanePort :=
  { p with hold := p.holdNow, passCount := if p.queue.isEmpty then 0 else p.passCount }

/-- A lane is waiting while its Read Queue holds an entry (R44). -/
def LanePort.waiting (p : LanePort) : Bool := !p.queue.isEmpty

/-- The effective level of a lane under an aging limit (R45). -/
def LanePort.effectiveLevel (p : LanePort) (aging : Nat) : Nat :=
  if p.waiting && 1 ≤ aging && aging ≤ 15 && aging ≤ p.passCount then 4 else p.level

/-- Items in the Stack Context. -/
def LanePort.staged (p : LanePort) : List StagedItem :=
  match p.context with
  | some c => c.items
  | none => []

def ReadEntry.ofStack (n : Nat) (e : ReadEntry) : Bool := e.member.any (fun m => m.stack == n)

/-- A stack is pending while any of its reads is in the Read Queue or the Stack Context (R38). -/
def LanePort.stackPending (p : LanePort) (n : Nat) : Bool :=
  p.queue.any (fun e => e.ofStack n) || p.context.any (fun c => c.stack == n)

/-- The stack numbers pending on a lane, in queue order: the staged stack's reads were ahead (R54). -/
def LanePort.pendingStacks (p : LanePort) : List Nat :=
  ((p.context.map (fun c => c.stack)).toList ++
    p.queue.filterMap (fun e => e.member.map (fun m => m.stack))).eraseDups

/-- The frames of a lane transmit queue that have not started are discarded; the one in transmission, the
oldest, stays (R50). -/
def LanePort.dropUnstarted (p : LanePort) : LanePort := { p with txQueue := p.txQueue.take 1 }

/-- Count a frame error and latch FRAME_ERROR on an enabled lane; a DISABLED lane changes nothing (R36). -/
def State.laneError (s : State) (l : Lane) : State :=
  s.modifyLane l (fun p =>
    if p.enabled then
      { p.latch .frameError with frameErrors := satAdd Config.top16 p.frameErrors 1 }
    else p)

/-! ## Item records -/

/-- Place an item or notice record, or drop it with a count and ITEM_LOSS (R41, R93). -/
def State.placeItem (s : State) (e : ItemEntry) : State :=
  if s.items.length < Config.itemQueueSize then s.setItems (s.items ++ [e])
  else (s.setLossCount (satAdd Config.top16 s.lossCount 1)).latchPart .itemLoss

/-- Offer an item record under the lane's item reporting switch (R93). -/
def State.offerRecord (s : State) (r : ItemRecord) : State :=
  if s.lanes[r.lane].reporting then s.placeItem (.item r) else s

/-- Offer item records one after another. -/
def State.offerRecords (s : State) (rs : List ItemRecord) : State :=
  rs.foldl State.offerRecord s

/-- The CANCELLED or ABANDONED record of a staged item (R94). -/
def stagedRecord (l : Lane) (outcome : ItemOutcome) (c : StackContext) (i : StagedItem) : ItemRecord where
  lane := l
  visit := c.tag.number
  segment := c.segment
  tagCode := i.tagCode
  outcome := outcome
  causes := i.priced.causes
  credit := i.priced.credit
  stack := some (c.stack, i.position)

/-- The CANCELLED or ABANDONED record of a queued item (R94). -/
def State.queuedRecord (s : State) (l : Lane) (outcome : ItemOutcome) (e : ReadEntry) : ItemRecord where
  lane := l
  visit := match e.tag with
    | some t => t.number
    | none => 0
  segment := match e.tag with
    | some t => s.visits[t.slot].current
    | none => 0
  tagCode := e.tagCode
  outcome := outcome
  causes := 0
  credit := 0
  stack := e.member.map (fun m => (m.stack, m.position))

/-- A choice of a lane's items: which Stack Context, and which Read Queue entries. -/
structure Choice where
  staged : StackContext → Bool
  queued : ReadEntry → Bool

/-- The items that carry a visit's tag (R20, R24). -/
def Choice.ofVisit (t : VisitTag) : Choice where
  staged c := c.tag == t
  queued e := e.tag == some t

/-- The items of a stack (R39). -/
def Choice.ofStack (n : Nat) : Choice where
  staged c := c.stack == n
  queued e := e.ofStack n

/-- The chosen staged items of a lane. -/
def LanePort.chosenStaged (p : LanePort) (c : Choice) : List StagedItem :=
  match p.context with
  | some x => if c.staged x then x.items else []
  | none => []

/-- The number of chosen items of a lane. -/
def LanePort.chosenCount (p : LanePort) (c : Choice) : Nat :=
  (p.chosenStaged c).length + (p.queue.filter c.queued).length

/-- A lane less its chosen items; the remaining entries keep their order (R34). -/
def LanePort.without (p : LanePort) (c : Choice) : LanePort :=
  LanePort.afterRemoval
    { p with
      context := p.context.filter (fun x => !c.staged x)
      queue := p.queue.filter (fun e => !c.queued e) }

/-- The records of a lane's chosen items: the Stack Context's in position order, then the Read Queue's,
oldest first (R20, R24, R39). -/
def State.removalRecords (s : State) (l : Lane) (outcome : ItemOutcome) (c : Choice) : List ItemRecord :=
  (match s.lanes[l].context with
    | some x => if c.staged x then x.items.map (stagedRecord l outcome x) else []
    | none => []) ++
  (s.lanes[l].queue.filter c.queued).map (s.queuedRecord l outcome)

/-- Remove a lane's chosen items, each with its record. -/
def State.removeItems (s : State) (l : Lane) (outcome : ItemOutcome) (c : Choice) : State :=
  (s.offerRecords (s.removalRecords l outcome c)).modifyLane l (fun p => p.without c)

/-! ## Tagged counts and the drain -/

/-- Whether a tag names a record outside FREE, by slot and number (R6). -/
def State.tagLive (s : State) (t : VisitTag) : Bool :=
  s.visits[t.slot].state != .free && s.visits[t.slot].number == t.number

/-- Reads that enter a Read Queue raise their visit's tagged count (R6). -/
def State.raiseTagged (s : State) (t : Option VisitTag) (n : Nat) : State :=
  match t with
  | some t =>
    if s.tagLive t then s.modifyVisit t.slot (fun v => { v with tagged := v.tagged + n }) else s
  | none => s

/-- Tagged items that leave their lane lower their visit's tagged count (R6). -/
def State.lowerTagged (s : State) (t : VisitTag) (n : Nat) : State :=
  if s.tagLive t then s.modifyVisit t.slot (fun v => { v with tagged := v.tagged - n }) else s

/-- A visit enters SETTLING: grace remaining is 0, and it joins the tail of the settle-wait list (R22). -/
def State.enterSettling (s : State) (v : VisitSlot) : State :=
  (s.modifyVisit v (fun r => { r with state := .settling, grace := 0 })).setSettleWait
    (s.settleWait ++ [s.visitTag v])

/-- Whether a visit has completed its drain (R19). -/
def State.drained (s : State) (v : VisitSlot) : Bool :=
  s.visits[v].state == .closing && s.visits[v].tagged == 0

/-- A CLOSING visit whose tagged count is 0 enters SETTLING (R19). -/
def State.completeDrain (s : State) (v : VisitSlot) : State :=
  if s.drained v then s.enterSettling v else s

/-- Items leave their visit's tagged count, which may complete its drain (R6, R19). -/
def State.drainTagged (s : State) (t : VisitTag) (n : Nat) : State :=
  (s.lowerTagged t n).completeDrain t.slot

/-! ## The lanes of a visit -/

/-- Every lane of a set that is BOUND passes to IDLE. -/
def State.unbindLanes (s : State) (lanes : LaneSet) : State :=
  s.mapLanes (fun l p => if inSet lanes l then { p with state := .idle } else p)

/-- A visit gives up its lanes (R15, R24). -/
def State.giveUpLanes (s : State) (v : VisitSlot) : State :=
  (s.unbindLanes s.visits[v].laneSet).modifyVisit v (fun r => { r with laneSet := 0 })

/-- Every IDLE lane of a set becomes BOUND to the visit, and the set joins the visit's lane set (R7). -/
def State.bindClaimed (s : State) (v : VisitSlot) (lanes : LaneSet) : State :=
  (s.mapLanes (fun l p =>
    if inSet lanes l && p.state == .idle then { p with state := .bound (s.visitTag v) }
    else p)).modifyVisit v (fun r => { r with laneSet := r.laneSet ||| lanes })

/-- Whether a lane is BOUND to a visit other than the one named. -/
def LanePort.heldByOther (p : LanePort) (t : VisitTag) : Bool :=
  match p.state with
  | .bound u => u != t
  | _ => false

/-- The failure of a lane claim and the lane its response carries (R7). -/
def State.claimFailure (s : State) (t : VisitTag) (lanes : LaneSet) : Option (ResponseCode × Lane) :=
  match allLanes.find? (fun l => inSet lanes l && !s.lanes[l].enabled) with
  | some l => some (.laneDisabled, l)
  | none =>
    match allLanes.find? (fun l => inSet lanes l && s.lanes[l].heldByOther t) with
    | some l => some (.laneHeld, l)
    | none => none

/-- A visit leaves OPEN with its close cause (R15): lanes given up, grace loaded, CLOSING, and SETTLING in
the same event when its tagged count is already 0. -/
def State.leaveOpen (s : State) (v : VisitSlot) (cause : CloseCause) : State :=
  ((s.giveUpLanes v).modifyVisit v (fun r =>
    { r with cause := cause, state := .closing, grace := s.graceSeconds })).completeDrain v

/-! ## Segments, pins, use counts and floats -/

/-- A segment as its creation makes it (R4). -/
def newSegment (a : AccountSlot) (r : Account) : Segment where
  accountSlot := a
  accountNumber := r.number
  cls := r.cls
  lines := []
  overflow := ⟨0, 0, 0, 0, 0⟩
  unlisted := 0
  diverted := 0
  excess := 0
  gross := 0
  excessCredit := 0
  floatTaken := Vector.replicate 8 0
  sticky := 0

/-- Create a segment of a visit for an account (R4, R130). -/
def State.addSegment (s : State) (v : VisitSlot) (a : AccountSlot) : State :=
  (s.modifyVisit v (fun r => { r with segments := r.segments ++ [newSegment a s.accounts[a]] })).modifyAccount a
    (fun r => { r with useCount := r.useCount + 1 })

/-- Open Visit pins the ACTIVE slot (R123). -/
def TariffSlot.addPin : TariffSlot → TariffSlot
  | .active g n => .active g (n + 1)
  | t => t

/-- A visit's pin is released (R124): a RETIRING slot whose last pin this was retires and latches
TARIFF_RETIRED. -/
def State.unpin (s : State) (p : Option Pin) : State :=
  match p with
  | none => s
  | some p =>
    match s.tariffs[p.slot] with
    | .active g n => s.setTariff p.slot (.active g (n - 1))
    | .retiring g n =>
      if n ≤ 1 then (s.setTariff p.slot .empty).latchPart .tariffRetired
      else s.setTariff p.slot (.retiring g (n - 1))
    | .empty => s
    | .pending _ => s

/-- The use count of each segment's account slot falls by one, in segment order (R23, R130). -/
def State.dropUses (s : State) (gs : List Segment) : State :=
  gs.foldl (fun s g => s.modifyAccount g.accountSlot (fun r => { r with useCount := r.useCount - 1 })) s

/-- A visit record returns to FREE (R23). -/
def State.freeVisit (s : State) (v : VisitSlot) : State :=
  ((s.dropUses s.visits[v].segments).unpin s.visits[v].pin).modifyVisit v (fun _ => Visit.free)

/-- The float of an account and family. -/
def State.float (s : State) (a : AccountSlot) (f : Family) : Nat := s.accounts[a].floats[f]

/-- Write the float of an account and family. -/
def State.setFloatValue (s : State) (a : AccountSlot) (f : Family) (n : Nat) : State :=
  s.modifyAccount a (fun r => { r with floats := upd r.floats f (fun _ => n) })

/-- Increase a float, stopping at 65,535 with FLOAT_CLAMP (R135). -/
def State.addFloat (s : State) (a : AccountSlot) (f : Family) (n : Nat) : State :=
  (s.setFloatValue a f (satAdd Config.top16 (s.float a f) n)).latchPartIf .floatClamp
    (Config.top16 < s.float a f + n)

/-- A segment's float taken goes back to its account, family by family (R25). -/
def State.addBackSegment (s : State) (g : Segment) : State :=
  allFamilies.foldl (fun s f => s.addFloat g.accountSlot f g.floatTaken[f]) s

/-- Every segment's float taken goes back, in segment order (R25). -/
def State.addBack (s : State) (gs : List Segment) : State :=
  gs.foldl State.addBackSegment s

/-- The amount of a segment's float taken that its account can take back, over the families (R26). -/
def State.returnable (s : State) (g : Segment) : Nat :=
  (allFamilies.map (fun f =>
    satAdd Config.top16 (s.float g.accountSlot f) g.floatTaken[f] - s.float g.accountSlot f)).sum

/-! ## Purges -/

/-- Remove a visit's tagged items from every lane, lane 0 first, each with its record (R20, R24). -/
def State.purgeVisit (s : State) (outcome : ItemOutcome) (t : VisitTag) : State :=
  allLanes.foldl (fun s l => s.removeItems l outcome (Choice.ofVisit t)) s

/-- The number of items, over all lanes, that carry a visit's tag (R6). -/
def State.taggedItems (s : State) (t : VisitTag) : Nat :=
  (allLanes.map (fun l => s.lanes[l].chosenCount (Choice.ofVisit t))).sum

/-- Set a visit's tagged count to 0, its items having been purged (R20, R24). -/
def State.clearTagged (s : State) (v : VisitSlot) : State :=
  s.modifyVisit v (fun r => { r with tagged := 0 })

end Sys2Proof.Machine
end

