-- ==== Sys2Proof/Machine/Encode.lean ====
section
/-! DEFINITION. The bytes of responses and records (10.4 to 10.8): field widths and enumeration codes
(R185), the detail of every response (R188), and the record payloads (R190 to R192). -/

namespace Sys2Proof.Machine

/-! ## Fields -/

/-- A one-byte field. -/
def be8 (n : Nat) : List Byte := [BitVec.ofNat 8 n]

/-- A two-byte field, most significant byte first. -/
def be16 (n : Nat) : List Byte := [BitVec.ofNat 8 (n / 256), BitVec.ofNat 8 n]

/-- A three-byte field. -/
def be24 (n : Nat) : List Byte := [BitVec.ofNat 8 (n / 65536), BitVec.ofNat 8 (n / 256), BitVec.ofNat 8 n]

/-- A four-byte field. -/
def be32 (n : Nat) : List Byte :=
  [BitVec.ofNat 8 (n / 16777216), BitVec.ofNat 8 (n / 65536), BitVec.ofNat 8 (n / 256), BitVec.ofNat 8 n]

/-- A two-valued field: the first named is 1, the second 0. -/
def beFlag (b : Bool) : List Byte := be8 (if b then 1 else 0)

/-- An unsigned number in a number of bytes, most significant byte first (R185). -/
def beBytes : Nat → Nat → List Byte
  | 0, _ => []
  | width + 1, n => BitVec.ofNat 8 (n / 256 ^ width) :: beBytes width n

/-! ## Enumeration codes (R185) -/

def CustomerClass.code : CustomerClass → Nat
  | .a => 0
  | .b => 1
  | .c => 2
  | .d => 3

def kindCode : ReadKind → Nat
  | .crate => 0
  | .keg => 1

def familyCode : Option Family → Nat
  | some f => f.val
  | none => 255

def RoundingMode.code : RoundingMode → Nat
  | .nearestEven => 0
  | .nearestUp => 1
  | .down => 2
  | .up => 3

def VisitState.code : VisitState → Nat
  | .free => 0
  | .opened => 1
  | .closing => 2
  | .settling => 3

def CloseCause.code : CloseCause → Nat
  | .notClosed => 0
  | .requested => 1
  | .expired => 2

def LaneState.code : LaneState → Nat
  | .disabled => 0
  | .idle => 1
  | .bound _ => 2

def TariffState.code : TariffState → Nat
  | .empty => 0
  | .pending => 1
  | .active => 2
  | .retiring => 3

def ItemOutcome.code : ItemOutcome → Nat
  | .credited => 0
  | .excess => 1
  | .diverted => 2
  | .unlisted => 3
  | .orphan => 4
  | .cancelled => 5
  | .abandoned => 6

def AccountAction.code : AccountAction → Nat
  | .created => 0
  | .updated => 1
  | .renumbered => 2

def MissingEntry.code : MissingEntry → Nat
  | .visit => 0
  | .account => 1

/-- Response codes are numbered in the order of the table of R165 (R188). -/
def ResponseCode.number : ResponseCode → Nat
  | .ok => 0
  | .malformed => 1
  | .unknownRequest => 2
  | .noEntry => 3
  | .duplicate => 4
  | .tableFull => 5
  | .queueFull => 6
  | .laneHeld => 7
  | .laneDisabled => 8
  | .inUse => 9
  | .wrongState => 10
  | .tariffBusy => 11
  | .checkMismatch => 12
  | .noTariff => 13
  | .segmentsFull => 14
  | .tooLate => 15
  | .frozen => 16
  | .visitsFull => 17

/-! ## Groups of fields -/

def Tally.bytes (t : Tally) : List Byte :=
  be16 t.sound ++ be16 t.damaged ++ be16 t.scrap ++ be24 t.bottles ++ be32 t.credit

/-- A count line, 16 bytes (R189). -/
def CountLine.bytes (x : CountLine) : List Byte :=
  be16 x.tagCode ++ be8 (familyCode x.family) ++ x.tally.bytes

def floatTakenBytes (v : Vector Nat 8) : List Byte := v.toList.flatMap be24

def floatBytes (v : Vector Nat 8) : List Byte := v.toList.flatMap be16

def PerClass.bytes (p : PerClass) : List Byte := be16 p.a ++ be16 p.b ++ be16 p.c ++ be16 p.d

def TariffHeader.bytes (h : TariffHeader) : List Byte :=
  be16 h.generation ++ be8 h.mode.code ++ h.fees.bytes ++ be8 h.enables.toNat

def Schedule.bytes (x : Schedule) : List Byte :=
  beFlag x.defined ++ x.deposits.bytes ++ be16 x.bottle ++ be8 x.damaged ++ be16 x.ullage

def KegLimits.bytes (k : KegLimits) : List Byte :=
  be16 k.tare ++ be16 k.tolerance ++ be16 k.fullLimit ++ be16 k.lightLimit

/-- Container class codes: CRATE 0, POOL 1, KEG 2 (R185). -/
def TypeBody.classCode : TypeBody → Nat
  | .crate _ _ => 0
  | .pool _ => 1
  | .keg _ _ => 2

/-- The class-specific part of a type entry (R105). -/
def TypeBody.partBytes : TypeBody → List Byte
  | .crate _ map => be24 map.toNat
  | .pool map => be24 map.toNat
  | .keg _ k => k.bytes

/-- Tag code, class, family, schedule and class-specific part (R105). -/
def TypeEntry.bytes (e : TypeEntry) : List Byte :=
  be16 e.tagCode ++ be8 e.body.classCode ++ be8 (familyCode e.body.family) ++ be8 e.schedule.val ++
    e.body.partBytes

/-- The fields of R134 after the slot number. -/
def AccountReport.fields (r : AccountReport) : List Byte :=
  be24 r.number ++ be8 r.cls.code ++ beFlag r.frozen ++ floatBytes r.floats ++ be32 r.held ++
    be32 r.paidToday ++ be32 r.ceiling ++ be32 r.room ++ be8 r.useCount

/-- The header of a Read Visit (R28). -/
def VisitReport.bytes (r : VisitReport) : List Byte :=
  be16 r.number ++ be8 r.slot.val ++ be8 r.state.code ++ be8 r.cause.code ++
    (match r.pin with
      | some p => be8 p.slot.val ++ be16 p.generation
      | none => be8 0 ++ be16 0) ++
    be8 r.laneSet.toNat ++ be8 r.minutes ++ be16 r.elapsed ++ be8 r.grace ++ be16 r.tagged ++ be8 r.segments

/-- A segment as Read Visit reports it, its count lines standing as their count: the lines themselves go in
the second frame (R28, R189). -/
def Segment.reportBytes (g : Segment) : List Byte :=
  be24 g.accountNumber ++ be8 g.accountSlot.val ++ be8 g.cls.code ++ be8 g.lines.length ++
    g.overflow.bytes ++ be16 g.unlisted ++ be16 g.diverted ++ be16 g.excess ++ be32 g.gross ++
    be32 g.excessCredit ++ floatTakenBytes g.floatTaken ++ be8 g.sticky.toNat

def VoidEntry.bytes (e : VoidEntry) : List Byte :=
  be24 e.account ++ be32 e.committed ++ be16 e.unlisted ++ be16 e.diverted ++ be16 e.excess ++ be32 e.returned

/-- The bound visit's number and slot, 0 when not BOUND (R54, R185). -/
def LaneState.visitBytes : LaneState → List Byte
  | .bound t => be16 t.number ++ be8 t.slot.val
  | .disabled => be16 0 ++ be8 0
  | .idle => be16 0 ++ be8 0

/-- The fields of R54, in order. -/
def LaneReport.bytes (r : LaneReport) : List Byte :=
  be8 r.state.code ++ r.state.visitBytes ++ be8 (kindCode r.kind) ++ be8 r.level ++ beFlag r.reporting ++
    be8 r.queued ++ beFlag r.hold ++ be8 r.pendingStacks.length ++ r.pendingStacks.flatMap be8 ++
    be8 r.staged ++
    (match r.context with
      | some (stack, visit, segment) => be8 stack ++ be16 visit ++ be8 segment
      | none => be8 0 ++ be16 0 ++ be8 0) ++
    be8 r.transmitting ++ be8 r.passCount ++ be8 r.effectiveLevel ++ be16 r.accepted ++
    be16 r.frameErrors ++ be16 r.overruns ++ be16 r.orphans ++ be16 r.abandoned ++ be16 r.downLosses ++
    be16 r.flags.toNat

def laneSetsBytes (v : Vector LaneFlags 6) : List Byte := v.toList.flatMap (fun x => be16 x.toNat)

/-- The fields of R168, in order. -/
def StatusReport.bytes (r : StatusReport) : List Byte :=
  be8 r.partFlags.toNat ++ laneSetsBytes r.laneFlags ++ be8 r.partMasks.toNat ++ laneSetsBytes r.laneMasks ++
    beFlag r.attention ++ be16 r.lossCount ++
    r.visits.flatMap (fun x => be8 x.1.code ++ be16 x.2) ++
    r.tariffs.flatMap (fun x => be8 x.1.code ++ be16 x.2.1 ++ be8 x.2.2) ++
    be8 r.grace ++ be8 r.aging

/-- The widths of the nine capacities of R166, in the order of its table. Type entries, count lines and
segments are numbers that R185 gives 1 byte; the other six widths are open: 1 to 4 bytes, wide enough for the
value (log 24). -/
def capacityWidths : List Nat :=
  let wide := fun n least => max least ((Config.capacityWidth n).val + 1)
  [wide 0 1, wide 1 1, 1, wide 2 1, wide 3 1, wide 4 2, wide 5 1, 1, 1]

/-- The capacities of an Identify response, one field after another with no gaps (R166, R185). -/
def capacityBytes (values : List Nat) : List Byte := (List.zipWith beBytes capacityWidths values).flatten

/-! ## Messages -/

/-- The detail of a response, less the count lines that go in its second frame (R188, R189). The amount not
recorded of an Issue Containers is sent in 2 bytes, as the container count is: R185 does not name it, and the
width is the model's choice (log 26). -/
def Detail.bytes : Detail → List Byte
  | .empty => []
  | .visitOpened n v g m ls => be16 n ++ be8 v.val ++ be16 g ++ be8 m ++ be8 ls.toNat
  | .lane l => be8 l.val
  | .visitState st => be8 st.code
  | .missing e => be8 e.code
  | .laneSet ls => be8 ls.toNat
  | .segmentAdded i n => be8 i ++ be8 n
  | .visitClosed st n g => be8 st.code ++ be16 n ++ be8 g
  | .visitCancelled n st k es => be16 n ++ be8 st.code ++ be16 k ++ be8 es.length ++ es.flatMap VoidEntry.bytes
  | .visitFree => be8 VisitState.free.code
  | .visitHeader r => r.bytes
  | .visitSegment r g => r.bytes ++ g.reportBytes
  | .laneBusy st q c => be8 st.code ++ be8 q ++ be8 c
  | .laneConfigured st k lv rep => be8 st.code ++ be8 (kindCode k) ++ be8 lv ++ beFlag rep
  | .itemsRemoved n => be8 n
  | .laneReport r => r.bytes
  | .typeRefused t n => be16 t ++ be8 n
  | .typeWritten replaced i n => beFlag replaced ++ be8 i ++ be8 n
  | .typeCount n => be8 n
  | .typeDeleted i n => be8 i ++ be8 n
  | .typeAbsent n i => be8 n ++ be8 i
  | .typeReport i n e => be8 i ++ be8 n ++ e.bytes
  | .headerWritten t st g => be8 t.val ++ be8 st.code ++ be16 g
  | .scheduleWritten t k st => be8 t.val ++ be8 k ++ be8 st.code
  | .tariffBusy t g n => be8 t.val ++ be16 g ++ be8 n
  | .tariffEmpty t => be8 t.val ++ be8 TariffState.empty.code ++ be8 0
  | .tariffHeader t st n h defined check =>
    be8 t.val ++ be8 st.code ++ be8 n ++ h.bytes ++ be16 defined.toNat ++ be16 check
  | .tariffSchedule t st n x => be8 t.val ++ be8 st.code ++ be8 n ++ x.bytes
  | .tariffStates s0 g0 s1 g1 => be8 s0.code ++ be16 g0 ++ be8 s1.code ++ be16 g1
  | .checkMismatch t e c => be8 t.val ++ be16 e ++ be16 c
  | .promoted t g c former =>
    be8 t.val ++ be16 g ++ be16 c ++
      (match former with
        | some (o, st, n) => be8 o.val ++ be8 st.code ++ be8 n
        | none => be8 0 ++ be8 0 ++ be8 0)
  | .pendingDiscarded t => be8 t.val
  | .accountHolder a => be8 a.val
  | .accountInUse n u => be24 n ++ be8 u
  | .accountWritten act r => be8 r.slot.val ++ be8 act.code ++ r.fields
  | .deleteUse u => be8 u ++ be8 0
  | .deleteHeld h => be32 h ++ be8 1
  | .accountDeleted a fs p => be8 a.val ++ floatBytes fs ++ be32 p
  | .accountReport r => be8 r.slot.val ++ r.fields
  | .containersIssued f b a u => be8 f.val ++ be16 b ++ be16 a ++ be16 u
  | .floatSet f b a => be8 f.val ++ be16 b ++ be16 a
  | .freezeRun p n r a => be16 p ++ be16 n ++ be16 r ++ be16 a
  | .dayClosed sum n => be32 sum ++ be16 n
  | .heldBalance h => be32 h
  | .released a h p => be32 a ++ be32 h ++ be32 p
  | .identity v p r cs => be16 v ++ be16 p ++ be16 r ++ capacityBytes cs
  | .status r => r.bytes
  | .masks part lanes att => be8 part.toNat ++ laneSetsBytes lanes ++ beFlag att
  | .parameters g a => be8 g ++ be8 a
  | .partReset c k i r p => be8 c ++ be8 k ++ be16 i ++ be8 r ++ be8 p
  | .unknownCode c => [c]

/-- The count lines a response carries in a second frame (R189). -/
def Detail.lines : Detail → List CountLine
  | .visitSegment _ g => g.lines
  | _ => []

/-- A message: what one entry of a trunk queue holds (R189). -/
inductive Message where
  | response (r : Response)
  | settlement (e : SettlementEntry)
  | item (e : ItemEntry)
deriving DecidableEq, Repr

/-- An Item Record's payload (R190). -/
def ItemRecord.bytes (r : ItemRecord) : List Byte :=
  be8 r.lane.val ++ be16 r.visit ++ be8 r.segment ++ be16 r.tagCode ++ be8 r.outcome.code ++
    be8 r.causes.toNat ++ be24 r.credit ++
    (match r.stack with
      | some (n, p) => be8 n ++ be8 p
      | none => be8 0 ++ be8 0)

/-- The first frame's payload of a Settlement Record (R191). -/
def SettlementRecord.bytes (r : SettlementRecord) : List Byte :=
  be16 r.visit ++ be8 r.index ++ be8 r.count ++ be24 r.segment.accountNumber ++ be8 r.segment.cls.code ++
    be16 r.generation ++ be8 r.cause.code ++
    be8 r.segment.lines.length ++ beFlag r.frozen ++ be8 r.segment.sticky.toNat ++
    r.segment.overflow.bytes ++
    be16 r.segment.unlisted ++ be16 r.segment.diverted ++ be16 r.segment.excess ++
    floatTakenBytes r.segment.floatTaken ++
    be32 r.segment.gross ++ be32 r.segment.excessCredit ++ be32 r.fee ++ be32 r.payout ++
    be32 r.heldAdded ++ be32 r.unplaced

/-- The kind of a message's frames (R182). -/
def Message.kind : Message → FrameKind
  | .response _ => .response
  | .settlement (.settled _) => .settlementRecord
  | .settlement (.release _ _ _) => .releaseRecord
  | .item (.item _) => .itemRecord
  | .item (.notice _ _) => .noticeRecord

/-- The tag of a message's frames: the request tag in a response, 0 elsewhere (R179). -/
def Message.tag : Message → Byte
  | .response r => r.tag
  | .settlement _ => 0
  | .item _ => 0

/-- The payload of a message's only or first frame (R188, R190 to R192). -/
def Message.payload : Message → List Byte
  | .response r => r.request :: (be8 r.code.number ++ r.detail.bytes)
  | .settlement (.settled r) => r.bytes
  | .settlement (.release account amount held) => be24 account ++ be32 amount ++ be32 held
  | .item (.item r) => r.bytes
  | .item (.notice l bytes) => be8 l.val ++ bytes

/-- The count lines that make a message one of two frames (R189). -/
def Message.lines : Message → List CountLine
  | .response r => r.detail.lines
  | .settlement (.settled r) => r.segment.lines
  | .settlement (.release _ _ _) => []
  | .item _ => []

/-- The payload of a second frame: the line count and the count lines (R189). -/
def linesPayload (xs : List CountLine) : List Byte := be8 xs.length ++ xs.flatMap CountLine.bytes

/-- The flags byte: bit 0 attention, bit 1 continued (R179). -/
def flagsByte (attention continued : Bool) : Byte :=
  (if attention then 1#8 else 0#8) ||| (if continued then 2#8 else 0#8)

/-- The only or first frame of a message, attention as it stands at the frame's start (R171, R189). -/
def Message.firstFrame (m : Message) (attention : Bool) : Frame :=
  Frame.make m.kind.code m.tag (flagsByte attention (!m.lines.isEmpty)) m.payload

/-- The second frame of a message (R189). -/
def Message.secondFrame (m : Message) (attention : Bool) : Frame :=
  Frame.make m.kind.code m.tag (flagsByte attention false) (linesPayload m.lines)

end Sys2Proof.Machine
end

