-- ==== Sys2Proof/Decode.lean ====
section
/-! DEFINITION. Reading the commands that the links carry as bytes: a Request's payload (R187), a lane
frame's payload (R184, R186), and `decodeTableWord` over the table's bits. After the decoder, the encoder
of a request, from the same layouts. -/

namespace Sys2Proof

/-! ## Fields -/

/-- A two-byte number, most significant byte first (R185). -/
def nat16 (a b : Byte) : Nat := a.toNat * 256 + b.toNat

/-- A three-byte number. -/
def nat24 (a b c : Byte) : Nat := (a.toNat * 256 + b.toNat) * 256 + c.toNat

/-- A four-byte number. -/
def nat32 (a b c d : Byte) : Nat := ((a.toNat * 256 + b.toNat) * 256 + c.toNat) * 256 + d.toNat

/-- A slot map: bit 0 of its last byte is position 0 (R185). -/
def mapOf (a b c : Byte) : SlotMap := a ++ b ++ c

/-! ## Requests -/

/-- What a Request's payload amounts to (R163, R187). -/
inductive RequestForm where
  /-- a request of section 9.3, its fields filling the length its kind requires -/
  | request (r : Request)
  /-- a request code that section 9.3 does not list -/
  | unknown (code : Byte)
  /-- a payload of the wrong length, or a selector other than 0 and 1 -/
  | malformed (code : Byte)
deriving DecidableEq, Repr

/-- A field list read into a request, or MALFORMED. -/
def RequestForm.of (code : Byte) : Option Request → RequestForm
  | some r => .request r
  | none => .malformed code

/-- The fields of a Write Type (R187): 8 bytes for CRATE and POOL and 13 for KEG; with another class code, any
length from 3 upward. -/
def decodeWriteType : List Byte → Option Request
  | t1 :: t0 :: cls :: rest =>
    match cls.toNat, rest with
    | 0, [f, sch, a, b, c] =>
      some (.writeType (nat16 t1 t0) (.crate (mapOf a b c)) f.toNat sch.toNat)
    | 1, [f, sch, a, b, c] =>
      some (.writeType (nat16 t1 t0) (.pool (mapOf a b c)) f.toNat sch.toNat)
    | 2, [f, sch, a1, a0, b1, b0, c1, c0, d1, d0] =>
      some (.writeType (nat16 t1 t0)
        (.keg (nat16 a1 a0) (nat16 b1 b0) (nat16 c1 c0) (nat16 d1 d0)) f.toNat sch.toNat)
    | 0, _ => none
    | 1, _ => none
    | 2, _ => none
    | n, rest =>
      some (.writeType (nat16 t1 t0) (.unknown n) (rest.getD 0 0).toNat (rest.getD 1 0).toNat)
  | _ => none

/-- The fields of a request code: none when their length or a selector is wrong. -/
def decodeFields (code : Nat) (fields : List Byte) : Option Request :=
  match code, fields with
  | 0x01, [a, b, c, ls, m] => some (.openVisit (nat24 a b c) ls m.toNat)
  | 0x02, [a, b, ls] => some (.bindLanes (nat16 a b) ls)
  | 0x03, [a, b, ls] => some (.releaseLanes (nat16 a b) ls)
  | 0x04, [a, b, c, d, e] => some (.nextSegment (nat16 a b) (nat24 c d e))
  | 0x05, [a, b] => some (.closeVisit (nat16 a b))
  | 0x06, [a, b] => some (.cancelVisit (nat16 a b))
  | 0x07, [sel, a, b, k] =>
    match sel.toNat with
    | 1 => some (.readVisit (.number (nat16 a b)) k.toNat)
    | 0 => some (.readVisit (.slot (nat16 a b)) k.toNat)
    | _ => none
  | 0x10, [l, en, k, lv, rep] => some (.configureLane l.toNat en.toNat k.toNat lv.toNat rep.toNat)
  | 0x11, [l] => some (.laneReset l.toNat)
  | 0x12, [l] => some (.readLane l.toNat)
  | 0x18, fields => decodeWriteType fields
  | 0x19, [a, b] => some (.deleteType (nat16 a b))
  | 0x1A, [sel, a, b] =>
    match sel.toNat with
    | 1 => some (.readTypeByTagCode (nat16 a b))
    | 0 => some (.readTypeByIndex (nat16 a b))
    | _ => none
  | 0x20, [g1, g0, m, a1, a0, b1, b0, c1, c0, d1, d0, en] =>
    some (.writeTariffHeader (nat16 g1 g0) m.toNat (nat16 a1 a0) (nat16 b1 b0) (nat16 c1 c0) (nat16 d1 d0) en)
  | 0x21, [k, d, a1, a0, b1, b0, c1, c0, d1, d0, e1, e0, f, u1, u0] =>
    some (.writeSchedule k.toNat d.toNat (nat16 a1 a0) (nat16 b1 b0) (nat16 c1 c0) (nat16 d1 d0)
      (nat16 e1 e0) f.toNat (nat16 u1 u0))
  | 0x22, [t, p] => some (.readTariff t.toNat p.toNat)
  | 0x23, [a, b] => some (.promoteTariff (nat16 a b))
  | 0x24, [] => some .discardPending
  | 0x28, [sl, a, b, c, cl, fr, x3, x2, x1, x0] =>
    some (.writeAccount sl.toNat (nat24 a b c) cl.toNat fr.toNat (nat32 x3 x2 x1 x0))
  | 0x29, [a, b, c] => some (.deleteAccount (nat24 a b c))
  | 0x2A, [sel, a, b, c] =>
    match sel.toNat with
    | 1 => some (.readAccount (.number (nat24 a b c)))
    | 0 => some (.readAccount (.slot (nat24 a b c)))
    | _ => none
  | 0x2B, [a, b, c, f, x, y] => some (.issueContainers (nat24 a b c) f.toNat (nat16 x y))
  | 0x2C, [a, b, c, f, x, y] => some (.setFloat (nat24 a b c) f.toNat (nat16 x y))
  | 0x2D, [st, x, y, m] => some (.freezeRun st.toNat (nat16 x y) m.toNat)
  | 0x2E, [] => some .dayClose
  | 0x30, [a, b, c, x3, x2, x1, x0] => some (.releaseHeld (nat24 a b c) (nat32 x3 x2 x1 x0))
  | 0x38, [] => some .identify
  | 0x39, [] => some .readStatus
  | 0x3A, [p, a1, a0, b1, b0, c1, c0, d1, d0, e1, e0, f1, f0] =>
    some (.setMasks p ⟨a1 ++ a0, b1 ++ b0, c1 ++ c0, d1 ++ d0, e1 ++ e0, f1 ++ f0⟩)
  | 0x3B, [g, a] => some (.setPartParameters g.toNat a.toNat)
  | 0x3C, [] => some .partReset
  | _, _ => none

/-- Whether section 9.3 lists a request code (R163, R187). -/
def codeListed (code : Nat) : Bool :=
  code ∈ [0x01, 0x02, 0x03, 0x04, 0x05, 0x06, 0x07, 0x10, 0x11, 0x12, 0x18, 0x19, 0x1A, 0x20, 0x21, 0x22,
    0x23, 0x24, 0x28, 0x29, 0x2A, 0x2B, 0x2C, 0x2D, 0x2E, 0x30, 0x38, 0x39, 0x3A, 0x3B, 0x3C]

/-- A Request's payload: request code, then fields; an empty payload carries no code (R187). -/
def decodeRequest : List Byte → RequestForm
  | [] => .malformed 0
  | code :: fields =>
    if codeListed code.toNat then .of code (decodeFields code.toNat fields) else .unknown code

/-! ## Lane frames -/

/-- What a lane frame that passes the checks of R184 brings. -/
inductive LaneArrival where
  | single (r : SingleRead)
  | stack (number : Byte) (reads : List CrateRead)
  | cancel (number : Byte)
  | notice (bytes : List Byte)
deriving DecidableEq, Repr

/-- A condition code (R185). -/
def conditionOf (b : Byte) : Option Condition :=
  match b.toNat with
  | 0 => some .sound
  | 1 => some .damaged
  | 2 => some .scrap
  | _ => none

/-- The payload of a Single Read (R186). -/
def decodeSingle : List Byte → Option SingleRead
  | [k, t1, t0, c, a, b, d] =>
    if k = 0 then (conditionOf c).map (fun c => .crate ⟨t1 ++ t0, c, mapOf a b d⟩) else none
  | [k, t1, t0, c, m1, m0] =>
    if k = 1 then (conditionOf c).map (fun c => .keg (t1 ++ t0) c (m1 ++ m0)) else none
  | _ => none

/-- The reads of a Stack Frame, six bytes each (R186). -/
def decodeReads : Nat → List Byte → Option (List CrateRead)
  | 0, [] => some []
  | n + 1, t1 :: t0 :: c :: x :: y :: z :: rest =>
    match conditionOf c, decodeReads n rest with
    | some c, some rs => some (⟨t1 ++ t0, c, mapOf x y z⟩ :: rs)
    | _, _ => none
  | _, _ => none

/-- The payload of a Stack Frame (R186): a read count of 0 or above 16 is a frame error (R38). -/
def decodeStack : List Byte → Option LaneArrival
  | number :: count :: rest =>
    if count = 0 ∨ 16 < count.toNat then none
    else (decodeReads count.toNat rest).map (.stack number)
  | _ => none

/-- A lane frame whose check has passed, under the checks of R184; none is a frame error. -/
def decodeLaneFrame (f : Frame) : Option LaneArrival :=
  if f.address ≠ 0 then none
  else
    match f.kind.toNat with
    | 0x21 => (decodeSingle f.payload).map .single
    | 0x22 => decodeStack f.payload
    | 0x23 =>
      match f.payload with
      | [n] => some (.cancel n)
      | _ => none
    | 0x24 => if f.payload.length ≤ 32 then some (.notice f.payload) else none
    | _ => none

/-- The command of a lane frame's contents. -/
def LaneArrival.command (l : Lane) : LaneArrival → Instr
  | .single r => .singleRead l r
  | .stack n rs => .stackFrame l n rs
  | .cancel n => .stackCancel l n
  | .notice bytes => .laneNotice l bytes

/-- The code of a condition (R185). -/
def conditionCode : Condition → Byte
  | .sound => 0
  | .damaged => 1
  | .scrap => 2

/-- The three bytes of a slot map (R185). -/
def mapBytes (m : SlotMap) : List Byte :=
  [(m >>> 16).setWidth 8, (m >>> 8).setWidth 8, m.setWidth 8]

/-- A crate read in a frame (R186). -/
def CrateRead.bytes (r : CrateRead) : List Byte :=
  bytesOfWord r.tagCode ++ [conditionCode r.condition] ++ mapBytes r.slots

/-- The payload of a lane frame (R186). -/
def LaneArrival.payload : LaneArrival → List Byte
  | .single (.crate r) => 0 :: r.bytes
  | .single (.keg t c m) => 1 :: (bytesOfWord t ++ [conditionCode c] ++ bytesOfWord m)
  | .stack n rs => n :: BitVec.ofNat 8 rs.length :: rs.flatMap CrateRead.bytes
  | .cancel n => [n]
  | .notice bytes => bytes

/-- The kind code of a lane frame (R182). -/
def LaneArrival.kind : LaneArrival → Byte
  | .single _ => 0x21#8
  | .stack _ _ => 0x22#8
  | .cancel _ => 0x23#8
  | .notice _ => 0x24#8

/-! ## The table's words -/

/-- The command that a word spells by the table's bits. The table gives none of its rows bits (log 23). -/
def decodeTableWord (_nbits _w : Nat) : Option Instr := none

/-! ## Encoding a request -/

open Machine in
/-- The class code and the class-specific part of a Write Type (R187). -/
def TypeSpec.encode : TypeSpec → List Byte × List Byte
  | .crate map => (be8 0, be24 map.toNat)
  | .pool map => (be8 1, be24 map.toNat)
  | .keg t tol a l => (be8 2, be16 t ++ be16 tol ++ be16 a ++ be16 l)
  | .unknown code => (be8 code, [])

/-- The request code of a request (R187). -/
def Request.code : Request → Byte
  | .openVisit _ _ _ => 0x01#8
  | .bindLanes _ _ => 0x02#8
  | .releaseLanes _ _ => 0x03#8
  | .nextSegment _ _ => 0x04#8
  | .closeVisit _ => 0x05#8
  | .cancelVisit _ => 0x06#8
  | .readVisit _ _ => 0x07#8
  | .configureLane _ _ _ _ _ => 0x10#8
  | .laneReset _ => 0x11#8
  | .readLane _ => 0x12#8
  | .writeType _ _ _ _ => 0x18#8
  | .deleteType _ => 0x19#8
  | .readTypeByTagCode _ => 0x1A#8
  | .readTypeByIndex _ => 0x1A#8
  | .writeTariffHeader _ _ _ _ _ _ _ => 0x20#8
  | .writeSchedule _ _ _ _ _ _ _ _ _ => 0x21#8
  | .readTariff _ _ => 0x22#8
  | .promoteTariff _ => 0x23#8
  | .discardPending => 0x24#8
  | .writeAccount _ _ _ _ _ => 0x28#8
  | .deleteAccount _ => 0x29#8
  | .readAccount _ => 0x2A#8
  | .issueContainers _ _ _ => 0x2B#8
  | .setFloat _ _ _ => 0x2C#8
  | .freezeRun _ _ _ => 0x2D#8
  | .dayClose => 0x2E#8
  | .releaseHeld _ _ => 0x30#8
  | .identify => 0x38#8
  | .readStatus => 0x39#8
  | .setMasks _ _ => 0x3A#8
  | .setPartParameters _ _ => 0x3B#8
  | .partReset => 0x3C#8

open Machine in
/-- The fields of a request, in the order its own rule names them (R187). -/
def Request.fields : Request → List Byte
  | .openVisit a ls m => be24 a ++ [ls] ++ be8 m
  | .bindLanes v ls => be16 v ++ [ls]
  | .releaseLanes v ls => be16 v ++ [ls]
  | .nextSegment v a => be16 v ++ be24 a
  | .closeVisit v => be16 v
  | .cancelVisit v => be16 v
  | .readVisit (.number n) k => be8 1 ++ be16 n ++ be8 k
  | .readVisit (.slot n) k => be8 0 ++ be16 n ++ be8 k
  | .configureLane l en k lv rep => be8 l ++ be8 en ++ be8 k ++ be8 lv ++ be8 rep
  | .laneReset l => be8 l
  | .readLane l => be8 l
  | .writeType t spec f sch => be16 t ++ spec.encode.1 ++ be8 f ++ be8 sch ++ spec.encode.2
  | .deleteType t => be16 t
  | .readTypeByTagCode t => be8 1 ++ be16 t
  | .readTypeByIndex i => be8 0 ++ be16 i
  | .writeTariffHeader g m a b c d en => be16 g ++ be8 m ++ be16 a ++ be16 b ++ be16 c ++ be16 d ++ [en]
  | .writeSchedule k d a b c e bt f u =>
    be8 k ++ be8 d ++ be16 a ++ be16 b ++ be16 c ++ be16 e ++ be16 bt ++ be8 f ++ be16 u
  | .readTariff t p => be8 t ++ be8 p
  | .promoteTariff e => be16 e
  | .discardPending => []
  | .writeAccount sl a cl fr ce => be8 sl ++ be24 a ++ be8 cl ++ be8 fr ++ be32 ce
  | .deleteAccount a => be24 a
  | .readAccount (.number n) => be8 1 ++ be24 n
  | .readAccount (.slot n) => be8 0 ++ be24 n
  | .issueContainers a f n => be24 a ++ be8 f ++ be16 n
  | .setFloat a f n => be24 a ++ be8 f ++ be16 n
  | .freezeRun st n m => be8 st ++ be16 n ++ be8 m
  | .dayClose => []
  | .releaseHeld a n => be24 a ++ be32 n
  | .identify => []
  | .readStatus => []
  | .setMasks p ls =>
    [p] ++ bytesOfWord ls.lane0 ++ bytesOfWord ls.lane1 ++ bytesOfWord ls.lane2 ++ bytesOfWord ls.lane3 ++
      bytesOfWord ls.lane4 ++ bytesOfWord ls.lane5
  | .setPartParameters g a => be8 g ++ be8 a
  | .partReset => []

/-- The command that takes a request with a tag (R162). -/
def Request.command (tag : Byte) : Request → Instr
  | .openVisit a ls m => .openVisit tag a ls m
  | .bindLanes v ls => .bindLanes tag v ls
  | .releaseLanes v ls => .releaseLanes tag v ls
  | .nextSegment v a => .nextSegment tag v a
  | .closeVisit v => .closeVisit tag v
  | .cancelVisit v => .cancelVisit tag v
  | .readVisit k i => .readVisit tag k i
  | .configureLane l en k lv rep => .configureLane tag l en k lv rep
  | .laneReset l => .laneReset tag l
  | .readLane l => .readLane tag l
  | .writeType t spec f sch => .writeType tag t spec f sch
  | .deleteType t => .deleteType tag t
  | .readTypeByTagCode t => .readTypeByTagCode tag t
  | .readTypeByIndex i => .readTypeByIndex tag i
  | .writeTariffHeader g m a b c d en => .writeTariffHeader tag g m a b c d en
  | .writeSchedule k d a b c e bt f u => .writeSchedule tag k d a b c e bt f u
  | .readTariff t p => .readTariff tag t p
  | .promoteTariff e => .promoteTariff tag e
  | .discardPending => .discardPending tag
  | .writeAccount sl a cl fr ce => .writeAccount tag sl a cl fr ce
  | .deleteAccount a => .deleteAccount tag a
  | .readAccount k => .readAccount tag k
  | .issueContainers a f n => .issueContainers tag a f n
  | .setFloat a f n => .setFloat tag a f n
  | .freezeRun st n m => .freezeRun tag st n m
  | .dayClose => .dayClose tag
  | .releaseHeld a n => .releaseHeld tag a n
  | .identify => .identify tag
  | .readStatus => .readStatus tag
  | .setMasks p ls => .setMasks tag p ls
  | .setPartParameters g a => .setPartParameters tag g a
  | .partReset => .partReset tag

/-- The payload of a request (R187). -/
def encodeRequest (r : Request) : List Byte := r.code :: r.fields

end Sys2Proof
end

