-- ==== Sys2Proof/Machine/Pricing.lean ====
section
/-! DEFINITION. Item pricing arithmetic (chapter 3): rounding, the container body, bottles, ullage, the
causes and diversion. Pricing changes no state; it makes a priced result from a read, the type entry, the
pinned generation and a class. -/

namespace Sys2Proof.Machine

/-- Whether a quotient with remainder r by d and whole part q is rounded up under a mode (R63). -/
def roundsUp (mode : RoundingMode) (q r d : Nat) : Bool :=
  match mode with
  | .down => false
  | .up => 0 < r
  | .nearestUp => d ≤ 2 * r
  | .nearestEven => d < 2 * r || (2 * r == d && q % 2 == 1)

/-- The rounded value of x ÷ d under a mode (R63). -/
def roundDiv (mode : RoundingMode) (x d : Nat) : Nat :=
  x / d + (if roundsUp mode (x / d) (x % d) d then 1 else 0)

/-- Whether a rounding of x ÷ d raises INEXACT (R64). -/
def inexactDiv (x d : Nat) : Bool := x % d != 0

/-- The body of an item from the container deposit, the damaged factor and the condition (R65). -/
def bodyOf (mode : RoundingMode) (deposit factor : Nat) : Condition → Nat
  | .sound => deposit
  | .damaged => roundDiv mode (deposit * factor) 100
  | .scrap => 0

/-- Whether the body raises INEXACT (R65). -/
def bodyInexact (deposit factor : Nat) : Condition → Bool
  | .sound => false
  | .damaged => inexactDiv (deposit * factor) 100
  | .scrap => false

/-- The number of positions set in a map. -/
def positions (m : SlotMap) : Nat := (List.range 24).countP (fun i => m.getLsbD i)

/-- The residual ρ = M − T, in mass steps (3.8). -/
def residual (mass : Nat) (k : KegLimits) : Int := (mass : Int) - (k.tare : Int)

/-- The product of a keg's ullage deduction before the division by 100: (ρ − Tol) × U, 0 within the
tolerance (R70). -/
def ullageProduct (mass : Nat) (k : KegLimits) (ullage : Nat) : Nat :=
  (residual mass k - (k.tolerance : Int)).toNat * ullage

/-- ULLAGE_WARN: the residual is greater than the tolerance (R70). -/
def overTolerance (mass : Nat) (k : KegLimits) : Bool := decide ((k.tolerance : Int) < residual mass k)

/-- A read matched with a type of its kind (R61). -/
inductive Matched where
  | crate (map slots : SlotMap)
  | keg (limits : KegLimits) (mass : Nat)
deriving DecidableEq, Repr

/-- The table of R61; none is WRONG_KIND. -/
def matchRead : TypeBody → ReadBody → Option Matched
  | .crate _ map, .crate slots => some (.crate map slots)
  | .pool map, .crate slots => some (.crate map slots)
  | .keg _ k, .keg mass => some (.keg k mass)
  | .crate _ _, .keg _ => none
  | .pool _, .keg _ => none
  | .keg _ _, .crate _ => none

/-- The priced result of an UNLISTED item (R60). -/
def unlistedResult : PricedResult where
  listed := false
  family := none
  schedule := none
  bottles := 0
  credit := 0
  causes := 0
  diverted := false

/-- The priced result of an item diverted at pricing (R74). -/
def divertedResult (e : TypeEntry) (causes : Causes) : PricedResult where
  listed := true
  family := e.body.family
  schedule := some e.schedule
  bottles := 0
  credit := 0
  causes := causes
  diverted := true

/-- Stage 8: divert on an enabled cause, or carry the credit and the causes to commit (R73). -/
def stage8 (e : TypeEntry) (enables : Conditions) (bottles credit : Nat) (causes : Causes) : PricedResult :=
  if conditionsOf causes &&& enables != 0 then divertedResult e causes
  else
    { listed := true
      family := e.body.family
      schedule := some e.schedule
      bottles := bottles
      credit := credit
      causes := causes
      diverted := false }

/-- What pricing hands on: the priced result, and whether ULLAGE_WARN is latched (R70). -/
structure Pricing where
  result : PricedResult
  ullageWarn : Bool
deriving DecidableEq, Repr

/-- Stages 6 to 8 of a crate or pool item (R65 to R67). -/
def priceCrate (h : TariffHeader) (sch : Schedule) (cls : CustomerClass) (e : TypeEntry)
    (condition : Condition) (map slots : SlotMap) : Pricing where
  result :=
    stage8 e h.enables (positions (map &&& slots))
      (bodyOf h.mode (sch.deposits.of cls) sch.damaged condition + positions (map &&& slots) * sch.bottle)
      (Cause.inexact.when (bodyInexact (sch.deposits.of cls) sch.damaged condition))
  ullageWarn := false

/-- Stages 4 to 8 of a keg item (R65, R68 to R71). -/
def priceKeg (h : TariffHeader) (sch : Schedule) (cls : CustomerClass) (e : TypeEntry)
    (condition : Condition) (k : KegLimits) (mass : Nat) : Pricing :=
  if (k.fullLimit : Int) < residual mass k then ⟨divertedResult e Cause.fullReturn.bit, false⟩
  else if (mass : Int) < (k.tare : Int) - (k.lightLimit : Int) then
    ⟨divertedResult e Cause.light.bit, false⟩
  else
    let body := bodyOf h.mode (sch.deposits.of cls) sch.damaged condition
    let deduction := roundDiv h.mode (ullageProduct mass k sch.ullage) 100
    { result :=
        stage8 e h.enables 0 (body - deduction)
          (Cause.inexact.when
              (bodyInexact (sch.deposits.of cls) sch.damaged condition ||
                inexactDiv (ullageProduct mass k sch.ullage) 100) |||
            Cause.negative.when (decide (body < deduction)))
      ullageWarn := overTolerance mass k }

/-- Stages 2 to 8 for a LISTED item (R59, R61, R62). -/
def priceListed (g : Generation) (cls : CustomerClass) (t : TypeEntry) (condition : Condition)
    (body : ReadBody) : Pricing :=
  match matchRead t.body body with
  | none => ⟨divertedResult t Cause.wrongKind.bit, false⟩
  | some m =>
    let sch := g.schedules[t.schedule]
    if !sch.defined then ⟨divertedResult t Cause.invalid.bit, false⟩
    else
      match m with
      | .crate map slots => priceCrate g.header sch cls t condition map slots
      | .keg k mass => priceKeg g.header sch cls t condition k mass

/-- The eight stages (R59), from the lookup of stage 1. -/
def price (lookup : Option TypeEntry) (g : Generation) (cls : CustomerClass) (e : ReadEntry) : Pricing :=
  match lookup with
  | none => ⟨unlistedResult, false⟩
  | some t => priceListed g cls t e.condition e.body

end Sys2Proof.Machine
end

