-- ==== Sys2Proof/Machine/Settling.lean ====
section
/-! DEFINITION. Settlement (chapter 8): the amounts of one segment, and the settlement of the head visit. -/

namespace Sys2Proof.Machine

/-- The remaining payout room of an account (R134, R150). -/
def Account.room (a : Account) : Nat := a.ceiling - a.paidToday

/-- The fee product G × fee (R149). -/
def feeProduct (h : TariffHeader) (g : Segment) : Nat := g.gross * h.fees.of g.cls

/-- The six amounts of a segment (8.4), and the frozen mark as read. -/
structure Amounts where
  fee : Nat
  net : Nat
  payout : Nat
  held : Nat
  heldAdded : Nat
  unplaced : Nat
  frozen : Bool
deriving DecidableEq, Repr

/-- The amounts of one segment against its account (R149 to R152). -/
def amountsOf (h : TariffHeader) (a : Account) (g : Segment) : Amounts :=
  let fee := roundDiv h.mode (feeProduct h g) 10000
  let net := g.gross - fee
  let payout := if a.frozen then 0 else min net a.room
  let held := net - payout + g.excessCredit
  let added := min held (Config.top32 - a.held)
  { fee := fee
    net := net
    payout := payout
    held := held
    heldAdded := added
    unplaced := held - added
    frozen := a.frozen }

/-- The segment as its record reports it: an inexact fee rounding sets the sticky INEXACT (R149). -/
def settledSegment (h : TariffHeader) (g : Segment) : Segment :=
  { g with sticky := g.sticky ||| conditionsOf (Cause.inexact.when (inexactDiv (feeProduct h g) 10000)) }

/-- The account after a segment's settlement (R150 to R152). -/
def Account.settle (a : Account) (m : Amounts) : Account :=
  { a with
    paidToday := a.paidToday + m.payout
    held := a.held + m.heldAdded }

/-- What every settlement record of a visit shares. -/
structure SettleVisit where
  number : Nat
  count : Nat
  generation : Nat
  cause : CloseCause
deriving DecidableEq, Repr

/-- The settlement record of a segment (R154). -/
def settlementRecord (h : TariffHeader) (v : SettleVisit) (k : Nat) (m : Amounts) (g : Segment) :
    SettlementRecord where
  visit := v.number
  index := k
  count := v.count
  generation := v.generation
  cause := v.cause
  frozen := m.frozen
  fee := m.fee
  payout := m.payout
  heldAdded := m.heldAdded
  unplaced := m.unplaced
  segment := settledSegment h g

/-- Settle one segment: account, record, HELD_OVERFLOW (R148, R152). -/
def State.settleSegment (s : State) (h : TariffHeader) (v : SettleVisit) (k : Nat) (g : Segment) : State :=
  let m := amountsOf h s.accounts[g.accountSlot] g
  ((s.modifyAccount g.accountSlot (fun a => a.settle m)).setSettlementQueue
    (s.settlementQueue ++ [.settled (settlementRecord h v k m g)])).latchPartIf .heldOverflow
      (0 < m.unplaced)

/-- Settle segments from index k upward, each against the accounts as those before it left them (R153). -/
def State.settleSegments (s : State) (h : TariffHeader) (v : SettleVisit) : Nat → List Segment → State
  | _, [] => s
  | k, g :: gs => (s.settleSegment h v k g).settleSegments h v (k + 1) gs

/-- Free entries of the Settlement Queue (R146). -/
def State.settlementRoom (s : State) : Nat := Config.settlementQueueSize - s.settlementQueue.length

/-- The settlement of the head visit whole (R148), the visit's pinned header being h. -/
def State.settleVisit (s : State) (v : VisitSlot) (p : Pin) (h : TariffHeader) : State :=
  let r := s.visits[v]
  ((s.settleSegments h ⟨r.number, r.segments.length, p.generation, r.cause⟩ 0 r.segments).setSettleWait
    (s.settleWait.drop 1)).freeVisit v

end Sys2Proof.Machine
end

