-- ==== Sys2Proof/Machine/Trunk.lean ====
section
/-! DEFINITION. The trunk transmitter (10.9), the end of every event, and the taking of a request (9.1). -/

namespace Sys2Proof.Machine

/-- The oldest message of a trunk queue. -/
def State.oldest (s : State) : TrunkQueue → Option Message
  | .responses => s.responses.head?.map .response
  | .settlements => s.settlementQueue.head?.map .settlement
  | .items => s.items.head?.map .item

/-- The queue an idle transmitter serves: responses, then settlement records, then item records (R193). -/
def State.nextQueue (s : State) : Option TrunkQueue :=
  if !s.responses.isEmpty then some .responses
  else if !s.settlementQueue.isEmpty then some .settlements
  else if !s.items.isEmpty then some .items
  else none

/-- The transmitter as it starts a message of a queue (R189, R193). -/
def startMessage (q : TrunkQueue) (m : Message) (attention : Bool) : TrunkTx :=
  .sending q (if m.lines.isEmpty then .only else .first) (m.firstFrame attention)

/-- What an idle transmitter becomes: it starts the message it chooses, or stays idle (R193). -/
def State.chosenTx (s : State) : TrunkTx :=
  match s.nextQueue with
  | none => .idle
  | some q =>
    match s.oldest q with
    | none => .idle
    | some m => startMessage q m s.attention

/-- An idle transmitter starts the message it chooses (R193). -/
def State.startTrunk (s : State) : State :=
  match s.trunkTx with
  | .idle => s.setTrunkTx s.chosenTx
  | .sending _ _ _ => s

/-- The end of an event: attention is re-evaluated (R171), then an idle transmitter chooses from what the
event placed, the event being taken whole (R193). -/
def State.finish (s : State) : State := s.reevaluateAttention.startTrunk

/-- Free a queue's oldest entry. -/
def State.dropOldest (s : State) : TrunkQueue → State
  | .responses => s.setResponses (s.responses.drop 1)
  | .settlements => s.setSettlementQueue (s.settlementQueue.drop 1)
  | .items => s.setItems (s.items.drop 1)

/-- The completion of a message frees its entry and the transmitter chooses again (R193). A transmitter that
is idle, or has a first frame on the line, has no message to complete (log 4). -/
def State.completeMessage (s : State) : State :=
  match s.trunkTx with
  | .sending q .only _ => ((s.dropOldest q).setTrunkTx .idle).finish
  | .sending q .second _ => ((s.dropOldest q).setTrunkTx .idle).finish
  | .sending _ .first _ => s
  | .idle => s

/-- The completion of a first frame starts the second in the same event (R189). -/
def State.completeFirstFrame (s : State) : State :=
  match s.trunkTx with
  | .sending q .first _ =>
    match s.oldest q with
    | some m => s.setTrunkTx (.sending q .second (m.secondFrame s.attention))
    | none => s
  | .sending _ .only _ => s
  | .sending _ .second _ => s
  | .idle => s

/-- What a request's own rule makes of it: the state after, the response code and the detail (R162). -/
structure Answer where
  state : State
  code : ResponseCode
  detail : Detail
deriving DecidableEq, Repr

/-- A refused request changes no state (R163). -/
def refuse (s : State) (code : ResponseCode) (detail : Detail) : Answer := ⟨s, code, detail⟩

/-- An executed request. -/
def accept (s : State) (detail : Detail) : Answer := ⟨s, .ok, detail⟩

/-- Place a response at the tail of the Response Queue (R161). -/
def State.respond (s : State) (r : Response) : State := s.setResponses (s.responses ++ [r])

/-- A request that finds the Response Queue full is discarded, and REQUEST_OVERRUN is latched (R161). -/
def State.overrun (s : State) : State := (s.latchPart .requestOverrun).finish

/-- The arrival of a request (R160 to R162): taken whole and answered, or discarded when the Response Queue
is full. -/
def State.serve (s : State) (tag code : Byte) (meaning : State → Answer) : State :=
  if s.responses.length < Config.responseQueueSize then
    ((meaning s).state.respond ⟨tag, code, (meaning s).code, (meaning s).detail⟩).finish
  else s.overrun

end Sys2Proof.Machine
end

