-- ==== Sys2Proof/Machine/Accounts.lean ====
section
/-! DEFINITION. The Account Table requests (chapter 7) and Release Held (8.6). -/

namespace Sys2Proof.Machine

/-- What Read Account reports of a slot (R134). -/
def accountReport (a : AccountSlot) (r : Account) : AccountReport where
  slot := a
  number := r.number
  cls := r.cls
  frozen := r.frozen
  floats := r.floats
  held := r.held
  paidToday := r.paidToday
  ceiling := r.ceiling
  room := r.room
  useCount := r.useCount

/-- The lookup of R129. -/
def withAccount (s : State) (n : Nat) (k : AccountSlot → Answer) : Answer :=
  if !accountInRange n then refuse s .malformed .empty
  else
    match s.findAccount n with
    | none => refuse s .noEntry (.missing .account)
    | some a => k a

/-! ## Write Account -/

/-- The action a Write Account of a number takes on a slot (R132). -/
def Account.actionFor (r : Account) (number : Nat) : AccountAction :=
  if r.number = 0 then .created else if r.number = number then .updated else .renumbered

/-- A slot after a taken Write Account (R132): an empty slot starts with no float and no money. -/
def Account.written (r : Account) (number : Nat) (cls : CustomerClass) (frozen : Bool) (ceiling : Nat) :
    Account :=
  if r.number = 0 then
    { Account.empty with number := number, cls := cls, frozen := frozen, ceiling := ceiling }
  else { r with number := number, cls := cls, frozen := frozen, ceiling := ceiling }

/-- A slot other than the named one that holds the number (R131). -/
def State.duplicateOf (s : State) (a : AccountSlot) (number : Nat) : Option AccountSlot :=
  allAccounts.find? (fun b => b != a && s.accounts[b].number == number)

/-- Write Account on a slot, its fields in range (R131, R132). -/
def writeAccountAt (a : AccountSlot) (number : Nat) (cls : CustomerClass) (frozen : Bool) (ceiling : Nat)
    (s : State) : Answer :=
  match s.duplicateOf a number with
  | some b => refuse s .duplicate (.accountHolder b)
  | none =>
    if s.accounts[a].number ≠ 0 && s.accounts[a].number ≠ number && 0 < s.accounts[a].useCount then
      refuse s .inUse (.accountInUse s.accounts[a].number s.accounts[a].useCount)
    else
      accept (s.modifyAccount a (fun r => r.written number cls frozen ceiling))
        (.accountWritten (s.accounts[a].actionFor number)
          (accountReport a (s.accounts[a].written number cls frozen ceiling)))

/-- Write Account (R131, R132). -/
def writeAccount (slot account cls frozen ceiling : Nat) (s : State) : Answer :=
  match accountSlotOf slot, classOf cls, switchOf frozen with
  | some a, some cl, some f =>
    if !accountInRange account || Config.top32 < ceiling then refuse s .malformed .empty
    else writeAccountAt a account cl f ceiling s
  | _, _, _ => refuse s .malformed .empty

/-! ## Delete and read -/

/-- Delete Account (R133). -/
def deleteAccount (account : Nat) (s : State) : Answer :=
  withAccount s account (fun a =>
    if 0 < s.accounts[a].useCount then refuse s .inUse (.deleteUse s.accounts[a].useCount)
    else if 0 < s.accounts[a].held then refuse s .inUse (.deleteHeld s.accounts[a].held)
    else
      accept (s.modifyAccount a (fun _ => Account.empty))
        (.accountDeleted a s.accounts[a].floats s.accounts[a].paidToday))

/-- Read Account (R134). -/
def readAccount (key : AccountKey) (s : State) : Answer :=
  match key with
  | .number n => withAccount s n (fun a => accept s (.accountReport (accountReport a s.accounts[a])))
  | .slot n =>
    match accountSlotOf n with
    | none => refuse s .malformed .empty
    | some a => accept s (.accountReport (accountReport a s.accounts[a]))

/-! ## Float -/

/-- Issue Containers (R136). -/
def issueContainers (account family count : Nat) (s : State) : Answer :=
  match familyOf family with
  | none => refuse s .malformed .empty
  | some f =>
    if count = 0 || Config.top16 < count then refuse s .malformed .empty
    else
      withAccount s account (fun a =>
        let after := satAdd Config.top16 (s.float a f) count
        accept (s.addFloat a f count)
          (.containersIssued f (s.float a f) after (s.float a f + count - after)))

/-- Set Float (R137). -/
def setFloat (account family value : Nat) (s : State) : Answer :=
  match familyOf family with
  | none => refuse s .malformed .empty
  | some f =>
    if Config.top16 < value then refuse s .malformed .empty
    else
      withAccount s account (fun a =>
        accept (s.setFloatValue a f value) (.floatSet f (s.float a f) value))

/-! ## Freeze Run and Day Close -/

/-- Whether a slot stands in a run of n slots from a start. -/
def inRun (start n : Nat) (a : AccountSlot) : Bool := start ≤ a.val && a.val < start + n

/-- The effect of a Freeze Run (R139). -/
def State.freezeSlots (s : State) (start n : Nat) (mark : Bool) : State :=
  { s with
    accounts := Vector.ofFn (fun a =>
      if inRun start n a then { s.accounts[a] with frozen := mark } else s.accounts[a]) }

/-- The number of slots a run processes (R139). -/
def runLength (start count : Nat) : Nat := min count (256 - start)

/-- Freeze Run (R139): mark 1 is FREEZE, 0 UNFREEZE. -/
def freezeRun (start count mark : Nat) (s : State) : Answer :=
  match switchOf mark with
  | none => refuse s .malformed .empty
  | some m =>
    if 255 < start || count = 0 || 256 < count then refuse s .malformed .empty
    else
      accept (s.freezeSlots start (runLength start count) m)
        (.freezeRun (runLength start count) (start + runLength start count) (count - runLength start count)
          (allAccounts.countP (fun a => inRun start (runLength start count) a && s.accounts[a].number != 0)))

/-- The effect of a Day Close (R141). -/
def State.clearPaid (s : State) : State :=
  { s with accounts := updAll s.accounts (fun r => { r with paidToday := 0 }) }

/-- The sum of the paid-today values, stopping at 4,294,967,295 (R141). -/
def State.paidSum (s : State) : Nat :=
  s.accounts.toList.foldl (fun n r => satAdd Config.top32 n r.paidToday) 0

/-- Day Close (R141). -/
def dayClose (s : State) : Answer :=
  accept s.clearPaid
    (.dayClosed s.paidSum (s.accounts.toList.countP (fun r => decide (0 < r.paidToday))))

/-! ## Release Held -/

/-- The effect of a taken Release Held (R155). -/
def State.releaseAt (s : State) (a : AccountSlot) (paid : Nat) : State :=
  (s.modifyAccount a (fun r =>
    { r with held := r.held - paid, paidToday := satAdd Config.top32 r.paidToday paid })).setSettlementQueue
    (s.settlementQueue ++ [.release s.accounts[a].number paid (s.accounts[a].held - paid)])

/-- Release Held (R155, R156). -/
def releaseHeld (account amount : Nat) (s : State) : Answer :=
  if amount = 0 || Config.top32 < amount then refuse s .malformed .empty
  else
    withAccount s account (fun a =>
      if s.accounts[a].frozen then refuse s .frozen (.heldBalance s.accounts[a].held)
      else if Config.settlementQueueSize ≤ s.settlementQueue.length then refuse s .queueFull .empty
      else
        let paid := min amount s.accounts[a].held
        accept (s.releaseAt a paid)
          (.released paid (s.accounts[a].held - paid)
            (satAdd Config.top32 s.accounts[a].paidToday paid)))

/-! ## The commands -/

/-- WRITE_ACCOUNT -/
def execWriteAccount (tag : Byte) (slot account cls frozen ceiling : Nat) (s : State) :
    Host.Outcome State Fault Refusal :=
  .next (s.serve tag 0x28#8 (writeAccount slot account cls frozen ceiling))

/-- DELETE_ACCOUNT -/
def execDeleteAccount (tag : Byte) (account : Nat) (s : State) : Host.Outcome State Fault Refusal :=
  .next (s.serve tag 0x29#8 (deleteAccount account))

/-- READ_ACCOUNT -/
def execReadAccount (tag : Byte) (key : AccountKey) (s : State) : Host.Outcome State Fault Refusal :=
  .next (s.serve tag 0x2A#8 (readAccount key))

/-- ISSUE_CONTAINERS -/
def execIssueContainers (tag : Byte) (account family count : Nat) (s : State) :
    Host.Outcome State Fault Refusal :=
  .next (s.serve tag 0x2B#8 (issueContainers account family count))

/-- SET_FLOAT -/
def execSetFloat (tag : Byte) (account family value : Nat) (s : State) : Host.Outcome State Fault Refusal :=
  .next (s.serve tag 0x2C#8 (setFloat account family value))

/-- FREEZE_RUN -/
def execFreezeRun (tag : Byte) (start count mark : Nat) (s : State) : Host.Outcome State Fault Refusal :=
  .next (s.serve tag 0x2D#8 (freezeRun start count mark))

/-- DAY_CLOSE -/
def execDayClose (tag : Byte) (s : State) : Host.Outcome State Fault Refusal :=
  .next (s.serve tag 0x2E#8 dayClose)

/-- RELEASE_HELD -/
def execReleaseHeld (tag : Byte) (account amount : Nat) (s : State) : Host.Outcome State Fault Refusal :=
  .next (s.serve tag 0x30#8 (releaseHeld account amount))

end Sys2Proof.Machine
end

