-- ==== Sys2Proof/Machine/Lanes.lean ====
section
/-! DEFINITION. The lane requests (chapter 2): Configure Lane, Lane Reset and Read Lane. -/

namespace Sys2Proof.Machine

/-! ## Configure Lane -/

/-- Whether a lane holds reads. -/
def LanePort.occupied (p : LanePort) : Bool := !p.queue.isEmpty || !p.staged.isEmpty

/-- Whether a lane is BOUND. -/
def LanePort.isBound (p : LanePort) : Bool :=
  match p.state with
  | .bound _ => true
  | .disabled => false
  | .idle => false

/-- The frames of the lane transmit queue that have not started (R50). -/
def LanePort.unstarted (p : LanePort) : Nat := p.txQueue.length - 1

/-- A DISABLED lane is enabled: IDLE, hold released (R33). -/
def LanePort.enable (p : LanePort) : LanePort :=
  if p.enabled then p else LanePort.rehold { p with state := .idle }

/-- An IDLE lane is disabled: hold asserted, each frame not started discarded with a count and
DOWNSTREAM_LOSS (R33). -/
def LanePort.disable (p : LanePort) : LanePort :=
  if p.enabled then
    let q : LanePort := { p.dropUnstarted with
      state := .disabled, hold := true, passCount := 0
      downLosses := satAdd Config.top16 p.downLosses p.unstarted }
    if 0 < p.unstarted then q.latch .downstreamLoss else q
  else p

/-- A taken Configure Lane: kind, level and reporting, then enabled (R33). -/
def LanePort.configure (p : LanePort) (enabled : Bool) (kind : ReadKind) (level : Nat) (reporting : Bool) :
    LanePort :=
  let q : LanePort := { p with kind := kind, level := level, reporting := reporting }
  if enabled then q.enable else q.disable

/-- Occupancies as a refused Configure Lane reports them (R32). -/
def LanePort.busy (p : LanePort) : Detail := .laneBusy p.state p.queue.length p.staged.length

/-- Configure Lane on a lane, its fields in range (R32, R33). -/
def configureLaneAt (l : Lane) (enabled : Bool) (kind : ReadKind) (level : Nat) (reporting : Bool)
    (s : State) : Answer :=
  if kind ≠ s.lanes[l].kind && s.lanes[l].enabled then refuse s .wrongState s.lanes[l].busy
  else if !enabled && s.lanes[l].isBound then refuse s .inUse s.lanes[l].busy
  else if !enabled && s.lanes[l].occupied then refuse s .wrongState s.lanes[l].busy
  else
    accept (s.modifyLane l (fun p => p.configure enabled kind level reporting))
      (.laneConfigured (s.lanes[l].configure enabled kind level reporting).state kind level reporting)

/-- Configure Lane (R32, R33). -/
def configureLane (lane enabled kind level reporting : Nat) (s : State) : Answer :=
  match laneOf lane, switchOf enabled, kindOf kind, switchOf reporting with
  | some l, some e, some k, some r =>
    if 3 < level then refuse s .malformed .empty else configureLaneAt l e k level r s
  | _, _, _, _ => refuse s .malformed .empty

/-! ## Lane Reset -/

/-- A lane emptied, with counters and flags cleared (R53). -/
def LanePort.cleared (p : LanePort) : LanePort :=
  LanePort.rehold
    { p.dropUnstarted with
      queue := []
      context := none
      passCount := 0
      accepted := 0
      frameErrors := 0
      overruns := 0
      orphans := 0
      abandoned := 0
      downLosses := 0
      flags := 0 }

/-- The items of a lane that carry a visit's tag. -/
def State.taggedOn (s : State) (l : Lane) (v : VisitSlot) : Nat :=
  s.lanes[l].chosenCount (Choice.ofVisit (s.visitTag v))

/-- Every visit's tagged count falls by its items on the lane (R6, R53). -/
def State.lowerForLane (s : State) (l : Lane) : State :=
  allVisits.foldl (fun t v => t.lowerTagged (s.visitTag v) (s.taggedOn l v)) s

/-- Insert a visit by its free rank. -/
def insertByRank (i : Nat) (v : VisitSlot) : List VisitSlot → List VisitSlot
  | [] => [v]
  | u :: us =>
    if Config.drainRank i v.val ≤ Config.drainRank i u.val then v :: u :: us else u :: insertByRank i v us

/-- Visits in the order of their free ranks: the order R53 leaves open (log 5). -/
def orderByRank (i : Nat) (vs : List VisitSlot) : List VisitSlot := vs.foldr (insertByRank i) []

/-- The CLOSING visits whose last items stand on the lane: its reset completes their drains (R19, R53). -/
def State.drainedByReset (s : State) (l : Lane) : List VisitSlot :=
  allVisits.filter (fun v => 0 < s.taggedOn l v && (s.lowerForLane l).drained v)

/-- The effect of a Lane Reset (R53). -/
def State.resetLane (s : State) (l : Lane) : State :=
  let t := (s.lowerForLane l).modifyLane l LanePort.cleared
  let vs := s.drainedByReset l
  ((orderByRank s.freeIndex vs).foldl State.enterSettling t).setFreeIndex
    (if 1 < vs.length then s.freeIndex + 1 else s.freeIndex)

/-- Lane Reset (R53). -/
def laneReset (lane : Nat) (s : State) : Answer :=
  match laneOf lane with
  | none => refuse s .malformed .empty
  | some l => accept (s.resetLane l) (.itemsRemoved (s.lanes[l].queue.length + s.lanes[l].staged.length))

/-! ## Read Lane -/

/-- What Read Lane reports (R54). -/
def State.laneReport (s : State) (l : Lane) : LaneReport :=
  let p := s.lanes[l]
  { state := p.state
    kind := p.kind
    level := p.level
    reporting := p.reporting
    queued := p.queue.length
    hold := p.hold
    pendingStacks := p.pendingStacks
    staged := p.staged.length
    context := p.context.map (fun c => (c.stack, c.tag.number, c.segment))
    transmitting := p.txQueue.length
    passCount := p.passCount
    effectiveLevel := p.effectiveLevel s.agingLimit
    accepted := p.accepted
    frameErrors := p.frameErrors
    overruns := p.overruns
    orphans := p.orphans
    abandoned := p.abandoned
    downLosses := p.downLosses
    flags := p.flags }

/-- Read Lane (R54). -/
def readLane (lane : Nat) (s : State) : Answer :=
  match laneOf lane with
  | none => refuse s .malformed .empty
  | some l => accept s (.laneReport (s.laneReport l))

/-! ## The commands -/

/-- CONFIGURE_LANE -/
def execConfigureLane (tag : Byte) (lane enabled kind level reporting : Nat) (s : State) :
    Host.Outcome State Fault Refusal :=
  .next (s.serve tag 0x10#8 (configureLane lane enabled kind level reporting))

/-- LANE_RESET -/
def execLaneReset (tag : Byte) (lane : Nat) (s : State) : Host.Outcome State Fault Refusal :=
  .next (s.serve tag 0x11#8 (laneReset lane))

/-- READ_LANE -/
def execReadLane (tag : Byte) (lane : Nat) (s : State) : Host.Outcome State Fault Refusal :=
  .next (s.serve tag 0x12#8 (readLane lane))

end Sys2Proof.Machine
end

