-- ==== Sys2Proof/Machine/Management.lean ====
section
/-! DEFINITION. The Management Unit's requests (chapter 9): Identify, Read Status, Set Masks, Set Part
Parameters and Part Reset; the request of an unknown kind, and the request overrun; power-on reset. -/

namespace Sys2Proof.Machine

/-! ## Identify -/

/-- The nine capacities of R166, in the order of its table. -/
def capacities : List Nat := [6, 24, 64, 2, 16, 256, 8, 12, 8]

/-- Identify (R166). -/
def identify (s : State) : Answer := accept s (.identity 1826 624 1 capacities)

/-! ## Read Status -/

/-- A visit's entry in Read Status: its state and, when not FREE, its number (R168). -/
def Visit.status (v : Visit) : VisitState × Nat :=
  (v.state, if v.state = .free then 0 else v.number)

/-- A tariff slot's entry in Read Status (R168). -/
def TariffSlot.status (t : TariffSlot) : TariffState × Nat × Nat := (t.state, t.generation, t.pins)

/-- What Read Status reports (R168). -/
def State.statusReport (s : State) : StatusReport where
  partFlags := s.partFlags
  laneFlags := updAll s.lanes (fun p => p.flags)
  partMasks := s.partMasks
  laneMasks := s.laneMasks
  attention := s.attention
  lossCount := s.lossCount
  visits := s.visits.toList.map Visit.status
  tariffs := s.tariffs.toList.map TariffSlot.status
  grace := s.graceSeconds
  aging := s.agingLimit

/-- Clear every latched flag, part and lane (R169, R174). -/
def State.clearFlags (s : State) : State :=
  (s.setPartFlags 0).mapLanes (fun _ p => { p with flags := 0 })

/-- Read Status (R168, R169). -/
def readStatus (s : State) : Answer := accept s.clearFlags (.status s.statusReport)

/-! ## Set Masks and Set Part Parameters -/

/-- Write every mask (R170). -/
def State.setMaskSets (s : State) (part : PartFlags) (lanes : Vector LaneFlags 6) : State :=
  { s with partMasks := part, laneMasks := lanes }

/-- Set Masks (R170). -/
def setMasks (part : Byte) (lanes : LaneMaskFields) (s : State) : Answer :=
  match partMasksOf part, laneMasksOf lanes.lane0, laneMasksOf lanes.lane1, laneMasksOf lanes.lane2,
      laneMasksOf lanes.lane3, laneMasksOf lanes.lane4, laneMasksOf lanes.lane5 with
  | some p, some a, some b, some c, some d, some e, some f =>
    accept (s.setMaskSets p #v[a, b, c, d, e, f])
      (.masks p #v[a, b, c, d, e, f] (s.setMaskSets p #v[a, b, c, d, e, f]).attentionNow)
  | _, _, _, _, _, _, _ => refuse s .malformed .empty

/-- Grace seconds as applied (R164, R172). -/
def appliedGrace (n : Nat) : Nat := if n = 0 then 1 else min n 60

/-- The aging limit as applied (R164, R172). -/
def appliedAging (n : Nat) : Nat := min n 15

/-- Write both part parameters (R172). -/
def State.setParameters (s : State) (grace aging : Nat) : State :=
  { s with graceSeconds := grace, agingLimit := aging }

/-- Set Part Parameters (R172). -/
def setPartParameters (grace aging : Nat) (s : State) : Answer :=
  accept (s.setParameters (appliedGrace grace) (appliedAging aging))
    (.parameters (appliedGrace grace) (appliedAging aging))

/-! ## Part Reset -/

/-- Step 2 of R174: every Read Queue and Stack Context emptied, without records. -/
def State.emptyLanes (s : State) : State :=
  s.mapLanes (fun _ p => { p with queue := [], context := none })

/-- Whether Part Reset cancels a visit: it is OPEN or CLOSING (R174). -/
def Visit.cancellable (v : Visit) : Bool := v.state == .opened || v.state == .closing

/-- Step 3 of R174 for one visit: lanes given up, float added back, freed (R30). The tagged count that step 2
lowered vanishes with the record. -/
def State.cancelForReset (s : State) (v : VisitSlot) : State :=
  if s.visits[v].cancellable then
    ((s.giveUpLanes v).addBack s.visits[v].segments).freeVisit v
  else s

/-- Step 4 of R174: BOUND lanes IDLE, frames not started discarded, pass counts 0, hold re-evaluated (R56). -/
def LanePort.quiet (p : LanePort) : LanePort :=
  LanePort.rehold
    { p.dropUnstarted with
      state := match p.state with
        | .bound _ => .idle
        | .idle => .idle
        | .disabled => .disabled
      passCount := 0 }

/-- The number of a queue's messages in transmission: its oldest, when the transmitter is sending from it. -/
def State.inTransmission (s : State) (q : TrunkQueue) : Nat :=
  match s.trunkTx with
  | .sending r _ _ => if r = q then 1 else 0
  | .idle => 0

/-- Step 5 of R174: item records and responses not started are discarded (R175). -/
def State.dropUnstartedMessages (s : State) : State :=
  (s.setItems (s.items.take (s.inTransmission .items))).setResponses
    (s.responses.take (s.inTransmission .responses))

/-- The effect of a Part Reset up to the placing of its response (R174). -/
def State.resetPart (s : State) : State :=
  ((allVisits.foldl State.cancelForReset s.clearFlags.emptyLanes).mapLanes
    (fun _ p => p.quiet)).dropUnstartedMessages

/-- Part Reset (R174, R175). -/
def partReset (s : State) : Answer :=
  accept s.resetPart
    (.partReset
      (s.visits.toList.countP Visit.cancellable)
      (s.visits.toList.countP (fun v => v.state == .settling))
      ((s.lanes.toList.map (fun p => p.queue.length + p.staged.length)).sum)
      (s.items.length - s.inTransmission .items)
      (s.responses.length - s.inTransmission .responses))

/-! ## Unknown requests, overruns and power-on reset -/

/-- A request of unknown kind is refused and changes nothing (R163). -/
def unknownRequest (code : Byte) (s : State) : Answer := refuse s .unknownRequest (.unknownCode code)

/-- The part after power-on reset (R178); the commands waiting and the model's free index are no state of
the part and stay (log 22). -/
def State.powerOn (s : State) : State :=
  { State.reset with pending := s.pending, freeIndex := s.freeIndex }

/-! ## The commands -/

/-- POWER_ON_RESET -/
def execPowerOnReset (s : State) : Host.Outcome State Fault Refusal := .next s.powerOn

/-- IDENTIFY -/
def execIdentify (tag : Byte) (s : State) : Host.Outcome State Fault Refusal :=
  .next (s.serve tag 0x38#8 identify)

/-- READ_STATUS -/
def execReadStatus (tag : Byte) (s : State) : Host.Outcome State Fault Refusal :=
  .next (s.serve tag 0x39#8 readStatus)

/-- SET_MASKS -/
def execSetMasks (tag : Byte) (part : Byte) (lanes : LaneMaskFields) (s : State) :
    Host.Outcome State Fault Refusal :=
  .next (s.serve tag 0x3A#8 (setMasks part lanes))

/-- SET_PART_PARAMETERS -/
def execSetPartParameters (tag : Byte) (grace aging : Nat) (s : State) : Host.Outcome State Fault Refusal :=
  .next (s.serve tag 0x3B#8 (setPartParameters grace aging))

/-- PART_RESET -/
def execPartReset (tag : Byte) (s : State) : Host.Outcome State Fault Refusal :=
  .next (s.serve tag 0x3C#8 partReset)

/-- UNKNOWN_REQUEST: a code of section 9.3 is not this event, and nothing happens (log 4). -/
def execUnknownRequest (tag code : Byte) (s : State) : Host.Outcome State Fault Refusal :=
  .next (if codeListed code.toNat then s else s.serve tag code (unknownRequest code))

/-- REQUEST_OVERRUN: on a Response Queue with room a request is no overrun, and nothing happens (log 4). -/
def execRequestOverrun (s : State) : Host.Outcome State Fault Refusal :=
  .next (if s.responses.length < Config.responseQueueSize then s else s.overrun)

end Sys2Proof.Machine
end

