-- ==== Sys2Proof/Machine/Tariffs.lean ====
section
/-! DEFINITION. The Tariff Store requests (chapter 6): Write Tariff Header, Write Schedule, Read Tariff,
Promote Tariff and Discard Pending, and the check value. -/

namespace Sys2Proof.Machine

/-! ## Loading -/

/-- A schedule as the load slot is prepared (R115). -/
def Schedule.blank : Schedule where
  defined := false
  deposits := ⟨0, 0, 0, 0⟩
  bottle := 0
  damaged := 0
  ullage := 0

/-- The contents of a load slot as it is prepared (R115). -/
def Generation.blank : Generation where
  header := { generation := 0, mode := .nearestEven, fees := ⟨0, 0, 0, 0⟩, enables := 0 }
  schedules := Vector.replicate 16 Schedule.blank

/-- A write on the load slot: prepared first when EMPTY, applied when PENDING, refused with TARIFF_BUSY
when RETIRING (R115). The load slot is not ACTIVE (R114). -/
def loadWrite (s : State) (change : Generation → Generation) (detail : TariffIndex → Generation → Detail) :
    Answer :=
  match s.tariffs[s.loadSlot] with
  | .empty =>
    accept (s.setTariff s.loadSlot (.pending (change Generation.blank)))
      (detail s.loadSlot (change Generation.blank))
  | .pending g =>
    accept (s.setTariff s.loadSlot (.pending (change g))) (detail s.loadSlot (change g))
  | .retiring g n => refuse s .tariffBusy (.tariffBusy s.loadSlot g.header.generation n)
  | .active g n => refuse s .tariffBusy (.tariffBusy s.loadSlot g.header.generation n)

/-- Write Tariff Header (R116). -/
def writeTariffHeader (generation mode feeA feeB feeC feeD : Nat) (enables : Byte) (s : State) : Answer :=
  match modeOf mode, enablesOf enables with
  | some m, some en =>
    if Config.top16 < generation || 10000 < feeA || 10000 < feeB || 10000 < feeC || 10000 < feeD then
      refuse s .malformed .empty
    else
      loadWrite s
        (fun g => { g with
          header := { generation := generation, mode := m, fees := ⟨feeA, feeB, feeC, feeD⟩, enables := en } })
        (fun t g => .headerWritten t .pending g.header.generation)
  | _, _ => refuse s .malformed .empty

/-- Write Schedule (R117). -/
def writeSchedule (schedule defined depositA depositB depositC depositD bottle damaged ullage : Nat)
    (s : State) : Answer :=
  match scheduleOf schedule, switchOf defined with
  | some k, some d =>
    if 100 < damaged || Config.top16 < depositA || Config.top16 < depositB || Config.top16 < depositC ||
        Config.top16 < depositD || Config.top16 < bottle || Config.top16 < ullage then
      refuse s .malformed .empty
    else
      loadWrite s
        (fun g => { g with
          schedules := upd g.schedules k (fun _ =>
            { defined := d
              deposits := ⟨depositA, depositB, depositC, depositD⟩
              bottle := bottle
              damaged := damaged
              ullage := ullage }) })
        (fun t _ => .scheduleWritten t schedule .pending)
  | _, _ => refuse s .malformed .empty

/-! ## The check value -/

def PerClass.sum (p : PerClass) : Nat := p.a + p.b + p.c + p.d

/-- The values a schedule adds to the check value (R119). -/
def Schedule.sum (x : Schedule) : Nat :=
  (if x.defined then 1 else 0) + x.deposits.sum + x.bottle + x.damaged + x.ullage

/-- The values a header adds to the check value (R119). -/
def TariffHeader.sum (h : TariffHeader) : Nat :=
  h.generation + h.mode.code + h.fees.sum + h.enables.toNat

/-- The check value of a slot's contents (R119). -/
def Generation.checkValue (g : Generation) : Nat :=
  (g.header.sum + (g.schedules.toList.map Schedule.sum).sum) % 65536

/-- The set of schedules whose defined mark is set: bit n is schedule n (R118, R185). -/
def Generation.definedSet (g : Generation) : Word16 :=
  (List.finRange 16).foldl (fun w k => if g.schedules[k].defined then w ||| (1#16 <<< k.val) else w) 0

/-! ## Reading -/

/-- Read Tariff (R118): part 255 is HEADER, 0 to 15 a schedule (R187). -/
def readTariff (slot part : Nat) (s : State) : Answer :=
  match tariffOf slot with
  | none => refuse s .malformed .empty
  | some t =>
    if part ≠ 255 && 15 < part then refuse s .malformed .empty
    else
      match s.tariffs[t].contents with
      | none => accept s (.tariffEmpty t)
      | some g =>
        match scheduleOf part with
        | some k => accept s (.tariffSchedule t s.tariffs[t].state s.tariffs[t].pins g.schedules[k])
        | none =>
          accept s
            (.tariffHeader t s.tariffs[t].state s.tariffs[t].pins g.header g.definedSet g.checkValue)

/-! ## Promotion and discard -/

/-- State and generation number of each slot (R120, R122). -/
def State.tariffStates (s : State) : Detail :=
  .tariffStates s.tariffs[(0 : TariffIndex)].state s.tariffs[(0 : TariffIndex)].generation
    s.tariffs[(1 : TariffIndex)].state s.tariffs[(1 : TariffIndex)].generation

/-- What becomes of the former ACTIVE slot at a promotion (R121). -/
def TariffSlot.superseded : TariffSlot → TariffSlot
  | .active g n => if 0 < n then .retiring g n else .empty
  | t => t

/-- The promotion of the PENDING slot t, its contents being g (R121). -/
def State.promote (s : State) (t : TariffIndex) (g : Generation) : State :=
  match s.activeTariff with
  | some o => (s.setTariff o s.tariffs[o].superseded).setTariff t (.active g 0)
  | none => s.setTariff t (.active g 0)

/-- The former ACTIVE slot, its state after the promotion and its pin count (R121). -/
def State.formerSlot (s : State) : Option (TariffIndex × TariffState × Nat) :=
  s.activeTariff.map (fun o => (o, s.tariffs[o].superseded.state, s.tariffs[o].superseded.pins))

/-- Whether a generation number equals the ACTIVE slot's (R120). -/
def State.activeGenerationIs (s : State) (n : Nat) : Bool :=
  s.activeTariff.any (fun o => s.tariffs[o].generation == n)

/-- Promote Tariff (R120, R121). -/
def promoteTariff (expected : Nat) (s : State) : Answer :=
  if Config.top16 < expected then refuse s .malformed .empty
  else
    match s.pendingTariff.bind (fun t => s.tariffs[t].contents.map (fun g => (t, g))) with
    | none => refuse s .wrongState s.tariffStates
    | some (t, g) =>
      if g.header.generation = 0 then refuse s .wrongState s.tariffStates
      else if s.activeGenerationIs g.header.generation then refuse s .wrongState s.tariffStates
      else if g.checkValue ≠ expected then
        refuse s .checkMismatch (.checkMismatch t expected g.checkValue)
      else accept (s.promote t g) (.promoted t g.header.generation g.checkValue s.formerSlot)

/-- Discard Pending (R122). -/
def discardPending (s : State) : Answer :=
  match s.pendingTariff with
  | none => refuse s .wrongState s.tariffStates
  | some t => accept (s.setTariff t .empty) (.pendingDiscarded t)

/-! ## The commands -/

/-- WRITE_TARIFF_HEADER -/
def execWriteTariffHeader (tag : Byte) (generation mode feeA feeB feeC feeD : Nat) (enables : Byte)
    (s : State) : Host.Outcome State Fault Refusal :=
  .next (s.serve tag 0x20#8 (writeTariffHeader generation mode feeA feeB feeC feeD enables))

/-- WRITE_SCHEDULE -/
def execWriteSchedule (tag : Byte)
    (schedule defined depositA depositB depositC depositD bottle damaged ullage : Nat) (s : State) :
    Host.Outcome State Fault Refusal :=
  .next (s.serve tag 0x21#8
    (writeSchedule schedule defined depositA depositB depositC depositD bottle damaged ullage))

/-- READ_TARIFF -/
def execReadTariff (tag : Byte) (slot part : Nat) (s : State) : Host.Outcome State Fault Refusal :=
  .next (s.serve tag 0x22#8 (readTariff slot part))

/-- PROMOTE_TARIFF -/
def execPromoteTariff (tag : Byte) (expected : Nat) (s : State) : Host.Outcome State Fault Refusal :=
  .next (s.serve tag 0x23#8 (promoteTariff expected))

/-- DISCARD_PENDING -/
def execDiscardPending (tag : Byte) (s : State) : Host.Outcome State Fault Refusal :=
  .next (s.serve tag 0x24#8 discardPending)

end Sys2Proof.Machine
end

