-- ==== Sys2Proof/Machine/Types.lean ====
section
/-! DEFINITION. The Container Type Table requests (chapter 5): Write Type, Delete Type and Read Type. -/

namespace Sys2Proof.Machine

/-- The index of a tag code: the number of entries whose tag code is lower (R103). -/
def typeIndex (types : List TypeEntry) (tagCode : Nat) : Nat :=
  types.countP (fun e => decide (e.tagCode < tagCode))

/-- Insert an entry in ascending order of tag code, or replace the entry of its tag code (R102, R103). -/
def putType (e : TypeEntry) : List TypeEntry → List TypeEntry
  | [] => [e]
  | x :: xs =>
    if e.tagCode < x.tagCode then e :: x :: xs
    else if e.tagCode = x.tagCode then e :: xs
    else x :: putType e xs

/-- Remove the entry of a tag code (R104). -/
def dropType (tagCode : Nat) (types : List TypeEntry) : List TypeEntry :=
  types.filter (fun e => e.tagCode != tagCode)

/-- The class, family and class-specific part of a Write Type, checked against one another (R101). The
family operand is 0 to 7, or 255 for NONE. -/
def typeBodyOf (spec : TypeSpec) (family : Nat) : Option TypeBody :=
  match spec with
  | .crate map =>
    match familyOf family with
    | some f => if map = 0 then none else some (.crate f map)
    | none => none
  | .pool map => if family = 255 && map != 0 then some (.pool map) else none
  | .keg t tol a l =>
    match familyOf family with
    | some f =>
      if t ≤ Config.massTop && tol ≤ Config.massTop && a ≤ Config.massTop && l ≤ Config.massTop then
        some (.keg f ⟨t, tol, a, l⟩)
      else none
    | none => none
  | .unknown _ => none

/-- A type's tag code lies in 1 to 65,535. -/
def tagCodeInRange (n : Nat) : Bool := 1 ≤ n && n ≤ Config.top16

/-- The entry a Write Type names, when it passes the first check of R101. -/
def typeEntryOf (tagCode : Nat) (spec : TypeSpec) (family schedule : Nat) : Option TypeEntry :=
  match scheduleOf schedule, typeBodyOf spec family with
  | some sch, some body =>
    if tagCodeInRange tagCode then some { tagCode := tagCode, schedule := sch, body := body } else none
  | _, _ => none

/-- Write Type (R101 to R103). -/
def writeType (tagCode : Nat) (spec : TypeSpec) (family schedule : Nat) (s : State) : Answer :=
  match typeEntryOf tagCode spec family schedule with
  | none => refuse s .malformed (.typeRefused tagCode s.types.length)
  | some e =>
    let held := (s.findType tagCode).isSome
    if !held && Config.typeTableSize ≤ s.types.length then
      refuse s .tableFull (.typeRefused tagCode s.types.length)
    else
      accept (s.setTypes (putType e s.types))
        (.typeWritten held (typeIndex s.types tagCode) (putType e s.types).length)

/-- Delete Type (R104). -/
def deleteType (tagCode : Nat) (s : State) : Answer :=
  if !tagCodeInRange tagCode then refuse s .malformed .empty
  else
    match s.findType tagCode with
    | none => refuse s .noEntry (.typeCount s.types.length)
    | some _ =>
      accept (s.setTypes (dropType tagCode s.types))
        (.typeDeleted (typeIndex s.types tagCode) (dropType tagCode s.types).length)

/-- Read Type by tag code (R105). -/
def readTypeByTagCode (tagCode : Nat) (s : State) : Answer :=
  if !tagCodeInRange tagCode then refuse s .malformed .empty
  else
    match s.findType tagCode with
    | none => refuse s .noEntry (.typeAbsent s.types.length (typeIndex s.types tagCode))
    | some e => accept s (.typeReport (typeIndex s.types tagCode) s.types.length e)

/-- Read Type by index (R106). -/
def readTypeByIndex (index : Nat) (s : State) : Answer :=
  if 63 < index then refuse s .malformed .empty
  else
    match s.types[index]? with
    | none => refuse s .noEntry (.typeCount s.types.length)
    | some e => accept s (.typeReport index s.types.length e)

/-! ## The commands -/

/-- WRITE_TYPE -/
def execWriteType (tag : Byte) (tagCode : Nat) (spec : TypeSpec) (family schedule : Nat) (s : State) :
    Host.Outcome State Fault Refusal :=
  .next (s.serve tag 0x18#8 (writeType tagCode spec family schedule))

/-- DELETE_TYPE -/
def execDeleteType (tag : Byte) (tagCode : Nat) (s : State) : Host.Outcome State Fault Refusal :=
  .next (s.serve tag 0x19#8 (deleteType tagCode))

/-- READ_TYPE_BY_TAG_CODE -/
def execReadTypeByTagCode (tag : Byte) (tagCode : Nat) (s : State) : Host.Outcome State Fault Refusal :=
  .next (s.serve tag 0x1A#8 (readTypeByTagCode tagCode))

/-- READ_TYPE_BY_INDEX -/
def execReadTypeByIndex (tag : Byte) (index : Nat) (s : State) : Host.Outcome State Fault Refusal :=
  .next (s.serve tag 0x1A#8 (readTypeByIndex index))

end Sys2Proof.Machine
end

