-- ==== Sys2Proof/Machine/Visits.lean ====
section
/-! DEFINITION. The visit requests (chapter 1): Open Visit, Bind Lanes, Release Lanes, Next Segment, Close
Visit, Cancel Visit and Read Visit. -/

namespace Sys2Proof.Machine

/-! ## Numbering -/

/-- The number after a visit number, wrapping from 65,535 to 1 (R3). -/
def succNumber (n : Nat) : Nat := if n = 65535 then 1 else n + 1

/-- Whether a record outside FREE holds a number. -/
def State.numberHeld (s : State) (n : Nat) : Bool :=
  allVisits.any (fun v => s.visits[v].state != .free && s.visits[v].number == n)

/-- The first number, from n upward, that no record outside FREE holds (R3). -/
def State.unheldFrom (s : State) : Nat → Nat → Nat
  | 0, n => n
  | fuel + 1, n => if s.numberHeld n then s.unheldFrom fuel (succNumber n) else n

/-- The number Open Visit assigns; the search ends within 24 candidates (R3). -/
def State.nextNumber (s : State) : Nat := s.unheldFrom 24 s.visitCounter

/-- The lowest-numbered FREE record (R9). -/
def State.freeSlot (s : State) : Option VisitSlot :=
  allVisits.find? (fun v => s.visits[v].state == .free)

/-! ## Open Visit -/

/-- The record of a visit as it opens, before its segment and lanes (R9). -/
def newVisit (number minutes : Nat) (p : Pin) : Visit where
  number := number
  state := .opened
  cause := .notClosed
  pin := some p
  laneSet := 0
  openLimit := 60 * minutes
  elapsed := 0
  grace := 0
  tagged := 0
  segments := []

/-- The open limit as applied: above 240 minutes it is taken as 240 (R8, R164). -/
def appliedMinutes (minutes : Nat) : Nat := min minutes 240

/-- The effect of a successful Open Visit (R9). -/
def State.openVisitAt (s : State) (v : VisitSlot) (t : TariffIndex) (a : AccountSlot) (lanes : LaneSet)
    (minutes : Nat) : State :=
  (((((s.setTariff t s.tariffs[t].addPin).setVisitCounter (succNumber s.nextNumber)).modifyVisit v
    (fun _ => newVisit s.nextNumber (appliedMinutes minutes) ⟨t, s.tariffs[t].generation⟩)).addSegment v
      a).bindClaimed v lanes)

/-- Open Visit (R8, R9). -/
def openVisit (account : Nat) (lanes : Byte) (minutes : Nat) (s : State) : Answer :=
  match laneSetOf lanes with
  | none => refuse s .malformed .empty
  | some set =>
    if !accountInRange account || minutes == 0 then refuse s .malformed .empty
    else
      match s.activeTariff with
      | none => refuse s .noTariff .empty
      | some t =>
        match s.freeSlot with
        | none => refuse s .visitsFull .empty
        | some v =>
          match s.findAccount account with
          | none => refuse s .noEntry (.missing .account)
          | some a =>
            match s.claimFailure ⟨v, s.nextNumber⟩ set with
            | some (code, l) => refuse s code (.lane l)
            | none =>
              accept (s.openVisitAt v t a set minutes)
                (.visitOpened s.nextNumber v s.tariffs[t].generation (appliedMinutes minutes) set)

/-! ## Requests that name a visit -/

/-- The lookup of R2: 0 is MALFORMED, a number no record holds is NO_ENTRY with the detail given. -/
def withVisit (s : State) (n : Nat) (absent : Detail) (k : VisitSlot → Answer) : Answer :=
  if !visitInRange n then refuse s .malformed .empty
  else
    match s.findVisit n with
    | none => refuse s .noEntry absent
    | some v => k v

/-- A request taken in OPEN alone; in CLOSING and SETTLING it is refused with WRONG_STATE (R11 to R13, R17). -/
def whenOpen (s : State) (v : VisitSlot) (a : Answer) : Answer :=
  if s.visits[v].state = .opened then a else refuse s .wrongState (.visitState s.visits[v].state)

/-- Bind Lanes (R11). -/
def bindLanes (visit : Nat) (lanes : Byte) (s : State) : Answer :=
  match laneSetOf lanes with
  | none => refuse s .malformed .empty
  | some set =>
    withVisit s visit .empty (fun v =>
      whenOpen s v
        (match s.claimFailure (s.visitTag v) set with
          | some (code, l) => refuse s code (.lane l)
          | none => accept (s.bindClaimed v set) (.laneSet (s.visits[v].laneSet ||| set))))

/-- Release Lanes (R12). -/
def releaseLanes (visit : Nat) (lanes : Byte) (s : State) : Answer :=
  match laneSetOf lanes with
  | none => refuse s .malformed .empty
  | some set =>
    withVisit s visit .empty (fun v =>
      whenOpen s v
        (accept
          ((s.unbindLanes (s.visits[v].laneSet &&& set)).modifyVisit v
            (fun r => { r with laneSet := r.laneSet &&& ~~~set }))
          (.laneSet (s.visits[v].laneSet &&& ~~~set))))

/-- Next Segment (R13). -/
def nextSegment (visit account : Nat) (s : State) : Answer :=
  if !accountInRange account then refuse s .malformed .empty
  else
    withVisit s visit (.missing .visit) (fun v =>
      whenOpen s v
        (if Config.segmentsPerVisit ≤ s.visits[v].segments.length then refuse s .segmentsFull .empty
        else
          match s.findAccount account with
          | none => refuse s .noEntry (.missing .account)
          | some a =>
            accept (s.addSegment v a)
              (.segmentAdded s.visits[v].segments.length (s.visits[v].segments.length + 1))))

/-- Close Visit (R17). -/
def closeVisit (visit : Nat) (s : State) : Answer :=
  withVisit s visit .empty (fun v =>
    whenOpen s v
      (accept (s.leaveOpen v .requested)
        (.visitClosed (s.leaveOpen v .requested).visits[v].state s.visits[v].tagged s.graceSeconds)))

/-! ## Cancel Visit -/

/-- Items committed to a segment: the counts over the count lines and the overflow line (R26). -/
def Segment.committed (g : Segment) : Nat :=
  (g.lines.map (fun x => x.tally.sound + x.tally.damaged + x.tally.scrap)).sum +
    (g.overflow.sound + g.overflow.damaged + g.overflow.scrap)

/-- The void summary entry of a segment, its float returned as the account stands before its add-back. -/
def State.voidEntry (s : State) (g : Segment) : VoidEntry where
  account := g.accountNumber
  committed := g.committed
  unlisted := g.unlisted
  diverted := g.diverted
  excess := g.excess
  returned := s.returnable g

/-- The void summary, segment by segment as the add-back goes (R25, R26). -/
def State.voidSummary (s : State) : List Segment → List VoidEntry
  | [] => []
  | g :: gs => s.voidEntry g :: (s.addBackSegment g).voidSummary gs

/-- A visit's lanes are given up and its tagged items purged with CANCELLED records (R24). -/
def State.cancelPurge (s : State) (v : VisitSlot) : State :=
  ((s.giveUpLanes v).purgeVisit .cancelled (s.visitTag v)).clearTagged v

/-- The effect of a taken Cancel Visit (R24 to R26). -/
def State.cancelVisitAt (s : State) (v : VisitSlot) : State :=
  ((s.cancelPurge v).addBack s.visits[v].segments).freeVisit v

/-- Cancel Visit (R24 to R26). -/
def cancelVisit (visit : Nat) (s : State) : Answer :=
  withVisit s visit .empty (fun v =>
    if s.visits[v].state = .settling then refuse s .tooLate .empty
    else
      accept (s.cancelVisitAt v)
        (.visitCancelled s.visits[v].number s.visits[v].state (s.taggedItems (s.visitTag v))
          ((s.cancelPurge v).voidSummary s.visits[v].segments)))

/-! ## Read Visit -/

/-- The header of a Read Visit (R28). -/
def State.visitReport (s : State) (v : VisitSlot) : VisitReport where
  number := s.visits[v].number
  slot := v
  state := s.visits[v].state
  cause := s.visits[v].cause
  pin := s.visits[v].pin
  laneSet := s.visits[v].laneSet
  minutes := s.visits[v].openLimit / 60
  elapsed := s.visits[v].elapsed
  grace := s.visits[v].grace
  tagged := s.visits[v].tagged
  segments := s.visits[v].segments.length

/-- The detail for a record: FREE alone, the header alone, or the header and a segment (R28). -/
def State.visitDetail (s : State) (v : VisitSlot) (segment : Nat) : Detail :=
  if s.visits[v].state = .free then .visitFree
  else
    match s.visits[v].segments[segment]? with
    | some g => .visitSegment (s.visitReport v) g
    | none => .visitHeader (s.visitReport v)

/-- Read Visit (R28). -/
def readVisit (key : VisitKey) (segment : Nat) (s : State) : Answer :=
  match key with
  | .number n => withVisit s n .empty (fun v => accept s (s.visitDetail v segment))
  | .slot n =>
    match visitSlotOf n with
    | none => refuse s .malformed .empty
    | some v => accept s (s.visitDetail v segment)

/-! ## The commands -/

/-- OPEN_VISIT -/
def execOpenVisit (tag : Byte) (account : Nat) (lanes : Byte) (minutes : Nat) (s : State) :
    Host.Outcome State Fault Refusal :=
  .next (s.serve tag 0x01#8 (openVisit account lanes minutes))

/-- BIND_LANES -/
def execBindLanes (tag : Byte) (visit : Nat) (lanes : Byte) (s : State) : Host.Outcome State Fault Refusal :=
  .next (s.serve tag 0x02#8 (bindLanes visit lanes))

/-- RELEASE_LANES -/
def execReleaseLanes (tag : Byte) (visit : Nat) (lanes : Byte) (s : State) :
    Host.Outcome State Fault Refusal :=
  .next (s.serve tag 0x03#8 (releaseLanes visit lanes))

/-- NEXT_SEGMENT -/
def execNextSegment (tag : Byte) (visit account : Nat) (s : State) : Host.Outcome State Fault Refusal :=
  .next (s.serve tag 0x04#8 (nextSegment visit account))

/-- CLOSE_VISIT -/
def execCloseVisit (tag : Byte) (visit : Nat) (s : State) : Host.Outcome State Fault Refusal :=
  .next (s.serve tag 0x05#8 (closeVisit visit))

/-- CANCEL_VISIT -/
def execCancelVisit (tag : Byte) (visit : Nat) (s : State) : Host.Outcome State Fault Refusal :=
  .next (s.serve tag 0x06#8 (cancelVisit visit))

/-- READ_VISIT -/
def execReadVisit (tag : Byte) (key : VisitKey) (segment : Nat) (s : State) :
    Host.Outcome State Fault Refusal :=
  .next (s.serve tag 0x07#8 (readVisit key segment))

end Sys2Proof.Machine
end

