-- ==== Sys2Proof/Machine/Requests.lean ====
section
/-! DEFINITION. A Request frame's arrival on the trunk (9.1): its payload is read and handed to the meaning
of the request it spells. -/

namespace Sys2Proof.Machine

/-- The meaning of a request (section 9.3). -/
def answerTo : Request → State → Answer
  | .openVisit a ls m => openVisit a ls m
  | .bindLanes v ls => bindLanes v ls
  | .releaseLanes v ls => releaseLanes v ls
  | .nextSegment v a => nextSegment v a
  | .closeVisit v => closeVisit v
  | .cancelVisit v => cancelVisit v
  | .readVisit k i => readVisit k i
  | .configureLane l en k lv rep => configureLane l en k lv rep
  | .laneReset l => laneReset l
  | .readLane l => readLane l
  | .writeType t spec f sch => writeType t spec f sch
  | .deleteType t => deleteType t
  | .readTypeByTagCode t => readTypeByTagCode t
  | .readTypeByIndex i => readTypeByIndex i
  | .writeTariffHeader g m a b c d en => writeTariffHeader g m a b c d en
  | .writeSchedule k d a b c e bt f u => writeSchedule k d a b c e bt f u
  | .readTariff t p => readTariff t p
  | .promoteTariff e => promoteTariff e
  | .discardPending => discardPending
  | .writeAccount sl a cl fr ce => writeAccount sl a cl fr ce
  | .deleteAccount a => deleteAccount a
  | .readAccount k => readAccount k
  | .issueContainers a f n => issueContainers a f n
  | .setFloat a f n => setFloat a f n
  | .freezeRun st n m => freezeRun st n m
  | .dayClose => dayClose
  | .releaseHeld a n => releaseHeld a n
  | .identify => identify
  | .readStatus => readStatus
  | .setMasks p ls => setMasks p ls
  | .setPartParameters g a => setPartParameters g a
  | .partReset => partReset

/-- The answer to a Request's payload (R163). -/
def answerForm (f : RequestForm) (s : State) : Answer :=
  match f with
  | .request r => answerTo r s
  | .unknown code => unknownRequest code s
  | .malformed _ => refuse s .malformed .empty

/-- The request code a response carries: the one received, and 0 when the payload is empty (R187). -/
def codeOf (payload : List Byte) : Byte := payload.headD 0

/-- The arrival of a Request frame (R160): tag and payload as the frame carries them. -/
def State.requestArrival (s : State) (tag : Byte) (payload : List Byte) : State :=
  s.serve tag (codeOf payload) (answerForm (decodeRequest payload))

end Sys2Proof.Machine
end

