-- ==== Sys2Proof/Machine/Arrivals.lean ====
section
/-! DEFINITION. The arrivals on the links (2.3, 2.6, 10.2, 10.3): lane frames, frame errors, downstream
frames, and single bytes. -/

namespace Sys2Proof.Machine

/-! ## Lane frames -/

/-- A lane frame that is a frame error (R36): nothing at all on a DISABLED lane. -/
def State.laneErrorArrival (s : State) (l : Lane) : State :=
  if s.lanes[l].enabled then (s.laneError l).finish else s

/-- Reads join the tail of a Read Queue with the lane's tag (R37, R38). -/
def State.acceptReads (s : State) (l : Lane) (es : List ReadEntry) : State :=
  (s.modifyLane l (fun p =>
    LanePort.rehold { p with queue := p.queue ++ es, accepted := satAdd Config.top16 p.accepted es.length })).raiseTagged
      s.lanes[l].tag es.length

/-- Reads discarded for lack of Read Queue space (R37, R38). -/
def State.overrunReads (s : State) (l : Lane) (n : Nat) : State :=
  s.modifyLane l (fun p => { p.latch .overrun with overruns := satAdd Config.top16 p.overruns n })

/-- The Read Queue entry of a Single Read; a gross mass above 20,000 is entered as 20,000 (R37). -/
def singleEntry (t : Option VisitTag) : SingleRead → ReadEntry
  | .crate r =>
    { tagCode := r.tagCode.toNat, condition := r.condition, body := .crate r.slots, member := none, tag := t }
  | .keg tagCode condition mass =>
    { tagCode := tagCode.toNat, condition := condition, body := .keg (min mass.toNat Config.massTop)
      member := none, tag := t }

/-- The arrival of a Single Read (R36, R37). -/
def State.singleArrival (s : State) (l : Lane) (r : SingleRead) : State :=
  if !s.lanes[l].enabled then s
  else if (singleEntry none r).body.kind ≠ s.lanes[l].kind then s.laneErrorArrival l
  else if Config.readQueueSize ≤ s.lanes[l].queue.length then (s.overrunReads l 1).finish
  else (s.acceptReads l [singleEntry s.lanes[l].tag r]).finish

/-- The Read Queue entries of a Stack Frame from position k: positions count up and the final read bears the
last mark (R38). -/
def stackEntries (t : Option VisitTag) (stack : Nat) : Nat → List CrateRead → List ReadEntry
  | _, [] => []
  | k, r :: rs =>
    { tagCode := r.tagCode.toNat, condition := r.condition, body := .crate r.slots
      member := some { stack := stack, position := k, last := rs.isEmpty }, tag := t } ::
      stackEntries t stack (k + 1) rs

/-- The arrival of a Stack Frame (R36, R38). -/
def State.stackArrival (s : State) (l : Lane) (stack : Byte) (reads : List CrateRead) : State :=
  if !s.lanes[l].enabled then s
  else if s.lanes[l].kind = .keg then s.laneErrorArrival l
  else if reads.length = 0 || Config.stackSize < reads.length then s.laneErrorArrival l
  else if s.lanes[l].stackPending stack.toNat then s.laneErrorArrival l
  else if s.lanes[l].freeEntries < reads.length then (s.overrunReads l reads.length).finish
  else (s.acceptReads l (stackEntries s.lanes[l].tag stack.toNat 1 reads)).finish

/-- The visit tag of a pending stack: the staged items', else its first queued read's (R38). -/
def LanePort.stackTag (p : LanePort) (n : Nat) : Option VisitTag :=
  match p.context.filter (fun c => c.stack == n) with
  | some c => some c.tag
  | none => (p.queue.find? (fun e => e.ofStack n)).bind (fun e => e.tag)

/-- A pending stack is withdrawn whole with CANCELLED records (R39). -/
def State.withdrawStack (s : State) (l : Lane) (n : Nat) : State :=
  match s.lanes[l].stackTag n with
  | some t =>
    (s.removeItems l .cancelled (Choice.ofStack n)).drainTagged t (s.lanes[l].chosenCount (Choice.ofStack n))
  | none => s.removeItems l .cancelled (Choice.ofStack n)

/-- The arrival of a Stack Cancel (R36, R39). -/
def State.cancelArrival (s : State) (l : Lane) (stack : Byte) : State :=
  if !s.lanes[l].enabled then s
  else if s.lanes[l].stackPending stack.toNat then (s.withdrawStack l stack.toNat).finish
  else (s.latchLane l .staleCancel).finish

/-- The arrival of a Lane Notice (R36, R41). -/
def State.noticeArrival (s : State) (l : Lane) (bytes : List Byte) : State :=
  if !s.lanes[l].enabled then s
  else if Config.noticeSize < bytes.length then s.laneErrorArrival l
  else (s.placeItem (.notice l bytes)).finish

/-- A lane frame whose check has passed (R184). -/
def State.laneFrameArrival (s : State) (l : Lane) (f : Frame) : State :=
  match decodeLaneFrame f with
  | some (.single r) => s.singleArrival l r
  | some (.stack n rs) => s.stackArrival l n rs
  | some (.cancel n) => s.cancelArrival l n
  | some (.notice bytes) => s.noticeArrival l bytes
  | none => s.laneErrorArrival l

/-! ## Trunk frames -/

/-- A trunk frame discarded by the trunk receiver latches TRUNK_FRAME_ERROR (R181, R183). -/
def State.trunkError (s : State) : State := (s.latchPart .trunkFrameError).finish

/-- A lane offered a downstream frame: it joins the lane transmit queue, or is discarded with a count and
DOWNSTREAM_LOSS (R49). -/
def LanePort.offer (p : LanePort) (f : Frame) : LanePort :=
  if p.enabled && p.txQueue.length < Config.laneTxSize then { p with txQueue := p.txQueue ++ [f] }
  else { p.latch .downstreamLoss with downLosses := satAdd Config.top16 p.downLosses 1 }

/-- Whether a trunk address is offered to a lane: n + 1 or 0x7F (R49). -/
def addressesLane (address : Byte) (l : Lane) : Bool :=
  address.toNat == l.val + 1 || address.toNat == 0x7F

/-- The arrival of a frame for lane heads (R49). -/
def State.downstreamArrival (s : State) (f : Frame) : State :=
  (s.mapLanes (fun l p => if addressesLane f.address l then p.offer f else p)).finish

/-- A trunk frame whose check has passed, routed by its address (R183). -/
def State.trunkFrameArrival (s : State) (f : Frame) : State :=
  if f.address = 0 then
    if f.kind = FrameKind.request.code then s.requestArrival f.tag f.payload else s.trunkError
  else if f.address.toNat ≤ 6 || f.address.toNat = 0x7F then s.downstreamArrival f
  else s.trunkError

/-! ## Bytes -/

/-- What a lane's receiver reports (R181). -/
def State.laneLinkEvent (l : Lane) (s : State) : LinkEvent → State
  | .error => s.laneErrorArrival l
  | .frame f => s.laneFrameArrival l f

/-- What the trunk receiver reports (R181). -/
def State.trunkLinkEvent (s : State) : LinkEvent → State
  | .error => s.trunkError
  | .frame f => s.trunkFrameArrival f

/-- One byte on a lane link (R181). -/
def State.laneByte (s : State) (l : Lane) (b : Byte) : State :=
  (s.lanes[l].rx.receive b).1.foldl (State.laneLinkEvent l)
    (s.modifyLane l (fun p => { p with rx := (p.rx.receive b).2 }))

/-- One byte on the trunk link (R181). -/
def State.trunkByte (s : State) (b : Byte) : State :=
  (s.trunkRx.receive b).1.foldl State.trunkLinkEvent (s.setTrunkRx (s.trunkRx.receive b).2)

/-! ## The commands -/

/-- SINGLE_READ -/
def execSingleRead (l : Lane) (r : SingleRead) (s : State) : Host.Outcome State Fault Refusal :=
  .next (s.singleArrival l r)

/-- STACK_FRAME -/
def execStackFrame (l : Lane) (stack : Byte) (reads : List CrateRead) (s : State) :
    Host.Outcome State Fault Refusal :=
  .next (s.stackArrival l stack reads)

/-- STACK_CANCEL -/
def execStackCancel (l : Lane) (stack : Byte) (s : State) : Host.Outcome State Fault Refusal :=
  .next (s.cancelArrival l stack)

/-- LANE_NOTICE -/
def execLaneNotice (l : Lane) (bytes : List Byte) (s : State) : Host.Outcome State Fault Refusal :=
  .next (s.noticeArrival l bytes)

/-- LANE_FRAME_ERROR -/
def execLaneFrameError (l : Lane) (s : State) : Host.Outcome State Fault Refusal :=
  .next (s.laneErrorArrival l)

/-- DOWNSTREAM_FRAME: routed by its address as every checked trunk frame is (R183, log 20). -/
def execDownstreamFrame (f : Frame) (s : State) : Host.Outcome State Fault Refusal :=
  .next (s.trunkFrameArrival f)

/-- TRUNK_FRAME_ERROR -/
def execTrunkFrameError (s : State) : Host.Outcome State Fault Refusal :=
  .next s.trunkError

/-- BYTE_RECEIVED -/
def execByteReceived (link : Link) (b : Byte) (s : State) : Host.Outcome State Fault Refusal :=
  .next
    (match link with
      | .lane l => s.laneByte l b
      | .trunk => s.trunkByte b)

end Sys2Proof.Machine
end

