-- ==== Sys2Proof/Machine/Commit.lean ====
section
/-! DEFINITION. Committing items (chapter 4): one item's passage through count line, float, saturation and
application, and its record. -/

namespace Sys2Proof.Machine

/-- A priced item on its way into a segment, with its stack number and position if it has any. -/
structure CommitItem where
  tagCode : Nat
  condition : Condition
  priced : PricedResult
  stack : Option (Nat × Nat)
deriving DecidableEq, Repr

/-- The changes of R87 to a line; each field stops at its top (R5). -/
def Tally.add (t : Tally) (condition : Condition) (bottles credit : Nat) : Tally where
  sound := if condition = .sound then satAdd Config.top16 t.sound 1 else t.sound
  damaged := if condition = .damaged then satAdd Config.top16 t.damaged 1 else t.damaged
  scrap := if condition = .scrap then satAdd Config.top16 t.scrap 1 else t.scrap
  bottles := satAdd Config.top24 t.bottles bottles
  credit := satAdd Config.top32 t.credit credit

/-- Enter an item on its line: the line of its tag code, a new line, or the overflow line (R86, R87). -/
def Segment.addToLine (g : Segment) (i : CommitItem) : Segment :=
  if g.lines.any (fun x => x.tagCode == i.tagCode) then
    { g with
      lines := g.lines.map (fun x =>
        if x.tagCode == i.tagCode then
          { x with tally := x.tally.add i.condition i.priced.bottles i.priced.credit }
        else x) }
  else if g.lines.length < Config.linesPerSegment then
    { g with
      lines := g.lines ++
        [{ tagCode := i.tagCode
           family := i.priced.family
           tally := Tally.add ⟨0, 0, 0, 0, 0⟩ i.condition i.priced.bottles i.priced.credit }] }
  else { g with overflow := g.overflow.add i.condition i.priced.bottles i.priced.credit }

/-- Where an item's credit goes (R88). -/
inductive Target where
  /-- G, no float (family NONE) -/
  | gross
  /-- G, with one unit of the family's float -/
  | grossTaking (f : Family)
  /-- X, the family's float being 0 -/
  | excess
deriving DecidableEq, Repr

/-- Step 3: the target from the item's family and the account's floats (R88). -/
def targetOf (family : Option Family) (floats : Vector Nat 8) : Target :=
  match family with
  | none => .gross
  | some f => if 0 < floats[f] then .grossTaking f else .excess

/-- The accumulator of a target. -/
def Segment.accumulator (g : Segment) : Target → Nat
  | .gross => g.gross
  | .grossTaking _ => g.gross
  | .excess => g.excessCredit

/-- Step 5 on the target: the accumulator, the float taken or the excess count (R90, R91). -/
def Segment.credit (g : Segment) (amount : Nat) : Target → Segment
  | .gross => { g with gross := satAdd Config.creditTop g.gross amount }
  | .grossTaking f =>
    { g with
      gross := satAdd Config.creditTop g.gross amount
      floatTaken := upd g.floatTaken f (fun n => satAdd Config.top24 n 1) }
  | .excess =>
    { g with
      excessCredit := satAdd Config.creditTop g.excessCredit amount
      excess := satAdd Config.top16 g.excess 1 }

/-- What one item's passage changes (4.2): the segment, a unit of float taken, and the record's outcome,
credit and causes. -/
structure Passage where
  segment : Segment
  takes : Option Family
  outcome : ItemOutcome
  credit : Nat
  causes : Causes
deriving DecidableEq, Repr

/-- A diverted item is counted and changes nothing else (R85, R89). -/
def divertedPassage (g : Segment) (causes : Causes) : Passage where
  segment := { g with diverted := satAdd Config.top16 g.diverted 1 }
  takes := none
  outcome := .diverted
  credit := 0
  causes := causes

/-- Step 5: line, target, float taken, excess count and sticky flags (R91). -/
def creditedPassage (g : Segment) (i : CommitItem) (t : Target) (causes : Causes) : Passage where
  segment :=
    let g := (g.addToLine i).credit i.priced.credit t
    { g with sticky := g.sticky ||| conditionsOf causes }
  takes := match t with
    | .grossTaking f => some f
    | .gross => none
    | .excess => none
  outcome := match t with
    | .grossTaking _ => .credited
    | .gross => .credited
    | .excess => .excess
  credit := i.priced.credit
  causes := causes

/-- Whether the trial sum of step 4 passes the ceiling (R89). -/
def Segment.saturates (g : Segment) (i : CommitItem) (t : Target) : Bool :=
  decide (Config.creditTop < g.accumulator t + i.priced.credit)

/-- Whether SATURATE is enabled. -/
def saturateEnabled (enables : Conditions) : Bool := enables.getLsbD Cause.saturate.place

/-- The per-item commit (R83 to R91). -/
def passage (enables : Conditions) (floats : Vector Nat 8) (g : Segment) (i : CommitItem) : Passage :=
  if !i.priced.listed then
    { segment := { g with unlisted := satAdd Config.top16 g.unlisted 1 }
      takes := none
      outcome := .unlisted
      credit := 0
      causes := 0 }
  else if i.priced.diverted then divertedPassage g i.priced.causes
  else
    let t := targetOf i.priced.family floats
    if g.saturates i t then
      if saturateEnabled enables then divertedPassage g (i.priced.causes ||| Cause.saturate.bit)
      else creditedPassage g i t (i.priced.causes ||| Cause.saturate.bit)
    else creditedPassage g i t i.priced.causes

/-- The account's side of a commit: one unit of float consumed (R88, R91). -/
def State.takeFloat (s : State) (a : AccountSlot) (f : Option Family) : State :=
  match f with
  | some f => s.setFloatValue a f (s.float a f - 1)
  | none => s

/-- Replace a segment of a visit. -/
def State.setSegment (s : State) (v : VisitSlot) (k : Nat) (g : Segment) : State :=
  s.modifyVisit v (fun r => { r with segments := r.segments.set k g })

/-- The record of a committed item (R94). -/
def commitRecord (l : Lane) (visit k : Nat) (i : CommitItem) (p : Passage) : ItemRecord where
  lane := l
  visit := visit
  segment := k
  tagCode := i.tagCode
  outcome := p.outcome
  causes := p.causes
  credit := p.credit
  stack := i.stack

/-- One item is committed into segment k of a visit: segment, float, lane flags and item record. -/
def State.commitItem (s : State) (l : Lane) (v : VisitSlot) (k : Nat) (enables : Conditions)
    (i : CommitItem) : State :=
  match s.visits[v].segments[k]? with
  | none => s
  | some g =>
    let p := passage enables s.accounts[g.accountSlot].floats g i
    ((((s.setSegment v k p.segment).takeFloat g.accountSlot p.takes).latchLaneIf l .diverted
        (p.outcome == .diverted)).latchLaneIf l .excess (p.outcome == .excess)).offerRecord
      (commitRecord l s.visits[v].number k i p)

/-- The items of one commit, one after another (R82). -/
def State.commitItems (s : State) (l : Lane) (v : VisitSlot) (k : Nat) (enables : Conditions)
    (is : List CommitItem) : State :=
  is.foldl (fun s i => s.commitItem l v k enables i) s

end Sys2Proof.Machine
end

