-- ==== Sys2Proof/Machine/Arbiter.lean ====
section
/-! DEFINITION. The grant arbiter and what a grant does with the entry it takes (R42, R44 to R47, R81, R82). -/

namespace Sys2Proof.Machine

/-- The lanes in cyclic order after the last-granted lane (R45). -/
def cyclicAfter (last : Lane) : List Lane := allLanes.map (fun k => last + 1 + k)

/-- The effective level of a lane (R45). -/
def State.level (s : State) (l : Lane) : Nat := s.lanes[l].effectiveLevel s.agingLimit

/-- The better of two candidates: the later one must be waiting and stand at a strictly higher level. -/
def State.betterLane (s : State) (best : Option Lane) (l : Lane) : Option Lane :=
  if s.lanes[l].waiting then
    match best with
    | none => some l
    | some b => if s.level b < s.level l then some l else some b
  else best

/-- The lane the arbiter grants: of highest effective level among the waiting lanes, the first in cyclic
order after the last-granted lane (R45). -/
def State.chooseLane (s : State) : Option Lane :=
  (cyclicAfter s.lastGranted).foldl s.betterLane none

/-- The arbiter's side of a grant from lane l that leaves `rest` in its queue: hold, pass counts and the
last-granted lane (R44 to R46). -/
def State.takeEntry (s : State) (l : Lane) (rest : List ReadEntry) : State :=
  (s.mapLanes (fun m p =>
    if m = l then LanePort.rehold { p with queue := rest, passCount := 0 }
    else if p.waiting && p.effectiveLevel s.agingLimit < s.level l then
      { p with passCount := satAdd Config.passTop p.passCount 1 }
    else p)).setLastGranted l

/-- Stack number and position of an entry. -/
def ReadEntry.stackPosition (e : ReadEntry) : Option (Nat × Nat) :=
  e.member.map (fun m => (m.stack, m.position))

/-- The record of an orphan (R47, R94). -/
def orphanRecord (l : Lane) (e : ReadEntry) (lookup : Option TypeEntry) : ItemRecord where
  lane := l
  visit := 0
  segment := 0
  tagCode := e.tagCode
  outcome := .orphan
  causes := Cause.wrongKind.when (lookup.any (fun t => (matchRead t.body e.body).isNone))
  credit := 0
  stack := e.stackPosition

/-- An orphan is counted, flagged and recorded (R47). -/
def State.grantOrphan (s : State) (l : Lane) (e : ReadEntry) : State :=
  ((s.modifyLane l (fun p => { p with orphans := satAdd Config.top16 p.orphans 1 })).latchLane l
    .orphan).offerRecord (orphanRecord l e (s.findType e.tagCode))

/-- What a tagged entry is priced with (R58): the pinned generation, the segment it is for, and that
segment's class snapshot. -/
structure GrantContext where
  generation : Generation
  segment : Nat
  cls : CustomerClass
deriving DecidableEq, Repr

/-- The segment a tagged entry is for: the recorded one when its stack is staged, else the current one
(R42, R46). -/
def State.segmentFor (s : State) (l : Lane) (e : ReadEntry) (t : VisitTag) : Nat :=
  match e.member, s.lanes[l].context with
  | some _, some c => c.segment
  | _, _ => s.visits[t.slot].current

/-- The context of a tagged entry; none in states R46 excludes (log 15). -/
def State.grantContext (s : State) (l : Lane) (e : ReadEntry) (t : VisitTag) : Option GrantContext :=
  if (s.visits[t.slot].state == .opened || s.visits[t.slot].state == .closing) &&
      s.visits[t.slot].number == t.number then
    match s.pinned s.visits[t.slot], s.visits[t.slot].segments[s.segmentFor l e t]? with
    | some g, some seg => some ⟨g, s.segmentFor l e t, seg.cls⟩
    | _, _ => none
  else none

/-- The flags pricing latches on the lane: UNLISTED at classification, ULLAGE_WARN at stage 7 (R70, R108). -/
def State.latchPricing (s : State) (l : Lane) (p : Pricing) : State :=
  (s.latchLaneIf l .unlisted (!p.result.listed)).latchLaneIf l .ullageWarn p.ullageWarn

/-- Append a priced item to the lane's Stack Context, which takes the stack's number, tag and recorded
segment when it was empty (R42). -/
def State.stageItem (s : State) (l : Lane) (t : VisitTag) (k stack : Nat) (i : StagedItem) : State :=
  s.modifyLane l (fun p =>
    { p with
      context :=
        match p.context with
        | some c => some { c with items := c.items ++ [i] }
        | none => some { stack := stack, tag := t, segment := k, items := [i] } })

/-- A staged item as commit takes it. -/
def StagedItem.toCommit (stack : Nat) (i : StagedItem) : CommitItem where
  tagCode := i.tagCode
  condition := i.condition
  priced := i.priced
  stack := some (stack, i.position)

/-- The staged stack of a lane commits whole into its recorded segment, in position order (R82). -/
def State.commitStack (s : State) (l : Lane) (enables : Conditions) : State :=
  match s.lanes[l].context with
  | none => s
  | some c =>
    ((s.commitItems l c.tag.slot c.segment enables (c.items.map (StagedItem.toCommit c.stack))).modifyLane l
      (fun p => { p with context := none })).drainTagged c.tag c.items.length

/-- A tagged entry with no stack membership is committed in its grant (R81). -/
def State.commitSingle (s : State) (l : Lane) (t : VisitTag) (c : GrantContext) (e : ReadEntry)
    (p : PricedResult) : State :=
  (s.commitItem l t.slot c.segment c.generation.header.enables
    { tagCode := e.tagCode, condition := e.condition, priced := p, stack := none }).drainTagged t 1

/-- What a grant does with a tagged entry (R46). -/
def State.grantTagged (s : State) (l : Lane) (e : ReadEntry) (t : VisitTag) (c : GrantContext) : State :=
  let p := price (s.findType e.tagCode) c.generation c.cls e
  match e.member with
  | none => (s.latchPricing l p).commitSingle l t c e p.result
  | some m =>
    let staged := (s.latchPricing l p).stageItem l t c.segment m.stack
      { position := m.position, tagCode := e.tagCode, condition := e.condition, priced := p.result }
    if m.last then staged.commitStack l c.generation.header.enables else staged

end Sys2Proof.Machine
end

