-- ==== Sys2Proof/Machine/Events.lean ====
section
/-! DEFINITION. The part's own events: grants, the tick and the expiries, settlement, and the completions of
frames. -/

namespace Sys2Proof.Machine

/-! ## Expiries and the tick -/

/-- Open-time expiry: the visit leaves OPEN with cause EXPIRED, and VISIT_EXPIRED is latched (R16). -/
def State.expireOpen (s : State) (v : VisitSlot) : State :=
  ((s.leaveOpen v .expired).latchPart .visitExpired).finish

/-- Grace abandonment on one lane: records, the abandoned count and STACK_ABANDONED (R20). -/
def State.abandonOnLane (t : VisitTag) (s : State) (l : Lane) : State :=
  let n := s.lanes[l].chosenCount (Choice.ofVisit t)
  if n = 0 then s
  else
    (s.removeItems l .abandoned (Choice.ofVisit t)).modifyLane l (fun p =>
      { p.latch .stackAbandoned with abandoned := satAdd Config.top16 p.abandoned n })

/-- Grace expiry: the remaining tagged items are abandoned, and the visit enters SETTLING (R20). -/
def State.expireGrace (s : State) (v : VisitSlot) : State :=
  (((allLanes.foldl (State.abandonOnLane (s.visitTag v)) s).clearTagged v).enterSettling v).finish

/-- Whether a visit's elapsed seconds have reached its open limit in OPEN (R14). -/
def Visit.openDue (r : Visit) : Bool := r.state == .opened && decide (r.openLimit ≤ r.elapsed)

/-- Whether a visit's grace has run out in CLOSING (R18). -/
def Visit.graceDue (r : Visit) : Bool := r.state == .closing && r.grace == 0

/-- One tick on a visit's timers: OPEN counts elapsed seconds up, CLOSING counts grace down (R14, R18). -/
def Visit.count (r : Visit) : Visit :=
  match r.state with
  | .opened => { r with elapsed := r.elapsed + 1 }
  | .closing => { r with grace := r.grace - 1 }
  | .free => r
  | .settling => r

/-- The tick at one visit: its timer, then the expiry the timer brings about (R14, R18, R173). A visit that
enters CLOSING here does not count grace. -/
def State.tickVisit (s : State) (v : VisitSlot) : State :=
  let t := s.modifyVisit v Visit.count
  if t.visits[v].openDue then t.expireOpen v
  else if t.visits[v].graceDue then t.expireGrace v
  else t

/-! ## The commands -/

/-- GRANT (R46): with no lane waiting there is no grant (R45, log 4). -/
def execGrant (s : State) : Host.Outcome State Fault Refusal :=
  match s.chooseLane with
  | none => .next s
  | some l =>
    match s.lanes[l].queue with
    | [] => .next s
    | e :: rest =>
      match e.tag with
      | none => .next ((s.takeEntry l rest).grantOrphan l e).finish
      | some t =>
        match s.grantContext l e t with
        | none => .fault .danglingTag
        | some c => .next ((s.takeEntry l rest).grantTagged l e t c).finish

/-- TICK (R173): taken at each visit in turn, in ascending order of slot. -/
def execTick (s : State) : Host.Outcome State Fault Refusal :=
  .next (allVisits.foldl State.tickVisit s)

/-- OPEN_TIME_EXPIRY (R16): of a visit whose elapsed seconds have reached its open limit (log 3). -/
def execOpenTimeExpiry (v : VisitSlot) (s : State) : Host.Outcome State Fault Refusal :=
  .next (if s.visits[v].openDue then s.expireOpen v else s)

/-- GRACE_EXPIRY (R20): of a CLOSING visit whose grace has run out (log 3). -/
def execGraceExpiry (v : VisitSlot) (s : State) : Host.Outcome State Fault Refusal :=
  .next (if s.visits[v].graceDue then s.expireGrace v else s)

/-- SETTLEMENT (R147, R148): of the head of the settle-wait list, when it is eligible (log 4). -/
def execSettlement (s : State) : Host.Outcome State Fault Refusal :=
  match s.settleWait with
  | [] => .next s
  | t :: _ =>
    if s.settlementRoom < s.visits[t.slot].segments.length then .next s
    else if s.visits[t.slot].state = .settling && s.visits[t.slot].number == t.number then
      match s.visits[t.slot].pin, s.pinned s.visits[t.slot] with
      | some p, some g => .next (s.settleVisit t.slot p g.header).finish
      | _, _ => .fault .danglingWait
    else .fault .danglingWait

/-- LANE_FRAME_COMPLETION (R50): the frame in transmission frees its entry, and the oldest remaining frame
is the one in transmission. -/
def execLaneFrameCompletion (l : Lane) (s : State) : Host.Outcome State Fault Refusal :=
  .next (s.modifyLane l (fun p => { p with txQueue := p.txQueue.drop 1 }))

/-- FIRST_FRAME_COMPLETION (R189) -/
def execFirstFrameCompletion (s : State) : Host.Outcome State Fault Refusal :=
  .next s.completeFirstFrame

/-- MESSAGE_COMPLETION (R193) -/
def execMessageCompletion (s : State) : Host.Outcome State Fault Refusal :=
  .next s.completeMessage

end Sys2Proof.Machine
end

