-- ==== Sys2Proof/Machine/Dispatch.lean ====
section
/-! DEFINITION. What each command does to the part: one arm for each constructor of Instr. -/

namespace Sys2Proof.Machine

def exec (i : Instr) (s : State) : Host.Outcome State Fault Refusal :=
  match i with
  | .powerOnReset => Sys2Proof.Machine.execPowerOnReset s
  | .openVisit tag account lanes minutes => Sys2Proof.Machine.execOpenVisit tag account lanes minutes s
  | .bindLanes tag visit lanes => Sys2Proof.Machine.execBindLanes tag visit lanes s
  | .releaseLanes tag visit lanes => Sys2Proof.Machine.execReleaseLanes tag visit lanes s
  | .nextSegment tag visit account => Sys2Proof.Machine.execNextSegment tag visit account s
  | .closeVisit tag visit => Sys2Proof.Machine.execCloseVisit tag visit s
  | .cancelVisit tag visit => Sys2Proof.Machine.execCancelVisit tag visit s
  | .readVisit tag key segment => Sys2Proof.Machine.execReadVisit tag key segment s
  | .configureLane tag lane enabled kind level reporting => Sys2Proof.Machine.execConfigureLane tag lane enabled kind level reporting s
  | .laneReset tag lane => Sys2Proof.Machine.execLaneReset tag lane s
  | .readLane tag lane => Sys2Proof.Machine.execReadLane tag lane s
  | .writeType tag tagCode spec family schedule => Sys2Proof.Machine.execWriteType tag tagCode spec family schedule s
  | .deleteType tag tagCode => Sys2Proof.Machine.execDeleteType tag tagCode s
  | .readTypeByTagCode tag tagCode => Sys2Proof.Machine.execReadTypeByTagCode tag tagCode s
  | .readTypeByIndex tag index => Sys2Proof.Machine.execReadTypeByIndex tag index s
  | .writeTariffHeader tag generation mode feeA feeB feeC feeD enables => Sys2Proof.Machine.execWriteTariffHeader tag generation mode feeA feeB feeC feeD enables s
  | .writeSchedule tag schedule defined depositA depositB depositC depositD bottle damaged ullage => Sys2Proof.Machine.execWriteSchedule tag schedule defined depositA depositB depositC depositD bottle damaged ullage s
  | .readTariff tag slot part => Sys2Proof.Machine.execReadTariff tag slot part s
  | .promoteTariff tag expected => Sys2Proof.Machine.execPromoteTariff tag expected s
  | .discardPending tag => Sys2Proof.Machine.execDiscardPending tag s
  | .writeAccount tag slot account cls frozen ceiling => Sys2Proof.Machine.execWriteAccount tag slot account cls frozen ceiling s
  | .deleteAccount tag account => Sys2Proof.Machine.execDeleteAccount tag account s
  | .readAccount tag key => Sys2Proof.Machine.execReadAccount tag key s
  | .issueContainers tag account family count => Sys2Proof.Machine.execIssueContainers tag account family count s
  | .setFloat tag account family value => Sys2Proof.Machine.execSetFloat tag account family value s
  | .freezeRun tag start count mark => Sys2Proof.Machine.execFreezeRun tag start count mark s
  | .dayClose tag => Sys2Proof.Machine.execDayClose tag s
  | .releaseHeld tag account amount => Sys2Proof.Machine.execReleaseHeld tag account amount s
  | .identify tag => Sys2Proof.Machine.execIdentify tag s
  | .readStatus tag => Sys2Proof.Machine.execReadStatus tag s
  | .setMasks tag part lanes => Sys2Proof.Machine.execSetMasks tag part lanes s
  | .setPartParameters tag grace aging => Sys2Proof.Machine.execSetPartParameters tag grace aging s
  | .partReset tag => Sys2Proof.Machine.execPartReset tag s
  | .unknownRequest tag code => Sys2Proof.Machine.execUnknownRequest tag code s
  | .requestOverrun => Sys2Proof.Machine.execRequestOverrun s
  | .downstreamFrame frame => Sys2Proof.Machine.execDownstreamFrame frame s
  | .trunkFrameError => Sys2Proof.Machine.execTrunkFrameError s
  | .singleRead lane read => Sys2Proof.Machine.execSingleRead lane read s
  | .stackFrame lane stack reads => Sys2Proof.Machine.execStackFrame lane stack reads s
  | .stackCancel lane stack => Sys2Proof.Machine.execStackCancel lane stack s
  | .laneNotice lane bytes => Sys2Proof.Machine.execLaneNotice lane bytes s
  | .laneFrameError lane => Sys2Proof.Machine.execLaneFrameError lane s
  | .grant => Sys2Proof.Machine.execGrant s
  | .tick => Sys2Proof.Machine.execTick s
  | .openTimeExpiry slot => Sys2Proof.Machine.execOpenTimeExpiry slot s
  | .graceExpiry slot => Sys2Proof.Machine.execGraceExpiry slot s
  | .settlement => Sys2Proof.Machine.execSettlement s
  | .laneFrameCompletion lane => Sys2Proof.Machine.execLaneFrameCompletion lane s
  | .firstFrameCompletion => Sys2Proof.Machine.execFirstFrameCompletion s
  | .messageCompletion => Sys2Proof.Machine.execMessageCompletion s
  | .byteReceived link byte => Sys2Proof.Machine.execByteReceived link byte s

end Sys2Proof.Machine
end

