-- ==== Sys2Proof/Safety.lean ====
section
/-! DEFINITION. What a safe outcome is, the invariants the rules claim of the part at every moment, and the
words that statements about whole states use. -/

namespace Sys2Proof.Machine

/-- An outcome that is a next state: no fault and no refusal. -/
def Goes : Host.Outcome State Fault Refusal → Prop
  | .next _ => True
  | .fault _ => False
  | .refused _ => False

/-- Commands one after another, each on the state that the one before left. -/
def execAll : List Instr → State → Host.Outcome State Fault Refusal
  | [], s => .next s
  | c :: cs, s =>
    match exec c s with
    | .next t => execAll cs t
    | .fault f => .fault f
    | .refused r => .refused r

/-! ## Answers -/

/-- The Response Queue has a free entry (R160, R161). -/
def State.room (s : State) : Prop := s.responses.length < 4

/-- A state with one response placed and nothing else changed (R161, R162), before the event ends. -/
def State.answered (s : State) (tag code : Byte) (c : ResponseCode) (d : Detail) : State :=
  { s with responses := s.responses ++ [⟨tag, code, c, d⟩] }

/-- What a refused request leaves: its response, and nothing else changed (R163). -/
def State.refuses (s : State) (tag code : Byte) (c : ResponseCode) (d : Detail) :
    Host.Outcome State Fault Refusal :=
  .next (s.answered tag code c d).finish

/-! ## Names -/

/-- The lowest-numbered place where a property holds. -/
def lowest {n : Nat} (P : Fin n → Prop) (i : Fin n) : Prop := P i ∧ ∀ j, j < i → ¬ P j

/-- A visit number in range names the record in a slot (R2). -/
def State.Named (s : State) (v : VisitSlot) (n : Nat) : Prop :=
  1 ≤ n ∧ n ≤ 65535 ∧ lowest (fun w => s.visits[w].state ≠ .free ∧ s.visits[w].number = n) v

/-- An account number in range names the account in a slot (R129). -/
def State.AccountAt (s : State) (a : AccountSlot) (n : Nat) : Prop :=
  1 ≤ n ∧ n ≤ 16777215 ∧ lowest (fun b => s.accounts[b].number = n) a

/-- A tariff slot is the one ACTIVE slot (R111). -/
def State.OneActive (s : State) (t : TariffIndex) : Prop :=
  ∀ o : TariffIndex, s.tariffs[o].state = .active ↔ o = t

/-- No tariff slot is ACTIVE. -/
def State.NoneActive (s : State) : Prop := ∀ o : TariffIndex, s.tariffs[o].state ≠ .active

/-- A lane is named by a lane set operand. -/
def names (lanes : Byte) (l : Lane) : Prop := lanes.getLsbD l.val = true

/-- A lane is BOUND. -/
def LanePort.Bound (p : LanePort) : Prop := ∃ t, p.state = .bound t

/-- The hold output as R35 gives it for a number of queued reads. -/
def LanePort.holdFor (p : LanePort) (occupancy : Nat) : Bool :=
  if p.state = .disabled then true
  else if 33 ≤ occupancy then true
  else if occupancy ≤ 24 then false
  else p.hold

/-- A lane whose visit has given it up (R15, R24). -/
def LanePort.unbound (p : LanePort) : LanePort := { p with state := .idle }

/-- The lanes with those of a set given up. -/
def State.lanesWithout (s : State) (lanes : LaneSet) : Vector LanePort 6 :=
  Vector.ofFn (fun l => if inSet lanes l then s.lanes[l].unbound else s.lanes[l])

/-- A visit that has left OPEN (R15): CLOSING with its grace loaded, or SETTLING when nothing is tagged. -/
def Visit.left (r : Visit) (cause : CloseCause) (grace : Nat) : Visit :=
  { r with
    cause := cause
    laneSet := 0
    state := if r.tagged = 0 then .settling else .closing
    grace := if r.tagged = 0 then 0 else grace }

/-- The settle-wait list after a visit has left OPEN or ended its drain with a tagged count (R22). -/
def State.waitAfter (s : State) (v : VisitSlot) (tagged : Nat) : List VisitTag :=
  if tagged = 0 then s.settleWait ++ [s.visitTag v] else s.settleWait

/-- The float a slot's family holds after float taken amounts are given back in turn (R25). -/
def givenBack (float : Nat) (amounts : List Nat) : Nat := amounts.foldl (fun n k => min 65535 (n + k)) float

/-- The amounts that segments took of a slot's family float, in order. -/
def takenOf (a : AccountSlot) (f : Family) (gs : List Segment) : List Nat :=
  (gs.filter (fun g => g.accountSlot == a)).map (fun g => g.floatTaken[f])

/-- A tariff slot after a number of its pins are released (R124). -/
def TariffSlot.released (t : TariffSlot) (k : Nat) : TariffSlot :=
  match t with
  | .active g n => .active g (n - k)
  | .retiring g n => if k = 0 then .retiring g n else if n ≤ k then .empty else .retiring g (n - k)
  | .empty => .empty
  | .pending g => .pending g

/-- Bytes into a receiver, one after another: what it reports, and its state after (R181). -/
def Receiver.receiveAll (r : Receiver) : List Byte → List LinkEvent × Receiver
  | [] => ([], r)
  | b :: bs =>
    ((r.receive b).1 ++ ((r.receive b).2.receiveAll bs).1, ((r.receive b).2.receiveAll bs).2)

/-- Items through the commit one after another, each finding the segment and the floats as those before it
left them (R82). -/
def passAll (en : Conditions) (g : Segment) (floats : Vector Nat 8) :
    List CommitItem → Segment × Vector Nat 8 × List Passage
  | [] => (g, floats, [])
  | i :: is =>
    let p := passage en floats g i
    let left := match p.takes with
      | some f => upd floats f (fun n => n - 1)
      | none => floats
    let r := passAll en p.segment left is
    (r.1, r.2.1, p :: r.2.2)

/-! ## Flags -/

/-- A part flag is latched and not masked. -/
def State.partFlagShows (s : State) (f : PartFlag) : Prop :=
  s.partFlags.getLsbD f.place = true ∧ s.partMasks.getLsbD f.place = false

/-- A lane flag is latched and not masked. -/
def State.laneFlagShows (s : State) (l : Lane) (f : LaneFlag) : Prop :=
  s.lanes[l].flags.getLsbD f.place = true ∧ s.laneMasks[l].getLsbD f.place = false

/-- Attention stands as R171 says: set while at least one latched flag, part or lane, is unmasked. -/
def State.attentionTrue (s : State) : Prop :=
  s.attention = true ↔ (∃ f, s.partFlagShows f) ∨ ∃ l f, s.laneFlagShows l f

/-! ## Records and grants -/

/-- Item records offered one after another: those that find room join the Item Record Queue, and the others
are counted as lost and latch ITEM_LOSS (R93). -/
def State.Recorded (s t : State) (records : List ItemRecord) : Prop :=
  let room := 32 - s.items.length
  t.items = s.items ++ (records.take room).map .item ∧
  (records.length ≤ room → t.lossCount = s.lossCount ∧ t.partFlag .itemLoss = s.partFlag .itemLoss) ∧
  (room < records.length →
    t.lossCount = min 65535 (s.lossCount + (records.length - room)) ∧ t.partFlag .itemLoss = true)

/-- The records of items that leave lanes, for the lanes whose item reporting is ON, lane 0 first (R20, R93). -/
def State.reported (s : State) (outcome : ItemOutcome) (c : Choice) : List ItemRecord :=
  allLanes.flatMap (fun l => if s.lanes[l].reporting then s.removalRecords l outcome c else [])

/-- The effective level of a lane (R45). -/
def State.standing (s : State) (l : Lane) : Nat :=
  if s.lanes[l].queue ≠ [] ∧ 1 ≤ s.agingLimit ∧ s.agingLimit ≤ 15 ∧ s.agingLimit ≤ s.lanes[l].passCount then 4
  else s.lanes[l].level

/-- How far a lane stands after the last-granted lane in cyclic order, the next lane at 0 (R45). -/
def State.distance (s : State) (l : Lane) : Nat := (l.val + 5 - s.lastGranted.val) % 6

/-- The lane the arbiter grants: waiting, of the highest effective level among the waiting lanes, and the first
of that level in cyclic order after the last-granted lane (R45). -/
def State.Granted (s : State) (l : Lane) : Prop :=
  s.lanes[l].queue ≠ [] ∧
  ∀ m : Lane, s.lanes[m].queue ≠ [] → m ≠ l →
    s.standing m < s.standing l ∨ s.standing m = s.standing l ∧ s.distance l < s.distance m

/-- The other lanes of a grant: a waiting lane of strictly lower effective level is passed over once more, and
nothing else of them changes (R44). -/
def State.PassedOver (s t : State) (l : Lane) : Prop :=
  ∀ m : Lane, m ≠ l → t.lanes[m] = { s.lanes[m] with
    passCount :=
      if s.lanes[m].queue ≠ [] ∧ s.standing m < s.standing l then min 15 (s.lanes[m].passCount + 1)
      else s.lanes[m].passCount }

/-- The granted lane after its oldest entry is taken (R35, R44, R46). -/
def LanePort.taken (p : LanePort) (rest : List ReadEntry) : LanePort :=
  { p with queue := rest, passCount := 0, hold := p.holdFor rest.length }

/-- What a visit with a tagged count brought to a value becomes: a CLOSING one with none left enters SETTLING
(R6, R19, R22). -/
def Visit.drainedTo (r : Visit) (left : Nat) : Visit :=
  if r.state = .closing ∧ left = 0 then { r with tagged := 0, state := .settling, grace := 0 }
  else { r with tagged := left }

/-- The settle-wait list after a tagged count was brought to a value (R19, R22). -/
def State.waitDrained (s : State) (u : VisitTag) (left : Nat) : List VisitTag :=
  if s.visits[u.slot].state = .closing ∧ left = 0 then s.settleWait ++ [u] else s.settleWait

/-- A visit's timers one tick on (R14 to R16, R18, R20, R173): OPEN counts up and expires at its limit,
CLOSING counts grace down and expires at 0. -/
def Visit.ticked (r : Visit) (grace : Nat) : Visit :=
  match r.state with
  | .opened =>
    if r.openLimit ≤ r.elapsed + 1 then { r with elapsed := r.elapsed + 1 }.left .expired grace
    else { r with elapsed := r.elapsed + 1 }
  | .closing =>
    if r.grace ≤ 1 then { r with state := .settling, grace := 0, tagged := 0 }
    else { r with grace := r.grace - 1 }
  | .free => r
  | .settling => r

/-- The state with one visit's timer counted by a tick, before the expiry that the count brings about: an OPEN
visit one elapsed second up, a CLOSING one a second of grace down (R14, R18). -/
def State.counted (s : State) (v : VisitSlot) : State :=
  { s with visits := upd s.visits v (fun r => match r.state with
    | .opened => { r with elapsed := r.elapsed + 1 }
    | .closing => { r with grace := r.grace - 1 }
    | .free => r
    | .settling => r) }

/-- An account slot after segments that name it are settled in turn (R153). -/
def Account.settledThrough (r : Account) (h : TariffHeader) (a : AccountSlot) (gs : List Segment) : Account :=
  (gs.filter (fun g => g.accountSlot == a)).foldl (fun r g => r.settle (amountsOf h r g)) r

/-! ## Capacities -/

/-- The types stand in strictly ascending order of tag code (R100). -/
def ascending (types : List TypeEntry) : Prop := types.Pairwise (fun a b => a.tagCode < b.tagCode)

/-- A segment holds at most 12 count lines, with distinct tag codes (R4). -/
def Segment.linesSound (g : Segment) : Prop :=
  g.lines.length ≤ 12 ∧ (g.lines.map (fun x => x.tagCode)).Nodup

/-- A lane holds at most 48 reads and 4 frames, and its pass count is 0 to 15 (R34, R44, R50). -/
def LanePort.withinCapacity (p : LanePort) : Prop :=
  p.queue.length ≤ 48 ∧ p.txQueue.length ≤ 4 ∧ p.passCount ≤ 15

/-- Every collection is within its capacity (00, Capacities). -/
structure State.WithinCapacity (s : State) : Prop where
  responses : s.responses.length ≤ 4
  items : s.items.length ≤ 32
  settlementQueue : s.settlementQueue.length ≤ 8
  types : s.types.length ≤ 64
  ascending : ascending s.types
  lanes : ∀ l : Lane, s.lanes[l].withinCapacity
  segments : ∀ v : VisitSlot, s.visits[v].segments.length ≤ 8
  lines : ∀ v : VisitSlot, ∀ g ∈ s.visits[v].segments, g.linesSound

/-! ## Use counts and pins -/

/-- The number of segments of a visit record that name an account slot. -/
def Visit.uses (r : Visit) (a : AccountSlot) : Nat := r.segments.countP (fun g => g.accountSlot == a)

/-- The number of segments, over the Visit Table, that name an account slot. -/
def State.usesOf (s : State) (a : AccountSlot) : Nat := (allVisits.map (fun v => s.visits[v].uses a)).sum

/-- Use counts are exact (R130): each equals the number of segments that name its slot, a FREE record has no
segment, and an empty slot's use count is 0. -/
structure State.UseCountsExact (s : State) : Prop where
  free : ∀ v : VisitSlot, s.visits[v].state = .free → s.visits[v].segments = []
  exact : ∀ a : AccountSlot, s.accounts[a].useCount = s.usesOf a
  empty : ∀ a : AccountSlot, s.accounts[a].number = 0 → s.accounts[a].useCount = 0

/-- The number of visit records that pin a tariff slot. -/
def State.pinsOf (s : State) (t : TariffIndex) : Nat :=
  allVisits.countP (fun v => s.visits[v].pin.any (fun p => p.slot == t))

/-- The Tariff Store is sound (R111, R114, R123): at most one slot is ACTIVE, a RETIRING slot has a pin and
stands beside an ACTIVE one, each pin count is the number of records that pin the slot, and a pin names a
slot that still holds the generation of its number. A FREE record pins nothing. -/
structure State.TariffsSound (s : State) : Prop where
  oneActive : ¬ (s.tariffs[(0 : TariffIndex)].state = .active ∧ s.tariffs[(1 : TariffIndex)].state = .active)
  retiring : ∀ t : TariffIndex, s.tariffs[t].state = .retiring →
    1 ≤ s.tariffs[t].pins ∧ s.tariffs[otherTariff t].state = .active
  pins : ∀ t : TariffIndex, s.tariffs[t].pins = s.pinsOf t
  free : ∀ v : VisitSlot, s.visits[v].state = .free → s.visits[v].pin = none
  held : ∀ v : VisitSlot, s.visits[v].state ≠ .free →
    ∃ p g, s.visits[v].pin = some p ∧ s.tariffs[p.slot].contents = some g ∧
      g.header.generation = p.generation ∧
      (s.tariffs[p.slot].state = .active ∨ s.tariffs[p.slot].state = .retiring)

/-! ## Lanes and visits -/

/-- Bindings agree (R7, R31): only an OPEN visit has lanes, every lane of its set is BOUND to it, and a BOUND
lane stands in the lane set of the visit it records. -/
structure State.BindingsSound (s : State) : Prop where
  onlyOpen : ∀ v : VisitSlot, s.visits[v].state ≠ .opened → s.visits[v].laneSet = 0
  bound : ∀ (v : VisitSlot) (l : Lane), inSet s.visits[v].laneSet l = true →
    s.lanes[l].state = .bound (s.visitTag v)
  member : ∀ (l : Lane) (t : VisitTag), s.lanes[l].state = .bound t →
    t = s.visitTag t.slot ∧ inSet s.visits[t.slot].laneSet l = true

/-- The hold output of a lane as R35 bounds it. -/
def LanePort.holdSound (p : LanePort) : Prop :=
  (p.state = .disabled → p.hold = true) ∧
  (p.state ≠ .disabled → (33 ≤ p.queue.length → p.hold = true) ∧ (p.queue.length ≤ 24 → p.hold = false))

/-- The settle-wait list holds exactly the visits in SETTLING, none twice (R145). -/
def State.SettleWaitExact (s : State) : Prop :=
  s.settleWait.Nodup ∧
  ∀ t : VisitTag, t ∈ s.settleWait ↔
    s.visits[t.slot].state = .settling ∧ s.visits[t.slot].number = t.number

/-! ## Tags, stacks and tagged counts -/

/-- A read of a stack that does not bear the last mark. -/
def ReadEntry.unfinished (e : ReadEntry) : Bool := e.member.any (fun m => !m.last)

/-- A read goes on with the stack of another, under the same tag. -/
def ReadEntry.goesOn (e f : ReadEntry) : Prop :=
  f.tag = e.tag ∧ ∃ m n, e.member = some m ∧ f.member = some n ∧ n.stack = m.stack

/-- A stack's reads occupy consecutive entries of a Read Queue, up to its last (R38, R42). -/
def chained : List ReadEntry → Prop
  | [] => True
  | [e] => e.unfinished = false
  | e :: f :: rest => (e.unfinished = true → e.goesOn f) ∧ chained (f :: rest)

/-- A visit a tag names is live: OPEN or CLOSING, under the tag's number (R46). -/
def State.names (s : State) (t : VisitTag) : Prop :=
  (s.visits[t.slot].state = .opened ∨ s.visits[t.slot].state = .closing) ∧
    s.visits[t.slot].number = t.number

/-- A lane's stacks stand as R38 and R42 say: the queue is chained, the staged stack goes on at its head, and
the reads of one stack number share one tag. -/
structure LanePort.StacksSound (p : LanePort) : Prop where
  queue : chained p.queue
  staged : ∀ c, p.context = some c → ∃ e rest m,
    p.queue = e :: rest ∧ e.tag = some c.tag ∧ e.member = some m ∧ m.stack = c.stack
  oneTag : ∀ e ∈ p.queue, ∀ f ∈ p.queue, ∀ m n, e.member = some m → f.member = some n → m.stack = n.stack →
    e.tag = f.tag
  stagedTag : ∀ c, p.context = some c → ∀ e ∈ p.queue, ∀ m, e.member = some m → m.stack = c.stack →
    e.tag = some c.tag

/-- The positions of queued stack reads, where `n` reads of the stack at the head have gone before: they count up
to the read that bears the last mark, which stands at 16 or lower, and the next stack starts at 1 (R38). -/
def numbered : Nat → List ReadEntry → Prop
  | n, [] => n = 0
  | n, e :: rest =>
    match e.member with
    | none => n = 0 ∧ numbered 0 rest
    | some m => m.position = n + 1 ∧ n < 16 ∧ numbered (if m.last then 0 else n + 1) rest

/-- A lane's stacks stand whole and in the order of their positions: the staged items are those at positions 1
to n of the stack that goes on at the head of the queue, and without staged items a tagged head starts its
stack (R38, R42, R82). -/
structure LanePort.StacksNumbered (p : LanePort) : Prop where
  whole : p.StacksSound
  positions : ∃ n, numbered n p.queue ∧
    (∀ c, p.context = some c → 1 ≤ n ∧ c.items.map (fun i => i.position) = List.range' 1 n) ∧
    (p.context = none → ∀ e rest, p.queue = e :: rest → e.tag ≠ none → n = 0)

/-- Tags and tagged counts are sound (R4, R6, R42, R46): bindings agree, stacks stand whole, every tag in a
lane names a live visit, a recorded segment exists, a live visit has a segment, and a visit's tagged count is
the number of items that carry its tag. -/
structure State.TagsSound (s : State) : Prop where
  bindings : s.BindingsSound
  whole : ∀ l : Lane, s.lanes[l].StacksSound
  queued : ∀ l : Lane, ∀ e ∈ s.lanes[l].queue, ∀ t, e.tag = some t → s.names t
  staged : ∀ (l : Lane) (c : StackContext), s.lanes[l].context = some c →
    s.names c.tag ∧ c.segment < s.visits[c.tag.slot].segments.length
  segments : ∀ v : VisitSlot, s.visits[v].state = .opened ∨ s.visits[v].state = .closing →
    s.visits[v].segments ≠ []
  tagged : ∀ v : VisitSlot, s.visits[v].state ≠ .free →
    s.visits[v].tagged = s.taggedItems (s.visitTag v)

/-! ## Ranges -/

/-- The ranges of an account slot (R128, R135, R140). -/
def Account.inRange (r : Account) : Prop :=
  r.number ≤ 16777215 ∧ (∀ f : Family, r.floats[f] ≤ 65535) ∧ r.held ≤ 4294967295 ∧
    r.paidToday ≤ 4294967295 ∧ r.ceiling ≤ 4294967295

/-- The ranges of a tally: of a count line or of the overflow line (R5). -/
def Tally.inRange (t : Tally) : Prop :=
  t.sound ≤ 65535 ∧ t.damaged ≤ 65535 ∧ t.scrap ≤ 65535 ∧ t.bottles ≤ 16777215 ∧ t.credit ≤ 4294967295

/-- The ranges of a segment's accumulators, counts, tallies and float taken counters (R5, R89). -/
def Segment.inRange (g : Segment) : Prop :=
  g.gross ≤ 2147483647 ∧ g.excessCredit ≤ 2147483647 ∧ g.unlisted ≤ 65535 ∧ g.diverted ≤ 65535 ∧
    g.excess ≤ 65535 ∧ (∀ f : Family, g.floatTaken[f] ≤ 16777215) ∧ g.overflow.inRange ∧
    ∀ x ∈ g.lines, x.tally.inRange

/-- The ranges of a visit record (1.1, R1): a FREE one holds the values of R1, the elapsed seconds stay below the
open limit in OPEN and never pass it, and grace remains in CLOSING. -/
structure Visit.inRange (r : Visit) : Prop where
  free : r.state = .free → r = Visit.free
  live : r.state ≠ .free →
    1 ≤ r.number ∧ r.number ≤ 65535 ∧ 60 ≤ r.openLimit ∧ r.openLimit ≤ 14400 ∧ r.segments ≠ []
  elapsed : r.elapsed ≤ r.openLimit
  opened : r.state = .opened → r.elapsed < r.openLimit
  grace : r.grace ≤ 60
  closing : r.state = .closing → 1 ≤ r.grace

/-- The ranges of a lane's six counters (R51). -/
def LanePort.countersInRange (p : LanePort) : Prop :=
  p.accepted ≤ 65535 ∧ p.frameErrors ≤ 65535 ∧ p.overruns ≤ 65535 ∧ p.orphans ≤ 65535 ∧
    p.abandoned ≤ 65535 ∧ p.downLosses ≤ 65535

/-- Every value stands at or below a bound. -/
def PerClass.within (p : PerClass) (top : Nat) : Prop := p.a ≤ top ∧ p.b ≤ top ∧ p.c ≤ top ∧ p.d ≤ top

/-- The ranges of a schedule (R113). -/
def Schedule.inRange (x : Schedule) : Prop :=
  x.deposits.within 65535 ∧ x.bottle ≤ 65535 ∧ x.damaged ≤ 100 ∧ x.ullage ≤ 65535

/-- The ranges of a generation (R112, R113). -/
def Generation.inRange (g : Generation) : Prop :=
  g.header.generation ≤ 65535 ∧ g.header.fees.within 10000 ∧ ∀ k : Fin 16, g.schedules[k].inRange

/-- Every quantity stands in its range. -/
structure State.InRange (s : State) : Prop where
  accounts : ∀ a : AccountSlot, s.accounts[a].inRange
  visits : ∀ v : VisitSlot, s.visits[v].inRange
  segments : ∀ v : VisitSlot, ∀ g ∈ s.visits[v].segments, g.inRange
  lanes : ∀ l : Lane, s.lanes[l].countersInRange
  levels : ∀ l : Lane, s.lanes[l].level ≤ 3
  tariffs : ∀ (t : TariffIndex) (g : Generation), s.tariffs[t].contents = some g → g.inRange
  lossCount : s.lossCount ≤ 65535
  counter : 1 ≤ s.visitCounter ∧ s.visitCounter ≤ 65535
  grace : 1 ≤ s.graceSeconds ∧ s.graceSeconds ≤ 60
  aging : s.agingLimit ≤ 15

/-- A number names one record: no two records outside FREE hold one visit number, and no two slots one account
number (R1, R128). -/
structure State.NamesUnique (s : State) : Prop where
  visits : ∀ v w : VisitSlot, s.visits[v].state ≠ .free → s.visits[w].state ≠ .free →
    s.visits[v].number = s.visits[w].number → v = w
  accounts : ∀ a b : AccountSlot, s.accounts[a].number ≠ 0 → s.accounts[a].number = s.accounts[b].number → a = b

/-! ## The trunk transmitter -/

/-- The transmitter as R189 and R193 leave it: an idle one has no message to send, and a sending one holds a
frame of the oldest message of its queue, made with attention as some event found it: the only or first frame of
a message without or with count lines, or the second of one with count lines. -/
structure State.TransmitterSound (s : State) : Prop where
  idle : s.trunkTx = .idle → s.responses = [] ∧ s.settlementQueue = [] ∧ s.items = []
  sending : ∀ (q : TrunkQueue) (part : FramePart) (f : Frame), s.trunkTx = .sending q part f →
    ∃ (m : Message) (attention : Bool), s.oldest q = some m ∧
      (part = .only → m.lines = [] ∧ f = m.firstFrame attention) ∧
      (part = .first → m.lines ≠ [] ∧ f = m.firstFrame attention) ∧
      (part = .second → m.lines ≠ [] ∧ f = m.secondFrame attention)

end Sys2Proof.Machine
end

