-- ==== Sys2Proof/WellFormed.lean ====
section
/-! DEFINITION. Well-formed commands: those that the links can bring. A request is well formed when every
field fits its width on the wire (R185, R187); a lane event when its frame passes R186 and R41; a downstream
frame when R179 and R183 send it to a lane head. A field out of its range is well formed: the meanings refuse
it (R164). -/

namespace Sys2Proof

/-- A number fits one byte. -/
def fits8 (n : Nat) : Bool := n < 256
/-- A number fits two bytes. -/
def fits16 (n : Nat) : Bool := n < 65536
/-- A number fits three bytes. -/
def fits24 (n : Nat) : Bool := n < 16777216
/-- A number fits four bytes. -/
def fits32 (n : Nat) : Bool := n < 4294967296

/-- The class-specific part fits its bytes, and `unknown` holds a code that names no class (R185, R187). -/
def TypeSpec.wellFormed : TypeSpec → Bool
  | .crate _ => true
  | .pool _ => true
  | .keg t tol a l => fits16 t && fits16 tol && fits16 a && fits16 l
  | .unknown code => 3 ≤ code && fits8 code

/-- The value of a visit key fits two bytes (R187). -/
def VisitKey.wellFormed : VisitKey → Bool
  | .number n => fits16 n
  | .slot n => fits16 n

/-- The value of an account key fits three bytes (R187). -/
def AccountKey.wellFormed : AccountKey → Bool
  | .number n => fits24 n
  | .slot n => fits24 n

/-- Every field fits its width (R185, R187). -/
def Request.wellFormed : Request → Bool
  | .openVisit a _ m => fits24 a && fits8 m
  | .bindLanes v _ => fits16 v
  | .releaseLanes v _ => fits16 v
  | .nextSegment v a => fits16 v && fits24 a
  | .closeVisit v => fits16 v
  | .cancelVisit v => fits16 v
  | .readVisit key k => key.wellFormed && fits8 k
  | .configureLane l en k lv rep => fits8 l && fits8 en && fits8 k && fits8 lv && fits8 rep
  | .laneReset l => fits8 l
  | .readLane l => fits8 l
  | .writeType t spec f sch => fits16 t && spec.wellFormed && fits8 f && fits8 sch
  | .deleteType t => fits16 t
  | .readTypeByTagCode t => fits16 t
  | .readTypeByIndex i => fits16 i
  | .writeTariffHeader g m a b c d _ => fits16 g && fits8 m && fits16 a && fits16 b && fits16 c && fits16 d
  | .writeSchedule k d a b c e bt f u =>
    fits8 k && fits8 d && fits16 a && fits16 b && fits16 c && fits16 e && fits16 bt && fits8 f && fits16 u
  | .readTariff t p => fits8 t && fits8 p
  | .promoteTariff e => fits16 e
  | .discardPending => true
  | .writeAccount sl a cl fr ce => fits8 sl && fits24 a && fits8 cl && fits8 fr && fits32 ce
  | .deleteAccount a => fits24 a
  | .readAccount key => key.wellFormed
  | .issueContainers a f n => fits24 a && fits8 f && fits16 n
  | .setFloat a f n => fits24 a && fits8 f && fits16 n
  | .freezeRun st n m => fits8 st && fits16 n && fits8 m
  | .dayClose => true
  | .releaseHeld a n => fits24 a && fits32 n
  | .identify => true
  | .readStatus => true
  | .setMasks _ _ => true
  | .setPartParameters g a => fits8 g && fits8 a
  | .partReset => true

/-- A frame that passes the link checks of R180 and R181: payload of at most 200 bytes, and its check. -/
def Frame.wellFormed (f : Frame) : Bool := f.payload.length ≤ 200 && f.properCheck == f.check

/-- A stack of 1 to 16 reads, a notice of at most 32 bytes (R38, R41). -/
def LaneArrival.wellFormed : LaneArrival → Bool
  | .single _ => true
  | .stack _ reads => 1 ≤ reads.length && reads.length ≤ 16
  | .cancel _ => true
  | .notice bytes => bytes.length ≤ 32

/-- Whether R183 offers a frame of an address to the lanes. -/
def isLaneAddress (address : Byte) : Bool :=
  (1 ≤ address.toNat && address.toNat ≤ 6) || address.toNat == 0x7F

/-- A command as its event can bring it. -/
def Instr.wellFormed : Instr → Bool
  | .powerOnReset => true
  | .openVisit _ a ls m => (Request.openVisit a ls m).wellFormed
  | .bindLanes _ v ls => (Request.bindLanes v ls).wellFormed
  | .releaseLanes _ v ls => (Request.releaseLanes v ls).wellFormed
  | .nextSegment _ v a => (Request.nextSegment v a).wellFormed
  | .closeVisit _ v => (Request.closeVisit v).wellFormed
  | .cancelVisit _ v => (Request.cancelVisit v).wellFormed
  | .readVisit _ key k => (Request.readVisit key k).wellFormed
  | .configureLane _ l en k lv rep => (Request.configureLane l en k lv rep).wellFormed
  | .laneReset _ l => (Request.laneReset l).wellFormed
  | .readLane _ l => (Request.readLane l).wellFormed
  | .writeType _ t spec f sch => (Request.writeType t spec f sch).wellFormed
  | .deleteType _ t => (Request.deleteType t).wellFormed
  | .readTypeByTagCode _ t => (Request.readTypeByTagCode t).wellFormed
  | .readTypeByIndex _ i => (Request.readTypeByIndex i).wellFormed
  | .writeTariffHeader _ g m a b c d en => (Request.writeTariffHeader g m a b c d en).wellFormed
  | .writeSchedule _ k d a b c e bt f u => (Request.writeSchedule k d a b c e bt f u).wellFormed
  | .readTariff _ t p => (Request.readTariff t p).wellFormed
  | .promoteTariff _ e => (Request.promoteTariff e).wellFormed
  | .discardPending _ => true
  | .writeAccount _ sl a cl fr ce => (Request.writeAccount sl a cl fr ce).wellFormed
  | .deleteAccount _ a => (Request.deleteAccount a).wellFormed
  | .readAccount _ key => (Request.readAccount key).wellFormed
  | .issueContainers _ a f n => (Request.issueContainers a f n).wellFormed
  | .setFloat _ a f n => (Request.setFloat a f n).wellFormed
  | .freezeRun _ st n m => (Request.freezeRun st n m).wellFormed
  | .dayClose _ => true
  | .releaseHeld _ a n => (Request.releaseHeld a n).wellFormed
  | .identify _ => true
  | .readStatus _ => true
  | .setMasks _ p ls => (Request.setMasks p ls).wellFormed
  | .setPartParameters _ g a => (Request.setPartParameters g a).wellFormed
  | .partReset _ => true
  | .unknownRequest _ code => !codeListed code.toNat
  | .requestOverrun => true
  | .downstreamFrame f => f.wellFormed && isLaneAddress f.address
  | .trunkFrameError => true
  | .singleRead _ _ => true
  | .stackFrame _ _ reads => 1 ≤ reads.length && reads.length ≤ 16
  | .stackCancel _ _ => true
  | .laneNotice _ bytes => bytes.length ≤ 32
  | .laneFrameError _ => true
  | .grant => true
  | .tick => true
  | .openTimeExpiry _ => true
  | .graceExpiry _ => true
  | .settlement => true
  | .laneFrameCompletion _ => true
  | .firstFrameCompletion => true
  | .messageCompletion => true
  | .byteReceived _ _ => true

end Sys2Proof
end

