-- ==== Sys2Proof/Certificates/Slice0/Obligations.lean ====
section
/-! DEFINITION. The statements about the ZT-624 that the provers prove. A request's result is given as a whole
state: the fields it names change and every other field is kept, and `State.finish` is the end of the event,
which `Obligations.EventEnds` states. -/

section

open Sys2Proof Sys2Proof.Machine

/-! ## The step, its outcomes, and the end of an event -/

/-- One step runs the command at the front of the queue on the state with the queue's rest. On an empty queue
the block idles: that clause is the model's choice (log 1). -/
def Obligations.StepTakesFront : Prop :=
  (∀ (c : Instr) (rest : List Instr) (s : State), s.pending = c :: rest →
    step s = exec c { s with pending := rest }) ∧
  ∀ s : State, s.pending = [] → step s = .next s

/-- Every command answers a next state and leaves the waiting commands alone, but for GRANT and SETTLEMENT in
the states that log 15 names. -/
def Obligations.ExecOutcomes : Prop :=
  ∀ (c : Instr) (s : State),
    (∃ t, exec c s = .next t ∧ t.pending = s.pending) ∨
    (c = .grant ∧ exec c s = .fault .danglingTag) ∨
    (c = .settlement ∧ exec c s = .fault .danglingWait)

/-- The end of an event (R171, R193): attention is true to the latched flags and the masks, a busy transmitter
goes on with its frame, and an idle one starts the oldest response, else the oldest Settlement Queue record,
else the oldest Item Record Queue record, its first frame sampling attention as it now stands. That every event
ends so, attention first and then the choice, is the model's reading (log 13). `Obligations.FramesComplete`
spells out `Message.firstFrame`. -/
def Obligations.EventEnds : Prop :=
  ∀ u : State,
    u.finish = { u with attention := u.finish.attention, trunkTx := u.finish.trunkTx } ∧
    u.finish.attentionTrue ∧
    (u.trunkTx ≠ .idle → u.finish.trunkTx = u.trunkTx) ∧
    (u.trunkTx = .idle →
      (∀ r rs, u.responses = r :: rs →
        u.finish.trunkTx = .sending .responses (if (Message.response r).lines = [] then .only else .first)
          ((Message.response r).firstFrame u.finish.attention)) ∧
      (u.responses = [] → ∀ e es, u.settlementQueue = e :: es →
        u.finish.trunkTx = .sending .settlements (if (Message.settlement e).lines = [] then .only else .first)
          ((Message.settlement e).firstFrame u.finish.attention)) ∧
      (u.responses = [] → u.settlementQueue = [] → ∀ e es, u.items = e :: es →
        u.finish.trunkTx = .sending .items .only ((Message.item e).firstFrame u.finish.attention)) ∧
      (u.responses = [] → u.settlementQueue = [] → u.items = [] → u.finish.trunkTx = .idle))

/-! ## Requests as a whole -/

/-- R163, for every request and for every payload: a refused request leaves its response and changes nothing
else. A request of unknown kind is refused with the code as received. -/
def Obligations.RefusedRequestChangesNothing : Prop :=
  (∀ (tag : Byte) (r : Request) (s : State), s.room → (answerTo r s).code ≠ .ok →
    exec (r.command tag) s = s.refuses tag r.code (answerTo r s).code (answerTo r s).detail) ∧
  (∀ (tag : Byte) (payload : List Byte) (s : State), s.room →
    (answerForm (decodeRequest payload) s).code ≠ .ok →
    s.requestArrival tag payload =
      (s.answered tag (payload.headD 0) (answerForm (decodeRequest payload) s).code
        (answerForm (decodeRequest payload) s).detail).finish) ∧
  ∀ (s : State) (tag code : Byte), s.room → codeListed code.toNat = false →
    exec (.unknownRequest tag code) s = s.refuses tag code .unknownRequest (.unknownCode code) ∧
    ∀ fields : List Byte, s.requestArrival tag (code :: fields) =
      (s.answered tag code .unknownRequest (.unknownCode code)).finish

/-- R161: a request that finds all 4 Response Queue entries held is discarded, whatever it is, and latches
REQUEST_OVERRUN, the sixth part flag; REQUEST_OVERRUN is that event. -/
def Obligations.FullResponseQueueDiscards : Prop :=
  ∀ s : State, 4 ≤ s.responses.length →
    let t := State.finish { s with partFlags := s.partFlags ||| 0x20#7 }
    (∀ (tag : Byte) (r : Request), exec (r.command tag) s = .next t) ∧
    (∀ tag code : Byte, codeListed code.toNat = false → exec (.unknownRequest tag code) s = .next t) ∧
    exec .requestOverrun s = .next t ∧
    ∀ (tag : Byte) (payload : List Byte), s.requestArrival tag payload = t

/-- A checked trunk frame of address 0 and kind Request (0x40) whose payload spells a request is that request
with the frame's tag (R160, R183, R187). -/
def Obligations.RequestFrameRunsRequest : Prop :=
  ∀ (r : Request) (f : Frame) (s : State), r.wellFormed = true →
    f.address = 0 → f.kind = 0x40#8 → f.payload = encodeRequest r →
    exec (r.command f.tag) s = .next (s.trunkFrameArrival f)

/-- Decoding a well-formed request's payload gives the request back, every field at every value that its
width on the wire admits (R185, R187). -/
def Obligations.RequestRoundTrip : Prop :=
  ∀ r : Request, r.wellFormed = true → decodeRequest (encodeRequest r) = .request r

/-- A checked lane frame of address 0 that carries a read, a stack, a cancel or a notice as R182 and R186 lay
it out is that command on its lane (R184). A frame of another address, of an unknown kind, of a length its kind
does not have, or of any other payload that R186 does not lay out, is a frame error of the lane. -/
def Obligations.LaneFrameRunsCommand : Prop :=
  (∀ (l : Lane) (a : LaneArrival) (f : Frame) (s : State), a.wellFormed = true →
    f.address = 0 → f.kind = a.kind → f.payload = a.payload →
    exec (a.command l) s = .next (s.laneFrameArrival l f)) ∧
  (∀ (l : Lane) (f : Frame) (s : State), f.address ≠ 0 →
    exec (.laneFrameError l) s = .next (s.laneFrameArrival l f)) ∧
  (∀ (l : Lane) (f : Frame) (s : State),
    (∀ a : LaneArrival, a.wellFormed = true → f.kind = a.kind → f.payload ≠ a.payload) →
    exec (.laneFrameError l) s = .next (s.laneFrameArrival l f)) ∧
  ∀ (l : Lane) (f : Frame) (s : State),
    (f.kind ≠ 0x21#8 ∧ f.kind ≠ 0x22#8 ∧ f.kind ≠ 0x23#8 ∧ f.kind ≠ 0x24#8) ∨
    (f.kind = 0x21#8 ∧ f.payload.length ≠ 7 ∧ f.payload.length ≠ 6) ∨
    (f.kind = 0x22#8 ∧ ∀ n k rest, f.payload = n :: k :: rest →
      k.toNat = 0 ∨ 16 < k.toNat ∨ rest.length ≠ 6 * k.toNat) ∨
    (f.kind = 0x23#8 ∧ f.payload.length ≠ 1) ∨ (f.kind = 0x24#8 ∧ 32 < f.payload.length) →
    exec (.laneFrameError l) s = .next (s.laneFrameArrival l f)

/-- Reception (R180, R181): a receiver that hunts skips bytes other than 0x7E, then takes a frame of at most
200 payload bytes whose check is right, reports it alone, and hunts again. -/
def Obligations.FrameReception : Prop :=
  ∀ (noise : List Byte) (f : Frame), (∀ b ∈ noise, b ≠ 0x7E#8) → f.payload.length ≤ 200 →
    f.check = crc ([f.address, f.kind, f.tag, f.flags, BitVec.ofNat 8 f.payload.length] ++ f.payload) →
    Receiver.receiveAll .hunt (noise ++ f.bytes) = ([.frame f], .hunt)

/-- BYTE_RECEIVED (R181). In HUNT, 0x7E starts a candidate frame and any other byte changes nothing; the byte
that completes a right frame delivers it, and the byte that completes a wrong one is a frame error; in both
cases the receiver hunts again. A frame fails by its length byte, above 200, or by its check. After a failed
frame that may hold a further 0x7E the bytes that followed its sync byte are taken up again, as if they arrived
one by one after the frame error, in HUNT. -/
def Obligations.ByteReceived : Prop :=
  ∀ s : State,
    (∀ (l : Lane) (b : Byte), s.lanes[l].rx = .hunt → b ≠ 0x7E#8 →
      exec (.byteReceived (.lane l) b) s = .next s) ∧
    (∀ b : Byte, s.trunkRx = .hunt → b ≠ 0x7E#8 → exec (.byteReceived .trunk b) s = .next s) ∧
    (∀ l : Lane, s.lanes[l].rx = .hunt →
      exec (.byteReceived (.lane l) 0x7E#8) s =
        .next { s with lanes := upd s.lanes l (fun p => { p with rx := .header [] }) }) ∧
    (s.trunkRx = .hunt →
      exec (.byteReceived .trunk 0x7E#8) s = .next { s with trunkRx := .header [] }) ∧
    (∀ (l : Lane) (f : Frame) (b : Byte), s.lanes[l].rx.bytes ++ [b] = f.bytes → f.payload.length ≤ 200 →
      let u := { s with lanes := upd s.lanes l (fun p => { p with rx := .hunt }) }
      (f.properCheck = f.check → exec (.byteReceived (.lane l) b) s = .next (u.laneFrameArrival l f)) ∧
      (f.properCheck ≠ f.check → (∀ x ∈ f.bytes.drop 1, x ≠ 0x7E#8) →
        exec (.byteReceived (.lane l) b) s = exec (.laneFrameError l) u)) ∧
    (∀ (f : Frame) (b : Byte), s.trunkRx.bytes ++ [b] = f.bytes → f.payload.length ≤ 200 →
      let u := { s with trunkRx := .hunt }
      (f.properCheck = f.check → exec (.byteReceived .trunk b) s = .next (u.trunkFrameArrival f)) ∧
      (f.properCheck ≠ f.check → (∀ x ∈ f.bytes.drop 1, x ≠ 0x7E#8) →
        exec (.byteReceived .trunk b) s = exec .trunkFrameError u)) ∧
    ∀ (held : List Byte) (b : Byte),
      (∃ address kind tag flags, held ++ [b] = [address, kind, tag, flags, b] ∧ 200 < b.toNat) ∨
      (∃ f : Frame, 0x7E#8 :: (held ++ [b]) = f.bytes ∧ f.payload.length ≤ 200 ∧ f.properCheck ≠ f.check) →
      (∀ l : Lane, s.lanes[l].rx.bytes = 0x7E#8 :: held →
        exec (.byteReceived (.lane l) b) s =
          execAll (.laneFrameError l :: (held ++ [b]).map (.byteReceived (.lane l)))
            { s with lanes := upd s.lanes l (fun p => { p with rx := .hunt }) }) ∧
      (s.trunkRx.bytes = 0x7E#8 :: held →
        exec (.byteReceived .trunk b) s =
          execAll (.trunkFrameError :: (held ++ [b]).map (.byteReceived .trunk)) { s with trunkRx := .hunt })

/-! ## Invariants that every step keeps -/

/-- No collection passes its capacity (00, Capacities): from every state within the capacities of the queues,
the tables, the segments and their lines, a step stays within. The settle-wait list, which holds the visits in
SETTLING (R145), has at most 24 after every step, and the Stack Contexts, with the positions that carry their
bound, at most 16 items each (R38, R42). -/
def Obligations.CapacitiesKept : Prop :=
  (∀ s t : State, s.WithinCapacity → step s = .next t → t.WithinCapacity) ∧
  (∀ s t : State, s.SettleWaitExact → step s = .next t → t.settleWait.length ≤ 24) ∧
  ∀ s t : State, (∀ l : Lane, s.lanes[l].StacksNumbered) → step s = .next t →
    (∀ l : Lane, t.lanes[l].StacksNumbered) ∧
    ∀ (l : Lane) (c : StackContext), t.lanes[l].context = some c → 1 ≤ c.items.length ∧ c.items.length ≤ 16

/-- Attention is set while at least one latched flag, part or lane, is unmasked, and clear otherwise (R171). The
trunk transmitter is idle only while its three queues are empty, and holds a frame of the oldest message of its
queue while it is sending (R189, R193). -/
def Obligations.AttentionKept : Prop :=
  (∀ s t : State, s.attentionTrue → step s = .next t → t.attentionTrue) ∧
  ∀ s t : State, s.TransmitterSound → step s = .next t → t.TransmitterSound

/-- An account slot's use count equals the number of segments that name it (R130). -/
def Obligations.UseCountsKept : Prop :=
  ∀ s t : State, s.UseCountsExact → step s = .next t → t.UseCountsExact

/-- At most one tariff slot is ACTIVE, and each pin count is the number of visits that pin the slot, whose
generation stays in the slot while the pin is held (R111, R114, R123). -/
def Obligations.TariffsKept : Prop :=
  ∀ s t : State, s.TariffsSound → step s = .next t → t.TariffsSound

/-- A lane belongs to the lane set of at most one visit, only an OPEN visit has lanes, and hold follows the
free entries of an enabled lane and is asserted on a DISABLED one (R7, R31, R35). -/
def Obligations.BindingsKept : Prop :=
  ∀ s t : State, s.BindingsSound → (∀ l : Lane, s.lanes[l].holdSound) → step s = .next t →
    t.BindingsSound ∧ ∀ l : Lane, t.lanes[l].holdSound

/-- The settle-wait list holds exactly the visits in SETTLING, none twice (R145). -/
def Obligations.SettleWaitKept : Prop :=
  ∀ s t : State, s.SettleWaitExact → step s = .next t → t.SettleWaitExact

/-- Floats, balances, accumulators, tallies, counters, levels, timers and tariff values stay in their ranges, a
FREE record holds the values of R1, and no visit stands due between steps (1.1, R1, R5, R14, R18, R51, R89, R112,
R113, R135, R140). A visit number names one record and an account number one slot (R1, R128). Pin counts, use
counts and tagged counts, which the other invariants make exact, stand in theirs (00, Counts; 1.1). -/
def Obligations.RangesKept : Prop :=
  (∀ s t : State, s.InRange → step s = .next t → t.InRange) ∧
  (∀ s t : State, s.InRange → s.NamesUnique → step s = .next t → t.NamesUnique) ∧
  (∀ s : State, s.TariffsSound → ∀ i : TariffIndex, s.tariffs[i].pins ≤ 24) ∧
  (∀ s : State, s.UseCountsExact → s.WithinCapacity → ∀ a : AccountSlot, s.accounts[a].useCount ≤ 192) ∧
  ∀ s : State, s.TagsSound → s.WithinCapacity → s.InRange → (∀ l : Lane, s.lanes[l].StacksNumbered) →
    ∀ v : VisitSlot, s.visits[v].tagged ≤ 384

/-- A visit's tagged count equals the number of Read Queue entries and Stack Context items, over all lanes,
that carry its tag (R6), with the stack order that R38 and R42 give. -/
def Obligations.TaggedCountsKept : Prop :=
  ∀ s t : State, s.TagsSound → step s = .next t → t.TagsSound

/-- Where tags, tariffs and the settle-wait list are sound, no command stops: the two faults of the model
answer only states that the rules exclude (R46, R145; log 15). -/
def Obligations.SoundStatesNeverStop : Prop :=
  ∀ (c : Instr) (s : State), s.TagsSound → s.TariffsSound → s.SettleWaitExact → ∃ t, exec c s = .next t

/-- The state after power-on reset meets every one of these invariants. -/
def Obligations.ResetMeetsInvariants : Prop :=
  State.reset.WithinCapacity ∧ State.reset.attentionTrue ∧ State.reset.UseCountsExact ∧
  State.reset.TariffsSound ∧ State.reset.BindingsSound ∧ (∀ l : Lane, State.reset.lanes[l].holdSound) ∧
  State.reset.SettleWaitExact ∧ State.reset.InRange ∧ State.reset.TagsSound ∧ State.reset.NamesUnique ∧
  State.reset.TransmitterSound ∧ ∀ l : Lane, State.reset.lanes[l].StacksNumbered

/-- What power-on reset leaves, in any state and in `State.reset` (R1, R29, R55, R99, R110, R127, R128, R144,
R159, R178, R181, R193). The commands waiting stay: the model's choice (log 22). -/
def Obligations.PowerOnReset : Prop :=
  ∀ s : State, ∃ t, exec .powerOnReset s = .next t ∧ t.pending = s.pending ∧
    ∀ u : State, u = t ∨ u = State.reset →
      (∀ v : VisitSlot, u.visits[v] =
        { number := 0, state := .free, cause := .notClosed, pin := none, laneSet := 0, openLimit := 0
          elapsed := 0, grace := 0, tagged := 0, segments := [] }) ∧
      (∀ l : Lane, u.lanes[l] =
        { state := .disabled, kind := .crate, level := 0, reporting := false, queue := [], context := none
          txQueue := [], hold := true, accepted := 0, frameErrors := 0, overruns := 0, orphans := 0
          abandoned := 0, downLosses := 0, flags := 0, passCount := 0, rx := .hunt }) ∧
      u.lastGranted = 5 ∧ u.types = [] ∧ (∀ i : TariffIndex, u.tariffs[i] = .empty) ∧
      (∀ a : AccountSlot, u.accounts[a] =
        { number := 0, cls := .a, frozen := false, floats := Vector.replicate 8 0, held := 0
          paidToday := 0, ceiling := 0, useCount := 0 }) ∧
      u.settleWait = [] ∧ u.settlementQueue = [] ∧ u.responses = [] ∧ u.items = [] ∧ u.lossCount = 0 ∧
      u.trunkRx = .hunt ∧ u.trunkTx = .idle ∧ u.partFlags = 0 ∧ u.partMasks = 0 ∧
      (∀ l : Lane, u.laneMasks[l] = 0) ∧ u.attention = false ∧ u.graceSeconds = 10 ∧ u.agingLimit = 8 ∧
      u.visitCounter = 1

/-! ## Visits -/

/-- R2, for each request that names a visit by number and whose other fields are in range: a number of 0 is
MALFORMED, and a number that no record outside FREE holds is NO_ENTRY. A number above 65,535, which two bytes
cannot carry, is MALFORMED too: the model's choice, with R164 (log 7).
Next Segment's NO_ENTRY names the visit as the missing entry (R13); the others carry nothing (log 8). -/
def Obligations.VisitLookup : Prop :=
  ∀ (s : State) (tag lanes : Byte) (n account segment : Nat), s.room → lanes.toNat < 64 →
    1 ≤ account → account ≤ 16777215 →
    (n = 0 ∨ 65535 < n →
      exec (.bindLanes tag n lanes) s = s.refuses tag 0x02 .malformed .empty ∧
      exec (.releaseLanes tag n lanes) s = s.refuses tag 0x03 .malformed .empty ∧
      exec (.nextSegment tag n account) s = s.refuses tag 0x04 .malformed .empty ∧
      exec (.closeVisit tag n) s = s.refuses tag 0x05 .malformed .empty ∧
      exec (.cancelVisit tag n) s = s.refuses tag 0x06 .malformed .empty ∧
      exec (.readVisit tag (.number n) segment) s = s.refuses tag 0x07 .malformed .empty) ∧
    (1 ≤ n → n ≤ 65535 → (∀ v : VisitSlot, s.visits[v].state = .free ∨ s.visits[v].number ≠ n) →
      exec (.bindLanes tag n lanes) s = s.refuses tag 0x02 .noEntry .empty ∧
      exec (.releaseLanes tag n lanes) s = s.refuses tag 0x03 .noEntry .empty ∧
      exec (.nextSegment tag n account) s = s.refuses tag 0x04 .noEntry (.missing .visit) ∧
      exec (.closeVisit tag n) s = s.refuses tag 0x05 .noEntry .empty ∧
      exec (.cancelVisit tag n) s = s.refuses tag 0x06 .noEntry .empty ∧
      exec (.readVisit tag (.number n) segment) s = s.refuses tag 0x07 .noEntry .empty)

/-- R8: the checks of Open Visit, in order, the first failing one giving the response. -/
def Obligations.OpenVisitExamined : Prop :=
  ∀ (s : State) (tag lanes : Byte) (account minutes : Nat), s.room →
    let x := exec (.openVisit tag account lanes minutes) s
    let no := s.refuses tag 0x01
    (account = 0 ∨ 16777215 < account ∨ 64 ≤ lanes.toNat ∨ minutes = 0 → x = no .malformed .empty) ∧
    (1 ≤ account → account ≤ 16777215 → lanes.toNat < 64 → 1 ≤ minutes →
      (s.NoneActive → x = no .noTariff .empty) ∧
      (¬ s.NoneActive → (∀ v : VisitSlot, s.visits[v].state ≠ .free) → x = no .visitsFull .empty) ∧
      (¬ s.NoneActive → (∃ v : VisitSlot, s.visits[v].state = .free) →
        (∀ a : AccountSlot, s.accounts[a].number ≠ account) → x = no .noEntry (.missing .account)) ∧
      (¬ s.NoneActive → (∃ v : VisitSlot, s.visits[v].state = .free) →
        (∃ a : AccountSlot, s.accounts[a].number = account) →
        (∀ l : Lane, lowest (fun m => names lanes m ∧ s.lanes[m].state = .disabled) l →
          x = no .laneDisabled (.lane l)) ∧
        ((∀ m : Lane, names lanes m → s.lanes[m].state ≠ .disabled) →
          ∀ (l : Lane) (u : VisitTag), lowest (fun m => names lanes m ∧ s.lanes[m].Bound) l →
            s.lanes[l].state = .bound u → s.visits[u.slot].state ≠ .free → x = no .laneHeld (.lane l))))

/-- R4, R7, R9: a successful Open Visit, from an ACTIVE slot, the lowest FREE record, the account's slot and
named lanes that are all IDLE. An open limit above 240 minutes is taken as 240 (R8). -/
def Obligations.OpenVisitOpens : Prop :=
  ∀ (s : State) (tag lanes : Byte) (account minutes : Nat) (t : TariffIndex) (g : Generation) (pins : Nat)
    (v : VisitSlot) (a : AccountSlot), s.room → lanes.toNat < 64 → 1 ≤ minutes →
    s.tariffs[t] = .active g pins → s.OneActive t → lowest (fun w => s.visits[w].state = .free) v →
    s.AccountAt a account → (∀ l : Lane, names lanes l → s.lanes[l].state = .idle) →
    exec (.openVisit tag account lanes minutes) s = .next (State.finish { s with
      tariffs := upd s.tariffs t (fun _ => .active g (pins + 1))
      visitCounter := if s.nextNumber = 65535 then 1 else s.nextNumber + 1
      visits := upd s.visits v (fun _ =>
        { number := s.nextNumber, state := .opened, cause := .notClosed
          pin := some ⟨t, g.header.generation⟩, laneSet := lanes.setWidth 6
          openLimit := 60 * min minutes 240, elapsed := 0, grace := 0, tagged := 0
          segments :=
            [{ accountSlot := a, accountNumber := account, cls := s.accounts[a].cls, lines := []
               overflow := ⟨0, 0, 0, 0, 0⟩, unlisted := 0, diverted := 0, excess := 0, gross := 0
               excessCredit := 0, floatTaken := Vector.replicate 8 0, sticky := 0 }] })
      accounts := upd s.accounts a (fun r => { r with useCount := r.useCount + 1 })
      lanes := Vector.ofFn (fun l =>
        if lanes.getLsbD l.val then { s.lanes[l] with state := .bound ⟨v, s.nextNumber⟩ } else s.lanes[l])
      responses := s.responses ++ [⟨tag, 0x01, .ok,
        .visitOpened s.nextNumber v g.header.generation (min minutes 240) (lanes.setWidth 6)⟩] })

/-- R3: the number Open Visit assigns is the first, from the counter upward and wrapping from 65,535 to 1, that
no record outside FREE holds, found within 24 candidates. -/
def Obligations.VisitNumberAssigned : Prop :=
  ∀ s : State, 1 ≤ s.visitCounter → s.visitCounter ≤ 65535 → (∃ v : VisitSlot, s.visits[v].state = .free) →
    ∃ k, k < 24 ∧ s.nextNumber = (s.visitCounter - 1 + k) % 65535 + 1 ∧
      (∀ v : VisitSlot, s.visits[v].state ≠ .free → s.visits[v].number ≠ s.nextNumber) ∧
      ∀ j, j < k → ∃ v : VisitSlot, s.visits[v].state ≠ .free ∧
        s.visits[v].number = (s.visitCounter - 1 + j) % 65535 + 1

/-- R7, R11, R12: Bind Lanes and Release Lanes. A lane above 5 is MALFORMED; a visit outside OPEN refuses both
with its state; a claim fails for the lowest DISABLED lane, and with none DISABLED for the lowest lane BOUND to
another visit; else every named lane is BOUND to the visit. Release Lanes frees those lanes of the set that
are the visit's, and no other. -/
def Obligations.BindAndReleaseLanes : Prop :=
  ∀ (s : State) (tag lanes : Byte) (n : Nat), s.room →
    (64 ≤ lanes.toNat →
      exec (.bindLanes tag n lanes) s = s.refuses tag 0x02 .malformed .empty ∧
      exec (.releaseLanes tag n lanes) s = s.refuses tag 0x03 .malformed .empty) ∧
    (lanes.toNat < 64 → ∀ v : VisitSlot, s.Named v n →
      (s.visits[v].state ≠ .opened →
        exec (.bindLanes tag n lanes) s = s.refuses tag 0x02 .wrongState (.visitState s.visits[v].state) ∧
        exec (.releaseLanes tag n lanes) s =
          s.refuses tag 0x03 .wrongState (.visitState s.visits[v].state)) ∧
      (s.visits[v].state = .opened →
        (∀ l : Lane, lowest (fun m => names lanes m ∧ s.lanes[m].state = .disabled) l →
          exec (.bindLanes tag n lanes) s = s.refuses tag 0x02 .laneDisabled (.lane l)) ∧
        ((∀ m : Lane, names lanes m → s.lanes[m].state ≠ .disabled) →
          ∀ l : Lane,
            lowest (fun m => names lanes m ∧ s.lanes[m].Bound ∧ s.lanes[m].state ≠ .bound ⟨v, n⟩) l →
            exec (.bindLanes tag n lanes) s = s.refuses tag 0x02 .laneHeld (.lane l)) ∧
        ((∀ l : Lane, names lanes l → s.lanes[l].state = .idle ∨ s.lanes[l].state = .bound ⟨v, n⟩) →
          exec (.bindLanes tag n lanes) s = .next (State.finish { s with
            lanes := Vector.ofFn (fun l =>
              if lanes.getLsbD l.val then { s.lanes[l] with state := .bound ⟨v, n⟩ } else s.lanes[l])
            visits := upd s.visits v (fun r => { r with laneSet := r.laneSet ||| lanes.setWidth 6 })
            responses := s.responses ++
              [⟨tag, 0x02, .ok, .laneSet (s.visits[v].laneSet ||| lanes.setWidth 6)⟩] })) ∧
        exec (.releaseLanes tag n lanes) s = .next (State.finish { s with
          lanes := Vector.ofFn (fun l =>
            if lanes.getLsbD l.val && s.visits[v].laneSet.getLsbD l.val then s.lanes[l].unbound
            else s.lanes[l])
          visits := upd s.visits v (fun r => { r with laneSet := r.laneSet &&& ~~~(lanes.setWidth 6) })
          responses := s.responses ++
            [⟨tag, 0x03, .ok, .laneSet (s.visits[v].laneSet &&& ~~~(lanes.setWidth 6))⟩] })))

/-- R4, R13: Next Segment, its checks in order, and the segment it appends with the account's class as its
snapshot. -/
def Obligations.NextSegmentAppends : Prop :=
  ∀ (s : State) (tag : Byte) (n account : Nat) (v : VisitSlot), s.room →
    let x := exec (.nextSegment tag n account) s
    (account = 0 ∨ 16777215 < account → x = s.refuses tag 0x04 .malformed .empty) ∧
    (1 ≤ account → account ≤ 16777215 → s.Named v n →
      (s.visits[v].state ≠ .opened → x = s.refuses tag 0x04 .wrongState (.visitState s.visits[v].state)) ∧
      (s.visits[v].state = .opened → 8 ≤ s.visits[v].segments.length →
        x = s.refuses tag 0x04 .segmentsFull .empty) ∧
      (s.visits[v].state = .opened → s.visits[v].segments.length < 8 →
        (∀ a : AccountSlot, s.accounts[a].number ≠ account) →
        x = s.refuses tag 0x04 .noEntry (.missing .account)) ∧
      (s.visits[v].state = .opened → s.visits[v].segments.length < 8 →
        ∀ a : AccountSlot, s.AccountAt a account →
        x = .next (State.finish { s with
          visits := upd s.visits v (fun r => { r with
            segments := r.segments ++
              [{ accountSlot := a, accountNumber := account, cls := s.accounts[a].cls, lines := []
                 overflow := ⟨0, 0, 0, 0, 0⟩, unlisted := 0, diverted := 0, excess := 0, gross := 0
                 excessCredit := 0, floatTaken := Vector.replicate 8 0, sticky := 0 }] })
          accounts := upd s.accounts a (fun r => { r with useCount := r.useCount + 1 })
          responses := s.responses ++ [⟨tag, 0x04, .ok,
            .segmentAdded s.visits[v].segments.length (s.visits[v].segments.length + 1)⟩] })))

/-- R15, R17, R22: Close Visit. In OPEN the visit gives up its lanes, takes the cause REQUESTED and loads its
grace; with nothing tagged it is SETTLING at once, at the tail of the settle-wait list. In CLOSING and SETTLING
it is refused with the state. -/
def Obligations.CloseVisitCloses : Prop :=
  ∀ (s : State) (tag : Byte) (n : Nat) (v : VisitSlot), s.room → s.Named v n →
    (s.visits[v].state ≠ .opened →
      exec (.closeVisit tag n) s = s.refuses tag 0x05 .wrongState (.visitState s.visits[v].state)) ∧
    (s.visits[v].state = .opened →
      exec (.closeVisit tag n) s = .next (State.finish { s with
        lanes := s.lanesWithout s.visits[v].laneSet
        visits := upd s.visits v (fun r => r.left .requested s.graceSeconds)
        settleWait := s.waitAfter v s.visits[v].tagged
        responses := s.responses ++ [⟨tag, 0x05, .ok,
          .visitClosed (if s.visits[v].tagged = 0 then .settling else .closing) s.visits[v].tagged
            s.graceSeconds⟩] }))

/-- R20, R23 to R26: Cancel Visit. A SETTLING visit refuses it with TOO_LATE. In OPEN and CLOSING the record is
freed with its use counts and its pin, its lanes pass to IDLE, its tagged items leave every lane with CANCELLED
records, and its float taken goes back; no other visit changes, and no counter or flag of a lane. -/
def Obligations.CancelVisitVoids : Prop :=
  ∀ (s : State) (tag : Byte) (n : Nat) (v : VisitSlot), s.room → s.Named v n →
    (s.visits[v].state = .settling → exec (.cancelVisit tag n) s = s.refuses tag 0x06 .tooLate .empty) ∧
    (s.visits[v].state = .opened ∨ s.visits[v].state = .closing → ∃ t summary,
      exec (.cancelVisit tag n) s = .next t ∧
      t = { s with
        visits := upd s.visits v (fun _ => Visit.free)
        lanes := t.lanes, accounts := t.accounts, items := t.items, lossCount := t.lossCount
        partFlags := t.partFlags, attention := t.attention, trunkTx := t.trunkTx
        tariffs := match s.visits[v].pin with
          | some p => upd s.tariffs p.slot (fun x => x.released 1)
          | none => s.tariffs
        responses := s.responses ++ [⟨tag, 0x06, .ok,
          .visitCancelled n s.visits[v].state (s.taggedItems ⟨v, n⟩) summary⟩] } ∧
      (∀ l : Lane, t.lanes[l] = { s.lanes[l] with
        state := if inSet s.visits[v].laneSet l then .idle else s.lanes[l].state
        queue := s.lanes[l].queue.filter (fun e => e.tag != some ⟨v, n⟩)
        context := s.lanes[l].context.filter (fun c => c.tag != ⟨v, n⟩)
        hold :=
          LanePort.holdFor (if inSet s.visits[v].laneSet l then s.lanes[l].unbound else s.lanes[l])
            (s.lanes[l].queue.filter (fun e => e.tag != some ⟨v, n⟩)).length
        passCount :=
          if (s.lanes[l].queue.filter (fun e => e.tag != some ⟨v, n⟩)).isEmpty then 0
          else s.lanes[l].passCount }) ∧
      (∀ a : AccountSlot, t.accounts[a] = { s.accounts[a] with
        floats := t.accounts[a].floats
        useCount := s.accounts[a].useCount - s.visits[v].uses a }) ∧
      (∀ (a : AccountSlot) (f : Family),
        t.accounts[a].floats[f] = givenBack s.accounts[a].floats[f] (takenOf a f s.visits[v].segments)) ∧
      s.Recorded t (s.reported .cancelled (Choice.ofVisit ⟨v, n⟩)) ∧
      (t.partFlag .floatClamp = true ↔ s.partFlag .floatClamp = true ∨
        ∃ (a : AccountSlot) (f : Family), takenOf a f s.visits[v].segments ≠ [] ∧
          65535 < s.accounts[a].floats[f] + (takenOf a f s.visits[v].segments).sum) ∧
      (t.partFlag .tariffRetired = true ↔ s.partFlag .tariffRetired = true ∨
        ∃ p g m, s.visits[v].pin = some p ∧ s.tariffs[p.slot] = .retiring g m ∧ m ≤ 1) ∧
      (∀ f : PartFlag, f ≠ .itemLoss → f ≠ .floatClamp → f ≠ .tariffRetired → t.partFlag f = s.partFlag f) ∧
      summary.map (fun e => (e.account, e.committed, e.unlisted, e.diverted, e.excess)) =
        s.visits[v].segments.map (fun g => (g.accountNumber, g.committed, g.unlisted, g.diverted, g.excess)) ∧
      ((∀ (a : AccountSlot) (f : Family),
          s.accounts[a].floats[f] + (takenOf a f s.visits[v].segments).sum ≤ 65535) →
        summary.map (fun e => e.returned) =
          s.visits[v].segments.map (fun g => (allFamilies.map (fun f => g.floatTaken[f])).sum)))

/-- The requests that only report (R28, R54, R105, R106, R118, R134): each changes nothing but the Response
Queue, and its response carries the fields of the record, lane, type, slot or account as it stands. The order of
the pending stacks and the effective level of a lane that is not waiting are the model's choice (log 18), and so
is MALFORMED for a tag code above 65,535, with R164 (log 7). -/
def Obligations.ReadRequestsReport : Prop :=
  ∀ (s : State) (tag : Byte), s.room →
    let ok := fun (code : Byte) (d : Detail) =>
      (Host.Outcome.next (s.answered tag code .ok d).finish : Host.Outcome State Fault Refusal)
    (∀ (v : VisitSlot) (key : VisitKey) (k : Nat),
      (key = .slot v.val ∨ ∃ n, key = .number n ∧ s.Named v n) →
      let r := s.visits[v]
      let header : VisitReport :=
        { number := r.number, slot := v, state := r.state, cause := r.cause, pin := r.pin
          laneSet := r.laneSet, minutes := r.openLimit / 60, elapsed := r.elapsed, grace := r.grace
          tagged := r.tagged, segments := r.segments.length }
      (r.state = .free → exec (.readVisit tag key k) s = ok 0x07 .visitFree) ∧
      (r.state ≠ .free → r.segments.length ≤ k →
        exec (.readVisit tag key k) s = ok 0x07 (.visitHeader header)) ∧
      (r.state ≠ .free → ∀ h : k < r.segments.length,
        exec (.readVisit tag key k) s = ok 0x07 (.visitSegment header r.segments[k]))) ∧
    (∀ n k, 23 < n → exec (.readVisit tag (.slot n) k) s = s.refuses tag 0x07 .malformed .empty) ∧
    (∀ (l : Lane), ∃ r : LaneReport, exec (.readLane tag l.val) s = ok 0x12 (.laneReport r) ∧
      r.state = s.lanes[l].state ∧ r.kind = s.lanes[l].kind ∧ r.level = s.lanes[l].level ∧
      r.reporting = s.lanes[l].reporting ∧ r.queued = s.lanes[l].queue.length ∧ r.hold = s.lanes[l].hold ∧
      r.pendingStacks = ((s.lanes[l].context.map (fun c => c.stack)).toList ++
        s.lanes[l].queue.filterMap (fun e => e.member.map (fun m => m.stack))).eraseDups ∧
      (s.lanes[l].context = none → r.staged = 0 ∧ r.context = none) ∧
      (∀ c, s.lanes[l].context = some c →
        r.staged = c.items.length ∧ r.context = some (c.stack, c.tag.number, c.segment)) ∧
      r.transmitting = s.lanes[l].txQueue.length ∧ r.passCount = s.lanes[l].passCount ∧
      r.effectiveLevel =
        (if s.lanes[l].queue ≠ [] ∧ 1 ≤ s.agingLimit ∧ s.agingLimit ≤ 15 ∧
            s.agingLimit ≤ s.lanes[l].passCount then 4 else s.lanes[l].level) ∧
      r.accepted = s.lanes[l].accepted ∧ r.frameErrors = s.lanes[l].frameErrors ∧
      r.overruns = s.lanes[l].overruns ∧ r.orphans = s.lanes[l].orphans ∧
      r.abandoned = s.lanes[l].abandoned ∧ r.downLosses = s.lanes[l].downLosses ∧
      r.flags = s.lanes[l].flags) ∧
    (∀ n, 5 < n → exec (.readLane tag n) s = s.refuses tag 0x12 .malformed .empty) ∧
    (∀ c, c = 0 ∨ 65535 < c → exec (.readTypeByTagCode tag c) s = s.refuses tag 0x1A .malformed .empty) ∧
    (ascending s.types → ∀ c, 1 ≤ c → c ≤ 65535 →
      (∀ (i : Nat) (e : TypeEntry), s.types[i]? = some e → e.tagCode = c →
        exec (.readTypeByTagCode tag c) s = ok 0x1A (.typeReport i s.types.length e)) ∧
      ((∀ e ∈ s.types, e.tagCode ≠ c) → ∀ i, i ≤ s.types.length →
        (∀ j, (h : j < s.types.length) → (j < i ↔ s.types[j].tagCode < c)) →
        exec (.readTypeByTagCode tag c) s = s.refuses tag 0x1A .noEntry (.typeAbsent s.types.length i))) ∧
    (∀ i, (63 < i → exec (.readTypeByIndex tag i) s = s.refuses tag 0x1A .malformed .empty) ∧
      (i ≤ 63 → s.types.length ≤ i →
        exec (.readTypeByIndex tag i) s = s.refuses tag 0x1A .noEntry (.typeCount s.types.length)) ∧
      (i ≤ 63 → ∀ h : i < s.types.length,
        exec (.readTypeByIndex tag i) s = ok 0x1A (.typeReport i s.types.length s.types[i]))) ∧
    (∀ n p, 1 < n ∨ (15 < p ∧ p ≠ 255) →
      exec (.readTariff tag n p) s = s.refuses tag 0x22 .malformed .empty) ∧
    (∀ (t : TariffIndex) (p : Nat), p ≤ 15 ∨ p = 255 → s.tariffs[t] = .empty →
      exec (.readTariff tag t.val p) s = ok 0x22 (.tariffEmpty t)) ∧
    (∀ (t : TariffIndex) (g : Generation), s.tariffs[t].contents = some g →
      (∀ k : Fin 16, exec (.readTariff tag t.val k.val) s =
        ok 0x22 (.tariffSchedule t s.tariffs[t].state s.tariffs[t].pins g.schedules[k])) ∧
      ∃ defined : Word16, exec (.readTariff tag t.val 255) s =
        ok 0x22 (.tariffHeader t s.tariffs[t].state s.tariffs[t].pins g.header defined g.checkValue) ∧
        ∀ k : Fin 16, defined.getLsbD k.val = g.schedules[k].defined) ∧
    (∀ (a : AccountSlot) (key : AccountKey), (key = .slot a.val ∨ ∃ n, key = .number n ∧ s.AccountAt a n) →
      exec (.readAccount tag key) s = ok 0x2A (.accountReport
        { slot := a, number := s.accounts[a].number, cls := s.accounts[a].cls
          frozen := s.accounts[a].frozen, floats := s.accounts[a].floats, held := s.accounts[a].held
          paidToday := s.accounts[a].paidToday, ceiling := s.accounts[a].ceiling
          room := if s.accounts[a].ceiling ≤ s.accounts[a].paidToday then 0
            else s.accounts[a].ceiling - s.accounts[a].paidToday
          useCount := s.accounts[a].useCount })) ∧
    (∀ n, 255 < n → exec (.readAccount tag (.slot n)) s = s.refuses tag 0x2A .malformed .empty) ∧
    (∀ n, n = 0 ∨ 16777215 < n →
      exec (.readAccount tag (.number n)) s = s.refuses tag 0x2A .malformed .empty) ∧
    (∀ n, 1 ≤ n → n ≤ 16777215 → (∀ a : AccountSlot, s.accounts[a].number ≠ n) →
      exec (.readAccount tag (.number n)) s = s.refuses tag 0x2A .noEntry (.missing .account))

/-! ## Lanes -/

/-- R32, R33: Configure Lane, its checks in order, and what it does to the lane. A lane code, enabled, kind,
level or reporting field that names none is MALFORMED (R32; for enabled and reporting R164, log 6). -/
def Obligations.ConfigureLaneSets : Prop :=
  ∀ (s : State) (tag : Byte) (lane enabled kind level reporting : Nat), s.room →
    let x := exec (.configureLane tag lane enabled kind level reporting) s
    (5 < lane ∨ 1 < enabled ∨ 1 < kind ∨ 3 < level ∨ 1 < reporting →
      x = s.refuses tag 0x10 .malformed .empty) ∧
    (enabled ≤ 1 → level ≤ 3 → reporting ≤ 1 → ∀ (l : Lane) (k : ReadKind), l.val = lane →
      kind = (match k with | .crate => 0 | .keg => 1) →
      let p := s.lanes[l]
      let busy := Detail.laneBusy p.state p.queue.length p.staged.length
      let report := decide (reporting = 1)
      let gives := fun (q : LanePort) => x = .next (State.finish { s with
        lanes := upd s.lanes l (fun _ => q)
        responses := s.responses ++ [⟨tag, 0x10, .ok, .laneConfigured q.state k level report⟩] })
      (k ≠ p.kind → p.state ≠ .disabled → x = s.refuses tag 0x10 .wrongState busy) ∧
      (k = p.kind ∨ p.state = .disabled →
        (enabled = 0 → p.Bound → x = s.refuses tag 0x10 .inUse busy) ∧
        (enabled = 0 → ¬ p.Bound → p.queue ≠ [] ∨ p.staged ≠ [] →
          x = s.refuses tag 0x10 .wrongState busy) ∧
        (enabled = 1 → p.state = .disabled → p.queue = [] →
          gives { p with state := .idle, kind := k, level := level, reporting := report, hold := false }) ∧
        (enabled = 1 → p.state ≠ .disabled →
          gives { p with kind := k, level := level, reporting := report }) ∧
        (enabled = 0 → p.state = .disabled → p.queue = [] → p.staged = [] →
          gives { p with kind := k, level := level, reporting := report }) ∧
        (enabled = 0 → p.state = .idle → p.queue = [] → p.staged = [] →
          gives { p with
            state := .disabled, kind := k, level := level, reporting := report, hold := true, passCount := 0
            txQueue := p.txQueue.take 1
            downLosses := min 65535 (p.downLosses + (p.txQueue.length - 1))
            flags := if 1 < p.txQueue.length then p.flags ||| 0x200#10 else p.flags })))

/-- R6, R19, R53: Lane Reset empties one lane, clears its counters and flags, keeps its state, binding and
configuration, and lowers each visit's tagged count by that visit's items on it; the CLOSING visits whose last
items these were enter SETTLING, in an order the rules do not give (log 5). No item record is produced. -/
def Obligations.LaneResetEmpties : Prop :=
  ∀ (s : State) (tag : Byte) (lane : Nat), s.room →
    (5 < lane → exec (.laneReset tag lane) s = s.refuses tag 0x11 .malformed .empty) ∧
    ∀ l : Lane, l.val = lane → ∃ t,
      exec (.laneReset tag lane) s = .next t ∧
      t = { s with
        lanes := upd s.lanes l (fun p => { p with
          queue := [], context := none, txQueue := p.txQueue.take 1, hold := decide (p.state = .disabled)
          accepted := 0, frameErrors := 0, overruns := 0, orphans := 0, abandoned := 0, downLosses := 0
          flags := 0, passCount := 0 })
        visits := t.visits, settleWait := t.settleWait, freeIndex := t.freeIndex
        attention := t.attention, trunkTx := t.trunkTx
        responses := s.responses ++ [⟨tag, 0x11, .ok,
          .itemsRemoved (s.lanes[l].queue.length + s.lanes[l].staged.length)⟩] } ∧
      (∀ v : VisitSlot,
        let gone := s.lanes[l].chosenCount (Choice.ofVisit (s.visitTag v))
        let left := s.visits[v].tagged - gone
        (s.visits[v].state = .free → t.visits[v] = s.visits[v]) ∧
        (s.visits[v].state ≠ .free → ¬ (s.visits[v].state = .closing ∧ 0 < gone ∧ left = 0) →
          t.visits[v] = { s.visits[v] with tagged := left }) ∧
        (s.visits[v].state = .closing → 0 < gone → left = 0 →
          t.visits[v] = { s.visits[v] with tagged := 0, state := .settling, grace := 0 })) ∧
      ∃ order : List VisitSlot, t.settleWait = s.settleWait ++ order.map s.visitTag ∧ order.Nodup ∧
        ∀ v, v ∈ order ↔ s.visits[v].state = .closing ∧
          0 < s.lanes[l].chosenCount (Choice.ofVisit (s.visitTag v)) ∧
          s.visits[v].tagged ≤ s.lanes[l].chosenCount (Choice.ofVisit (s.visitTag v))

/-! ## Container types -/

/-- R102, R103, R104 with the checks of R101: Write Type replaces the entry of its tag code, which keeps its
index, or inserts one at the index that keeps the table ascending; Delete Type removes the entry and reports
the index it held. The tag code is one that two bytes carry. -/
def Obligations.TypeEdits : Prop :=
  ∀ (s : State) (tag : Byte) (tagCode : Nat), s.room → ascending s.types → tagCode ≤ 65535 →
    (∀ (spec : TypeSpec) (family schedule : Nat),
      let x := exec (.writeType tag tagCode spec family schedule) s
      let bad := tagCode = 0 ∨ 15 < schedule ∨
        match spec with
        | .crate map => 7 < family ∨ map = 0
        | .pool map => family ≠ 255 ∨ map = 0
        | .keg t tol a l => 7 < family ∨ 20000 < t ∨ 20000 < tol ∨ 20000 < a ∨ 20000 < l
        | .unknown _ => True
      (bad → x = s.refuses tag 0x18 .malformed (.typeRefused tagCode s.types.length)) ∧
      (¬ bad → (∀ e ∈ s.types, e.tagCode ≠ tagCode) → 64 ≤ s.types.length →
        x = s.refuses tag 0x18 .tableFull (.typeRefused tagCode s.types.length)) ∧
      (¬ bad → ∃ e : TypeEntry, e.tagCode = tagCode ∧ e.schedule.val = schedule ∧
        (match spec with
          | .crate map => ∃ f : Family, f.val = family ∧ e.body = .crate f map
          | .pool map => e.body = .pool map
          | .keg t tol a l => ∃ f : Family, f.val = family ∧ e.body = .keg f ⟨t, tol, a, l⟩
          | .unknown _ => False) ∧
        (∀ (i : Nat) (h : i < s.types.length), s.types[i].tagCode = tagCode →
          x = .next (State.finish { s with
            types := s.types.set i e
            responses := s.responses ++ [⟨tag, 0x18, .ok, .typeWritten true i s.types.length⟩] })) ∧
        ((∀ y ∈ s.types, y.tagCode ≠ tagCode) → s.types.length < 64 →
          ∃ before after, s.types = before ++ after ∧ ascending (before ++ e :: after) ∧
            x = .next (State.finish { s with
              types := before ++ e :: after
              responses := s.responses ++
                [⟨tag, 0x18, .ok, .typeWritten false before.length (s.types.length + 1)⟩] })))) ∧
    (tagCode = 0 →
      exec (.deleteType tag tagCode) s = s.refuses tag 0x19 .malformed .empty) ∧
    (1 ≤ tagCode →
      ((∀ e ∈ s.types, e.tagCode ≠ tagCode) →
        exec (.deleteType tag tagCode) s = s.refuses tag 0x19 .noEntry (.typeCount s.types.length)) ∧
      ∀ (i : Nat) (h : i < s.types.length), s.types[i].tagCode = tagCode →
        exec (.deleteType tag tagCode) s = .next (State.finish { s with
          types := s.types.eraseIdx i
          responses := s.responses ++ [⟨tag, 0x19, .ok, .typeDeleted i (s.types.length - 1)⟩] }))

/-! ## Tariffs -/

/-- R114 to R117: a write goes to the load slot, the slot that is not ACTIVE, or slot 0 when none is. An EMPTY
slot is prepared first, with number 0, NEAREST_EVEN, fees 0, no enables and sixteen undefined schedules of
zeros; a PENDING one is written as it stands; a RETIRING one refuses with TARIFF_BUSY. No field is clamped. A
defined mark above 1 (log 6) and a value that its field cannot carry (log 7) are MALFORMED by the model's choice,
with R164. -/
def Obligations.TariffWritesLoad : Prop :=
  ∀ (s : State) (tag enables : Byte) (n mode a b c d schedule defined bottle damaged ullage : Nat)
    (t : TariffIndex), s.room →
    (s.NoneActive ∧ t = 0 ∨ ∃ o, s.OneActive o ∧ t = otherTariff o) →
    let header := exec (.writeTariffHeader tag n mode a b c d enables) s
    let sched := exec (.writeSchedule tag schedule defined a b c d bottle damaged ullage) s
    let blank : Schedule := ⟨false, ⟨0, 0, 0, 0⟩, 0, 0, 0⟩
    let prepared : Generation :=
      ⟨⟨0, .nearestEven, ⟨0, 0, 0, 0⟩, 0⟩, Vector.replicate 16 blank⟩
    (65535 < n ∨ 3 < mode ∨ 10000 < a ∨ 10000 < b ∨ 10000 < c ∨ 10000 < d ∨ 8 ≤ enables.toNat →
      header = s.refuses tag 0x20 .malformed .empty) ∧
    (n ≤ 65535 → a ≤ 10000 → b ≤ 10000 → c ≤ 10000 → d ≤ 10000 → enables.toNat < 8 →
      ∀ m : RoundingMode, mode = (match m with | .nearestEven => 0 | .nearestUp => 1 | .down => 2 | .up => 3) →
      (∀ g p, s.tariffs[t] = .retiring g p →
        header = s.refuses tag 0x20 .tariffBusy (.tariffBusy t g.header.generation p)) ∧
      (∀ g, s.tariffs[t] = .pending g ∨ (s.tariffs[t] = .empty ∧ g = prepared) →
        header = .next (State.finish { s with
          tariffs := upd s.tariffs t (fun _ =>
            .pending { g with header := ⟨n, m, ⟨a, b, c, d⟩, enables.setWidth 3⟩ })
          responses := s.responses ++ [⟨tag, 0x20, .ok, .headerWritten t .pending n⟩] }))) ∧
    (15 < schedule ∨ 1 < defined ∨ 65535 < a ∨ 65535 < b ∨ 65535 < c ∨ 65535 < d ∨ 65535 < bottle ∨
      100 < damaged ∨ 65535 < ullage → sched = s.refuses tag 0x21 .malformed .empty) ∧
    (∀ k : Fin 16, k.val = schedule → defined ≤ 1 → a ≤ 65535 → b ≤ 65535 → c ≤ 65535 → d ≤ 65535 →
      bottle ≤ 65535 → damaged ≤ 100 → ullage ≤ 65535 →
      (∀ g p, s.tariffs[t] = .retiring g p →
        sched = s.refuses tag 0x21 .tariffBusy (.tariffBusy t g.header.generation p)) ∧
      (∀ g, s.tariffs[t] = .pending g ∨ (s.tariffs[t] = .empty ∧ g = prepared) →
        sched = .next (State.finish { s with
          tariffs := upd s.tariffs t (fun _ => .pending { g with
            schedules := upd g.schedules k (fun _ =>
              ⟨decide (defined = 1), ⟨a, b, c, d⟩, bottle, damaged, ullage⟩) })
          responses := s.responses ++ [⟨tag, 0x21, .ok, .scheduleWritten t schedule .pending⟩] })))

/-- R119 to R122: the check value is the sum of every value of the slot modulo 65,536; Promote Tariff makes its
checks in order, then the PENDING slot is ACTIVE with no pins and the former ACTIVE slot RETIRING, or EMPTY
when it had none; Discard Pending empties the PENDING slot. An expected value above 65,535 is MALFORMED by the
model's choice, with R164 (log 7). -/
def Obligations.PromoteAndDiscard : Prop :=
  ∀ (s : State) (tag : Byte) (expected : Nat), s.room →
    let x := exec (.promoteTariff tag expected) s
    let states := Detail.tariffStates s.tariffs[(0 : TariffIndex)].state
      s.tariffs[(0 : TariffIndex)].generation s.tariffs[(1 : TariffIndex)].state
      s.tariffs[(1 : TariffIndex)].generation
    (65535 < expected → x = s.refuses tag 0x23 .malformed .empty) ∧
    ((∀ t : TariffIndex, s.tariffs[t].state ≠ .pending) →
      (expected ≤ 65535 → x = s.refuses tag 0x23 .wrongState states) ∧
      exec (.discardPending tag) s = s.refuses tag 0x24 .wrongState states) ∧
    ∀ (t : TariffIndex) (g : Generation), s.tariffs[t] = .pending g →
      s.tariffs[otherTariff t].state ≠ .pending →
      exec (.discardPending tag) s = .next (State.finish { s with
        tariffs := upd s.tariffs t (fun _ => .empty)
        responses := s.responses ++ [⟨tag, 0x24, .ok, .pendingDiscarded t⟩] }) ∧
      (expected ≤ 65535 → ∀ check : Nat,
        check = (g.header.generation + g.header.mode.code + g.header.fees.a + g.header.fees.b +
          g.header.fees.c + g.header.fees.d + g.header.enables.toNat +
          ((List.finRange 16).map (fun k =>
            (if g.schedules[k].defined then 1 else 0) + g.schedules[k].deposits.a +
            g.schedules[k].deposits.b + g.schedules[k].deposits.c + g.schedules[k].deposits.d +
            g.schedules[k].bottle + g.schedules[k].damaged + g.schedules[k].ullage)).sum) % 65536 →
        (g.header.generation = 0 → x = s.refuses tag 0x23 .wrongState states) ∧
        (s.tariffs[otherTariff t].state = .active →
          s.tariffs[otherTariff t].generation = g.header.generation →
          x = s.refuses tag 0x23 .wrongState states) ∧
        (g.header.generation ≠ 0 →
          (s.tariffs[otherTariff t].state = .active →
            s.tariffs[otherTariff t].generation ≠ g.header.generation) →
          (check ≠ expected →
            x = s.refuses tag 0x23 .checkMismatch (.checkMismatch t expected check)) ∧
          (check = expected →
            (s.tariffs[otherTariff t].state ≠ .active → x = .next (State.finish { s with
              tariffs := upd s.tariffs t (fun _ => .active g 0)
              responses := s.responses ++
                [⟨tag, 0x23, .ok, .promoted t g.header.generation check none⟩] })) ∧
            ∀ (g' : Generation) (pins : Nat), s.tariffs[otherTariff t] = .active g' pins →
              x = .next (State.finish { s with
                tariffs := upd (upd s.tariffs (otherTariff t) (fun _ =>
                  if 0 < pins then .retiring g' pins else .empty)) t (fun _ => .active g 0)
                responses := s.responses ++ [⟨tag, 0x23, .ok, .promoted t g.header.generation check
                  (some (otherTariff t, if 0 < pins then .retiring else .empty, pins))⟩] }))))

/-! ## Accounts -/

/-- R131 to R133: Write Account and Delete Account, their checks in order and what they do to the slot. A frozen
field above 1 (log 6) and a ceiling above 4,294,967,295 (log 7) are MALFORMED by the model's choice, with R164. -/
def Obligations.AccountEdits : Prop :=
  (∀ (s : State) (tag : Byte) (slot account cls frozen ceiling : Nat), s.room →
    let x := exec (.writeAccount tag slot account cls frozen ceiling) s
    (255 < slot ∨ account = 0 ∨ 16777215 < account ∨ 3 < cls ∨ 1 < frozen ∨ 4294967295 < ceiling →
      x = s.refuses tag 0x28 .malformed .empty) ∧
    (1 ≤ account → account ≤ 16777215 → frozen ≤ 1 → ceiling ≤ 4294967295 →
      ∀ (a : AccountSlot) (k : CustomerClass), a.val = slot →
      cls = (match k with | .a => 0 | .b => 1 | .c => 2 | .d => 3) →
      let r := s.accounts[a]
      (∀ b : AccountSlot, lowest (fun b => b ≠ a ∧ s.accounts[b].number = account) b →
        x = s.refuses tag 0x28 .duplicate (.accountHolder b)) ∧
      ((∀ b : AccountSlot, b ≠ a → s.accounts[b].number ≠ account) →
        (r.number ≠ 0 → r.number ≠ account → 0 < r.useCount →
          x = s.refuses tag 0x28 .inUse (.accountInUse r.number r.useCount)) ∧
        (r.number = 0 ∨ r.number = account ∨ r.useCount = 0 →
          let w : Account :=
            if r.number = 0 then
              { number := account, cls := k, frozen := decide (frozen = 1), floats := Vector.replicate 8 0
                held := 0, paidToday := 0, ceiling := ceiling, useCount := 0 }
            else { r with number := account, cls := k, frozen := decide (frozen = 1), ceiling := ceiling }
          x = .next (State.finish { s with
            accounts := upd s.accounts a (fun _ => w)
            responses := s.responses ++ [⟨tag, 0x28, .ok, .accountWritten
              (if r.number = 0 then .created else if r.number = account then .updated else .renumbered)
              { slot := a, number := w.number, cls := w.cls, frozen := w.frozen, floats := w.floats
                held := w.held, paidToday := w.paidToday, ceiling := w.ceiling
                room := w.ceiling - w.paidToday, useCount := w.useCount }⟩] }))))) ∧
  ∀ (s : State) (tag : Byte) (account : Nat), s.room →
    let x := exec (.deleteAccount tag account) s
    (account = 0 ∨ 16777215 < account → x = s.refuses tag 0x29 .malformed .empty) ∧
    (1 ≤ account → account ≤ 16777215 → (∀ a : AccountSlot, s.accounts[a].number ≠ account) →
      x = s.refuses tag 0x29 .noEntry (.missing .account)) ∧
    ∀ a : AccountSlot, s.AccountAt a account →
      (0 < s.accounts[a].useCount →
        x = s.refuses tag 0x29 .inUse (.deleteUse s.accounts[a].useCount)) ∧
      (s.accounts[a].useCount = 0 → 0 < s.accounts[a].held →
        x = s.refuses tag 0x29 .inUse (.deleteHeld s.accounts[a].held)) ∧
      (s.accounts[a].useCount = 0 → s.accounts[a].held = 0 → x = .next (State.finish { s with
        accounts := upd s.accounts a (fun _ =>
          { number := 0, cls := .a, frozen := false, floats := Vector.replicate 8 0, held := 0
            paidToday := 0, ceiling := 0, useCount := 0 })
        responses := s.responses ++
          [⟨tag, 0x29, .ok, .accountDeleted a s.accounts[a].floats s.accounts[a].paidToday⟩] }))

/-- R129, R135 to R137: Issue Containers adds to a float, stopping at 65,535 with FLOAT_CLAMP (the fourth part
flag); Set Float replaces it and latches nothing. A frozen account is not refused. -/
def Obligations.FloatRequests : Prop :=
  ∀ (s : State) (tag : Byte) (account family n : Nat), s.room →
    let issue := exec (.issueContainers tag account family n) s
    let set := exec (.setFloat tag account family n) s
    (7 < family ∨ n = 0 ∨ 65535 < n → issue = s.refuses tag 0x2B .malformed .empty) ∧
    (7 < family ∨ 65535 < n → set = s.refuses tag 0x2C .malformed .empty) ∧
    (family ≤ 7 → n ≤ 65535 →
      (account = 0 ∨ 16777215 < account →
        issue = s.refuses tag 0x2B .malformed .empty ∧ set = s.refuses tag 0x2C .malformed .empty) ∧
      (1 ≤ account → account ≤ 16777215 → (∀ a : AccountSlot, s.accounts[a].number ≠ account) →
        (1 ≤ n → issue = s.refuses tag 0x2B .noEntry (.missing .account)) ∧
        set = s.refuses tag 0x2C .noEntry (.missing .account)) ∧
      ∀ (a : AccountSlot) (f : Family), s.AccountAt a account → f.val = family →
        let old := s.accounts[a].floats[f]
        (1 ≤ n → old + n ≤ 65535 → issue = .next (State.finish { s with
          accounts := upd s.accounts a (fun r => { r with floats := upd r.floats f (fun _ => old + n) })
          responses := s.responses ++ [⟨tag, 0x2B, .ok, .containersIssued f old (old + n) 0⟩] })) ∧
        (1 ≤ n → 65535 < old + n → issue = .next (State.finish { s with
          accounts := upd s.accounts a (fun r => { r with floats := upd r.floats f (fun _ => 65535) })
          partFlags := s.partFlags ||| 0x08#7
          responses := s.responses ++
            [⟨tag, 0x2B, .ok, .containersIssued f old 65535 (old + n - 65535)⟩] })) ∧
        set = .next (State.finish { s with
          accounts := upd s.accounts a (fun r => { r with floats := upd r.floats f (fun _ => n) })
          responses := s.responses ++ [⟨tag, 0x2C, .ok, .floatSet f old n⟩] }))

/-- R139: Freeze Run marks the slots from its start upward, the smaller of the count and 256 less the start,
and changes no other field of any slot. R141: Day Close sets the paid-today of every slot to 0 and changes no
other field of any slot; the sum it reports stops at 4,294,967,295. -/
def Obligations.FreezeRunAndDayClose : Prop :=
  ∀ (s : State) (tag : Byte), s.room →
    (∀ start count mark : Nat,
      (255 < start ∨ count = 0 ∨ 256 < count ∨ 1 < mark →
        exec (.freezeRun tag start count mark) s = s.refuses tag 0x2D .malformed .empty) ∧
      (start ≤ 255 → 1 ≤ count → count ≤ 256 → mark ≤ 1 →
        ∃ t n, exec (.freezeRun tag start count mark) s = .next t ∧ n = min count (256 - start) ∧
          t = { s with
            accounts := t.accounts, attention := t.attention, trunkTx := t.trunkTx
            responses := s.responses ++ [⟨tag, 0x2D, .ok, .freezeRun n (start + n) (count - n)
              (allAccounts.countP (fun a =>
                decide (start ≤ a.val ∧ a.val < start + n ∧ s.accounts[a].number ≠ 0)))⟩] } ∧
          ∀ a : AccountSlot, t.accounts[a] =
            if start ≤ a.val ∧ a.val < start + n then { s.accounts[a] with frozen := decide (mark = 1) }
            else s.accounts[a])) ∧
    ∃ t, exec (.dayClose tag) s = .next t ∧
      t = { s with
        accounts := t.accounts, attention := t.attention, trunkTx := t.trunkTx
        responses := s.responses ++ [⟨tag, 0x2E, .ok, .dayClosed
          (min 4294967295 ((allAccounts.map (fun a => s.accounts[a].paidToday)).sum))
          (allAccounts.countP (fun a => decide (0 < s.accounts[a].paidToday)))⟩] } ∧
      ∀ a : AccountSlot, t.accounts[a] = { s.accounts[a] with paidToday := 0 }

/-- R155, R156: Release Held, its checks in order; the amount paid is the smaller of the amount asked and the
held balance, and a release record joins the tail of the Settlement Queue. -/
def Obligations.ReleaseHeldPays : Prop :=
  ∀ (s : State) (tag : Byte) (account amount : Nat), s.room →
    let x := exec (.releaseHeld tag account amount) s
    (amount = 0 ∨ 4294967295 < amount ∨ account = 0 ∨ 16777215 < account →
      x = s.refuses tag 0x30 .malformed .empty) ∧
    (1 ≤ amount → amount ≤ 4294967295 →
      (1 ≤ account → account ≤ 16777215 → (∀ a : AccountSlot, s.accounts[a].number ≠ account) →
        x = s.refuses tag 0x30 .noEntry (.missing .account)) ∧
      ∀ a : AccountSlot, s.AccountAt a account →
        let r := s.accounts[a]
        let paid := min amount r.held
        (r.frozen = true → x = s.refuses tag 0x30 .frozen (.heldBalance r.held)) ∧
        (r.frozen = false → 8 ≤ s.settlementQueue.length → x = s.refuses tag 0x30 .queueFull .empty) ∧
        (r.frozen = false → s.settlementQueue.length < 8 → x = .next (State.finish { s with
          accounts := upd s.accounts a (fun r => { r with
            held := r.held - paid
            paidToday := min 4294967295 (r.paidToday + paid) })
          settlementQueue := s.settlementQueue ++ [.release account paid (r.held - paid)]
          responses := s.responses ++ [⟨tag, 0x30, .ok,
            .released paid (r.held - paid) (min 4294967295 (r.paidToday + paid))⟩] })))

/-! ## Management -/

/-- R166: Identify, in any state with room for its response. -/
def Obligations.IdentifyAnswers : Prop :=
  ∀ (s : State) (tag : Byte), s.room →
    exec (.identify tag) s = .next (State.finish { s with
      responses := s.responses ++
        [⟨tag, 0x38, .ok, .identity 1826 624 1 [6, 24, 64, 2, 16, 256, 8, 12, 8]⟩] })

/-- R168, R169: Read Status reports what stands, then clears every latched part flag and lane flag, masked ones
included, and nothing else; attention is then clear. -/
def Obligations.ReadStatusClears : Prop :=
  ∀ (s : State) (tag : Byte), s.room →
    ∃ t r, exec (.readStatus tag) s = .next t ∧
      t = { s with
        partFlags := 0
        lanes := Vector.ofFn (fun l => { s.lanes[l] with flags := 0 })
        attention := false
        trunkTx := t.trunkTx
        responses := s.responses ++ [⟨tag, 0x39, .ok, .status r⟩] } ∧
      r.partFlags = s.partFlags ∧ (∀ l : Lane, r.laneFlags[l] = s.lanes[l].flags) ∧
      r.partMasks = s.partMasks ∧ r.laneMasks = s.laneMasks ∧ r.attention = s.attention ∧
      r.lossCount = s.lossCount ∧ r.grace = s.graceSeconds ∧ r.aging = s.agingLimit ∧
      r.visits = allVisits.map (fun v =>
        (s.visits[v].state, if s.visits[v].state = .free then 0 else s.visits[v].number)) ∧
      r.tariffs = ([0, 1] : List TariffIndex).map (fun t =>
        (s.tariffs[t].state, s.tariffs[t].generation, s.tariffs[t].pins))

/-- R170, R172: Set Masks writes every mask, or is MALFORMED where a mask set names no flag of its kind; Set
Part Parameters writes both parameters, clamped. Its response carries the attention that the new masks give. -/
def Obligations.MasksAndParameters : Prop :=
  ∀ (s : State) (tag : Byte), s.room →
    (∀ (part : Byte) (m : LaneMaskFields),
      let x := exec (.setMasks tag part m) s
      let fields := [m.lane0, m.lane1, m.lane2, m.lane3, m.lane4, m.lane5]
      (128 ≤ part.toNat ∨ (∃ w ∈ fields, 1024 ≤ w.toNat) → x = s.refuses tag 0x3A .malformed .empty) ∧
      (part.toNat < 128 → (∀ w ∈ fields, w.toNat < 1024) →
        ∃ (t : State) (lanes : Vector LaneFlags 6), x = .next t ∧
          lanes.toList = fields.map (fun w => w.setWidth 10) ∧
          t = { s with
            partMasks := part.setWidth 7
            laneMasks := lanes
            attention := t.attention
            trunkTx := t.trunkTx
            responses := s.responses ++ [⟨tag, 0x3A, .ok, .masks (part.setWidth 7) lanes t.attention⟩] } ∧
          t.attentionTrue)) ∧
    ∀ grace aging : Nat,
      exec (.setPartParameters tag grace aging) s = .next (State.finish { s with
        graceSeconds := max 1 (min grace 60)
        agingLimit := min aging 15
        responses := s.responses ++
          [⟨tag, 0x3B, .ok, .parameters (max 1 (min grace 60)) (min aging 15)⟩] })

/-- R30, R56, R174 to R176: Part Reset. It frees every OPEN and CLOSING visit with its lanes, float, pin and
use counts, empties the lanes, the Item Record Queue and the Response Queue but for a message in transmission,
clears the latched flags before its cancellations latch FLOAT_CLAMP, where a float passes its top, and
TARIFF_RETIRED, where the last pin of a RETIRING slot goes, and keeps everything else. -/
def Obligations.PartResetCancels : Prop :=
  ∀ (s : State) (tag : Byte), s.room → s.BindingsSound →
    ∀ cancelled : List VisitSlot,
    cancelled = allVisits.filter (fun v => s.visits[v].state == .opened || s.visits[v].state == .closing) →
    let pinning := fun i : TariffIndex =>
      cancelled.countP (fun v => s.visits[v].pin.any (fun p => p.slot == i))
    let segments := cancelled.flatMap (fun v => s.visits[v].segments)
    ∃ t, exec (.partReset tag) s = .next t ∧
      t = State.finish { s with
        visits := t.visits, lanes := t.lanes, accounts := t.accounts, tariffs := t.tariffs
        partFlags := t.partFlags
        items := s.items.take (s.inTransmission .items)
        responses := s.responses.take (s.inTransmission .responses) ++ [⟨tag, 0x3C, .ok, .partReset
          cancelled.length
          (allVisits.countP (fun v => s.visits[v].state == .settling))
          ((allLanes.map (fun l => s.lanes[l].queue.length + s.lanes[l].staged.length)).sum)
          (s.items.length - s.inTransmission .items)
          (s.responses.length - s.inTransmission .responses)⟩] } ∧
      (∀ v : VisitSlot, t.visits[v] = if v ∈ cancelled then Visit.free else s.visits[v]) ∧
      (∀ l : Lane, t.lanes[l] = { s.lanes[l] with
        state := if s.lanes[l].state = .disabled then .disabled else .idle
        queue := [], context := none, txQueue := s.lanes[l].txQueue.take 1, flags := 0, passCount := 0
        hold := decide (s.lanes[l].state = .disabled) }) ∧
      (∀ a : AccountSlot, t.accounts[a] = { s.accounts[a] with
        floats := t.accounts[a].floats
        useCount := s.accounts[a].useCount - (cancelled.map (fun v => s.visits[v].uses a)).sum }) ∧
      (∀ (a : AccountSlot) (f : Family), t.accounts[a].floats[f] =
        givenBack s.accounts[a].floats[f] (takenOf a f segments)) ∧
      (∀ i : TariffIndex, t.tariffs[i] = s.tariffs[i].released (pinning i)) ∧
      (t.partFlag .floatClamp = true ↔ ∃ (a : AccountSlot) (f : Family),
        takenOf a f segments ≠ [] ∧ 65535 < s.accounts[a].floats[f] + (takenOf a f segments).sum) ∧
      (t.partFlag .tariffRetired = true ↔ ∃ (i : TariffIndex) (g : Generation) (n : Nat),
        s.tariffs[i] = .retiring g n ∧ 1 ≤ pinning i ∧ n ≤ pinning i) ∧
      ∀ f : PartFlag, f ≠ .floatClamp → f ≠ .tariffRetired → t.partFlag f = false

/-! ## Arrivals on the links -/

/-- R34 to R37: a Single Read, by the lane's state, kind and space. A read that joins carries the tag of a
BOUND lane's visit and raises its tagged count (R6); a gross mass above 20,000 is entered as 20,000. -/
def Obligations.SingleReadArrives : Prop :=
  ∀ (s : State) (l : Lane) (r : SingleRead),
    let p := s.lanes[l]
    let x := exec (.singleRead l r) s
    let kind := match r with
      | .crate _ => ReadKind.crate
      | .keg _ _ _ => ReadKind.keg
    (p.state = .disabled → x = .next s) ∧
    (p.state ≠ .disabled → kind ≠ p.kind → x = exec (.laneFrameError l) s) ∧
    (p.state ≠ .disabled → kind = p.kind → 48 ≤ p.queue.length → x = .next (State.finish { s with
      lanes := upd s.lanes l (fun p => { p with
        overruns := min 65535 (p.overruns + 1), flags := p.flags ||| 0x001#10 }) })) ∧
    (p.state ≠ .disabled → kind = p.kind → p.queue.length < 48 →
      ∀ (tag : Option VisitTag) (e : ReadEntry),
      e.tag = tag → e.member = none →
      (match r with
        | .crate c => e.tagCode = c.tagCode.toNat ∧ e.condition = c.condition ∧ e.body = .crate c.slots
        | .keg t c m => e.tagCode = t.toNat ∧ e.condition = c ∧ e.body = .keg (min m.toNat 20000)) →
      let lanes := upd s.lanes l (fun p => { p with
        queue := p.queue ++ [e]
        accepted := min 65535 (p.accepted + 1)
        hold := p.holdFor (p.queue.length + 1) })
      (p.state = .idle → tag = none → x = .next (State.finish { s with lanes := lanes })) ∧
      (∀ u, p.state = .bound u → s.names u → tag = some u → x = .next (State.finish { s with
        lanes := lanes
        visits := upd s.visits u.slot (fun r => { r with tagged := r.tagged + 1 }) })))

/-- R34, R35, R36, R38: a Stack Frame is accepted whole or discarded whole. -/
def Obligations.StackFrameArrives : Prop :=
  ∀ (s : State) (l : Lane) (number : Byte) (reads : List CrateRead),
    let p := s.lanes[l]
    let x := exec (.stackFrame l number reads) s
    let pending := (∃ e ∈ p.queue, ∃ m, e.member = some m ∧ m.stack = number.toNat) ∨
      ∃ c, p.context = some c ∧ c.stack = number.toNat
    (p.state = .disabled → x = .next s) ∧
    (p.state ≠ .disabled → p.kind = .keg ∨ reads = [] ∨ 16 < reads.length ∨ pending →
      x = exec (.laneFrameError l) s) ∧
    (p.state ≠ .disabled → p.kind = .crate → reads ≠ [] → reads.length ≤ 16 → ¬ pending →
      (48 < p.queue.length + reads.length → x = .next (State.finish { s with
        lanes := upd s.lanes l (fun p => { p with
          overruns := min 65535 (p.overruns + reads.length), flags := p.flags ||| 0x001#10 }) })) ∧
      (p.queue.length + reads.length ≤ 48 → ∀ tag : Option VisitTag,
        let entries := reads.mapIdx (fun i r =>
          ({ tagCode := r.tagCode.toNat, condition := r.condition, body := .crate r.slots, tag := tag
             member := some
               { stack := number.toNat, position := i + 1, last := decide (i + 1 = reads.length) } } :
            ReadEntry))
        let lanes := upd s.lanes l (fun p => { p with
          queue := p.queue ++ entries
          accepted := min 65535 (p.accepted + reads.length)
          hold := p.holdFor (p.queue.length + reads.length) })
        (p.state = .idle → tag = none → x = .next (State.finish { s with lanes := lanes })) ∧
        (∀ u, p.state = .bound u → s.names u → tag = some u → x = .next (State.finish { s with
          lanes := lanes
          visits := upd s.visits u.slot (fun r => { r with tagged := r.tagged + reads.length }) }))))

/-- R19, R36, R39: a Stack Cancel withdraws a pending stack whole, staged items and queued entries together,
with a CANCELLED record for each; its items leave their visit's tagged count, which may end its drain. With no
stack pending it latches STALE_CANCEL and changes nothing else. -/
def Obligations.StackCancelWithdraws : Prop :=
  ∀ (s : State) (l : Lane) (number : Byte),
    let p := s.lanes[l]
    let n := number.toNat
    let x := exec (.stackCancel l number) s
    let pending := (∃ e ∈ p.queue, ∃ m, e.member = some m ∧ m.stack = n) ∨
      ∃ c, p.context = some c ∧ c.stack = n
    (p.state = .disabled → x = .next s) ∧
    (p.state ≠ .disabled → ¬ pending → x = .next (State.finish { s with
      lanes := upd s.lanes l (fun p => { p with flags := p.flags ||| 0x080#10 }) })) ∧
    (p.state ≠ .disabled → pending → ∀ tag : Option VisitTag,
      (∀ e ∈ p.queue, ∀ m, e.member = some m → m.stack = n → e.tag = tag) →
      (∀ c, p.context = some c → c.stack = n → tag = some c.tag) →
      (∀ u, tag = some u → s.names u) →
      let count := p.chosenCount (Choice.ofStack n)
      ∃ t, x = .next t ∧
        t = { s with
          lanes := upd s.lanes l (fun p => { p with
            queue := p.queue.filter (fun e => !e.ofStack n)
            context := p.context.filter (fun c => c.stack != n)
            hold := p.holdFor (p.queue.filter (fun e => !e.ofStack n)).length
            passCount := if (p.queue.filter (fun e => !e.ofStack n)).isEmpty then 0 else p.passCount })
          visits := match tag with
            | some u => upd s.visits u.slot (fun r => r.drainedTo (r.tagged - count))
            | none => s.visits
          settleWait := match tag with
            | some u => s.waitDrained u (s.visits[u.slot].tagged - count)
            | none => s.settleWait
          items := t.items, lossCount := t.lossCount, partFlags := t.partFlags
          attention := t.attention, trunkTx := t.trunkTx } ∧
        s.Recorded t (if p.reporting then s.removalRecords l .cancelled (Choice.ofStack n) else []) ∧
        ∀ f : PartFlag, f ≠ .itemLoss → t.partFlag f = s.partFlag f)

/-- R36, R41, R183: a Lane Notice joins the Item Record Queue whatever the lane's binding and reporting, or is
lost with a count and ITEM_LOSS; a frame error counts and latches FRAME_ERROR on an enabled lane and changes
nothing on a DISABLED one; a trunk frame error latches TRUNK_FRAME_ERROR. -/
def Obligations.NoticesAndErrors : Prop :=
  ∀ (s : State) (l : Lane),
    (∀ bytes : List Byte,
      (s.lanes[l].state = .disabled → exec (.laneNotice l bytes) s = .next s) ∧
      (s.lanes[l].state ≠ .disabled →
        (32 < bytes.length → exec (.laneNotice l bytes) s = exec (.laneFrameError l) s) ∧
        (bytes.length ≤ 32 → s.items.length < 32 →
          exec (.laneNotice l bytes) s = .next (State.finish { s with
            items := s.items ++ [.notice l bytes] })) ∧
        (bytes.length ≤ 32 → 32 ≤ s.items.length →
          exec (.laneNotice l bytes) s = .next (State.finish { s with
            lossCount := min 65535 (s.lossCount + 1)
            partFlags := s.partFlags ||| 0x01#7 })))) ∧
    (s.lanes[l].state = .disabled → exec (.laneFrameError l) s = .next s) ∧
    (s.lanes[l].state ≠ .disabled → exec (.laneFrameError l) s = .next (State.finish { s with
      lanes := upd s.lanes l (fun p => { p with
        frameErrors := min 65535 (p.frameErrors + 1), flags := p.flags ||| 0x002#10 }) })) ∧
    exec .trunkFrameError s = .next (State.finish { s with partFlags := s.partFlags ||| 0x40#7 })

/-- R49, R183: a trunk frame of address 1 to 6 is offered to lane 0 to 5, and one of address 0x7F to every
lane, each on its own: it joins an enabled lane's transmit queue of fewer than 4 frames unchanged, or is
counted as lost with DOWNSTREAM_LOSS. That the command with a frame of any other address, or of address 0 and
another kind than Request, is a trunk frame error is the model's choice, after R183 (log 20). -/
def Obligations.DownstreamFrameOffered : Prop :=
  ∀ (s : State) (f : Frame),
    ((1 ≤ f.address.toNat ∧ f.address.toNat ≤ 6) ∨ f.address = 0x7F#8 →
      exec (.downstreamFrame f) s = .next (State.finish { s with
        lanes := Vector.ofFn (fun l =>
          if f.address.toNat = l.val + 1 ∨ f.address = 0x7F#8 then
            if s.lanes[l].state ≠ .disabled ∧ s.lanes[l].txQueue.length < 4 then
              { s.lanes[l] with txQueue := s.lanes[l].txQueue ++ [f] }
            else { s.lanes[l] with
              downLosses := min 65535 (s.lanes[l].downLosses + 1)
              flags := s.lanes[l].flags ||| 0x200#10 }
          else s.lanes[l]) })) ∧
    ((6 < f.address.toNat ∧ f.address ≠ 0x7F#8) ∨ (f.address = 0 ∧ f.kind ≠ 0x40#8) →
      exec (.downstreamFrame f) s = exec .trunkFrameError s)

/-! ## Grants, pricing and commits -/

/-- R35, R44, R45, R46: the lane a grant goes to, the entry it takes, and the pass counts. With no lane waiting
there is no grant (log 4). -/
def Obligations.GrantChoosesLane : Prop :=
  ∀ s : State,
    ((∀ l : Lane, s.lanes[l].queue = []) → exec .grant s = .next s) ∧
    ∀ (l : Lane) (e : ReadEntry) (rest : List ReadEntry) (t : State),
      s.Granted l → s.lanes[l].queue = e :: rest → exec .grant s = .next t →
      t.lastGranted = l ∧ t.lanes[l].queue = rest ∧ t.lanes[l].passCount = 0 ∧
      t.lanes[l].hold = s.lanes[l].holdFor rest.length ∧ s.PassedOver t l

/-- R47: a granted entry tagged "none" is counted, latches ORPHAN and is recorded; it is not priced, staged or
committed. -/
def Obligations.GrantOrphan : Prop :=
  ∀ (s : State) (l : Lane) (e : ReadEntry) (rest : List ReadEntry),
    s.Granted l → s.lanes[l].queue = e :: rest → e.tag = none →
    ∃ t, exec .grant s = .next t ∧
      t = { s with
        lanes := t.lanes, lastGranted := l, items := t.items, lossCount := t.lossCount
        partFlags := t.partFlags, attention := t.attention, trunkTx := t.trunkTx } ∧
      s.PassedOver t l ∧
      t.lanes[l] = { s.lanes[l].taken rest with
        orphans := min 65535 (s.lanes[l].orphans + 1), flags := s.lanes[l].flags ||| 0x004#10 } ∧
      s.Recorded t (if s.lanes[l].reporting then
        [{ lane := l, visit := 0, segment := 0, tagCode := e.tagCode, outcome := .orphan
           causes := match s.findType e.tagCode with
             | some x => if x.body.kind = e.body.kind then 0 else 0x08#7
             | none => 0
           credit := 0, stack := e.member.map (fun m => (m.stack, m.position)) }] else []) ∧
      ∀ f : PartFlag, f ≠ .itemLoss → t.partFlag f = s.partFlag f

/-- R46, R57, R58, R81: a tagged entry with no stack membership is priced under its visit's pinned generation
with the class snapshot of the current segment, and committed into that segment in the same grant; its visit's
tagged count falls by one, which may end its drain. -/
def Obligations.GrantSingle : Prop :=
  ∀ (s : State) (l : Lane) (e : ReadEntry) (rest : List ReadEntry) (u : VisitTag) (pin : Pin)
    (g : Generation) (k : Nat) (seg : Segment),
    s.Granted l → s.lanes[l].queue = e :: rest → e.tag = some u → e.member = none → s.names u →
    s.visits[u.slot].pin = some pin → s.tariffs[pin.slot].contents = some g →
    k + 1 = s.visits[u.slot].segments.length → s.visits[u.slot].segments[k]? = some seg →
    let priced := price (s.findType e.tagCode) g seg.cls e
    let item : CommitItem := ⟨e.tagCode, e.condition, priced.result, none⟩
    let pass := passage g.header.enables s.accounts[seg.accountSlot].floats seg item
    let left := s.visits[u.slot].tagged - 1
    ∃ t, exec .grant s = .next t ∧
      t = { s with
        lanes := t.lanes, lastGranted := l, items := t.items, lossCount := t.lossCount
        partFlags := t.partFlags, attention := t.attention, trunkTx := t.trunkTx
        visits := upd s.visits u.slot (fun r =>
          { r with segments := r.segments.set k pass.segment }.drainedTo left)
        settleWait := s.waitDrained u left
        accounts := upd s.accounts seg.accountSlot (fun a => { a with
          floats := match pass.takes with
            | some f => upd a.floats f (fun n => n - 1)
            | none => a.floats }) } ∧
      s.PassedOver t l ∧
      t.lanes[l] = { s.lanes[l].taken rest with
        flags := s.lanes[l].flags |||
          (if priced.result.listed then 0 else 0x008#10) ||| (if priced.ullageWarn then 0x020#10 else 0) |||
          (if pass.outcome = .diverted then 0x010#10 else 0) |||
          (if pass.outcome = .excess then 0x040#10 else 0) } ∧
      s.Recorded t (if s.lanes[l].reporting then
        [{ lane := l, visit := u.number, segment := k, tagCode := e.tagCode, outcome := pass.outcome
           causes := pass.causes, credit := pass.credit, stack := none }] else []) ∧
      ∀ f : PartFlag, f ≠ .itemLoss → t.partFlag f = s.partFlag f

/-- R42, R46, R82: a tagged stack member is priced with the recorded segment's snapshot and staged; when it
bears the last mark the whole stack commits into that segment, item by item in position order, in the same
grant, and its items leave the tagged count together. Before that, nothing enters a segment and no float is
taken. -/
def Obligations.GrantStack : Prop :=
  ∀ (s : State) (l : Lane) (e : ReadEntry) (rest : List ReadEntry) (u : VisitTag) (m : StackMember)
    (pin : Pin) (g : Generation) (k : Nat) (seg : Segment) (old : List StagedItem),
    s.Granted l → s.lanes[l].queue = e :: rest → e.tag = some u → e.member = some m → s.names u →
    s.visits[u.slot].pin = some pin → s.tariffs[pin.slot].contents = some g →
    (s.lanes[l].context = none ∧ old = [] ∧ k + 1 = s.visits[u.slot].segments.length ∨
      s.lanes[l].context = some ⟨m.stack, u, k, old⟩) →
    s.visits[u.slot].segments[k]? = some seg →
    let priced := price (s.findType e.tagCode) g seg.cls e
    let staged := old ++ [⟨m.position, e.tagCode, e.condition, priced.result⟩]
    let pricing : LaneFlags :=
      (if priced.result.listed then 0 else 0x008#10) ||| (if priced.ullageWarn then 0x020#10 else 0)
    (m.last = false → ∃ t, exec .grant s = .next t ∧
      t = { s with lanes := t.lanes, lastGranted := l, attention := t.attention, trunkTx := t.trunkTx } ∧
      s.PassedOver t l ∧
      t.lanes[l] = { s.lanes[l].taken rest with
        flags := s.lanes[l].flags ||| pricing, context := some ⟨m.stack, u, k, staged⟩ }) ∧
    (m.last = true →
      let items : List CommitItem := staged.map (fun i =>
        ⟨i.tagCode, i.condition, i.priced, some (m.stack, i.position)⟩)
      let r := passAll g.header.enables seg s.accounts[seg.accountSlot].floats items
      let left := s.visits[u.slot].tagged - staged.length
      ∃ t, exec .grant s = .next t ∧
        t = { s with
          lanes := t.lanes, lastGranted := l, items := t.items, lossCount := t.lossCount
          partFlags := t.partFlags, attention := t.attention, trunkTx := t.trunkTx
          visits := upd s.visits u.slot (fun v =>
            { v with segments := v.segments.set k r.1 }.drainedTo left)
          settleWait := s.waitDrained u left
          accounts := upd s.accounts seg.accountSlot (fun a => { a with floats := r.2.1 }) } ∧
        s.PassedOver t l ∧
        t.lanes[l] = { s.lanes[l].taken rest with
          context := none
          flags := s.lanes[l].flags ||| pricing |||
            (if r.2.2.any (fun p => p.outcome == .diverted) then 0x010#10 else 0) |||
            (if r.2.2.any (fun p => p.outcome == .excess) then 0x040#10 else 0) } ∧
        s.Recorded t (if s.lanes[l].reporting then
          List.zipWith (fun (i : CommitItem) (p : Passage) =>
            { lane := l, visit := u.number, segment := k, tagCode := i.tagCode, outcome := p.outcome
              causes := p.causes, credit := p.credit, stack := i.stack }) items r.2.2 else []) ∧
        ∀ f : PartFlag, f ≠ .itemLoss → t.partFlag f = s.partFlag f)

/-- R63: the rounded value of x ÷ d under each of the four modes, its distance from the quotient, and the mode codes. -/
def Obligations.RoundingModes : Prop :=
  (∀ x d : Nat, 0 < d →
    let q := x / d
    let r := x % d
    x = q * d + r ∧ r < d ∧
    roundDiv .down x d = q ∧
    roundDiv .up x d = (if r = 0 then q else q + 1) ∧
    roundDiv .nearestUp x d = (if d ≤ 2 * r then q + 1 else q) ∧
    (2 * r ≠ d → roundDiv .nearestEven x d = (if d < 2 * r then q + 1 else q)) ∧
    (2 * r = d → roundDiv .nearestEven x d = (if q % 2 = 1 then q + 1 else q) ∧
      roundDiv .nearestEven x d % 2 = 0) ∧
    (∀ mode, q ≤ roundDiv mode x d ∧ roundDiv mode x d ≤ q + 1 ∧ (r = 0 → roundDiv mode x d = q)) ∧
    ∀ mode, mode = .nearestEven ∨ mode = .nearestUp →
      2 * (roundDiv mode x d * d) ≤ 2 * x + d ∧ 2 * x ≤ 2 * (roundDiv mode x d * d) + d) ∧
  [0, 1, 2, 3].map modeOf =
    [some RoundingMode.nearestEven, some .nearestUp, some .down, some .up]

/-- R59 to R62 and R64 to R74: the stages of pricing and the credit they give, with each cause as its bit
(INEXACT 1, NEGATIVE 2, WRONG_KIND 8, INVALID 16, FULL_RETURN 32, LIGHT 64). -/
def Obligations.PricingStages : Prop :=
  ∀ (g : Generation) (cls : CustomerClass) (e : ReadEntry),
    price none g cls e =
      ⟨{ listed := false, family := none, schedule := none, bottles := 0, credit := 0, causes := 0
         diverted := false }, false⟩ ∧
    ∀ t : TypeEntry,
      let diverted := fun (causes : Causes) (warn : Bool) => (⟨{ listed := true, family := t.body.family
                                                                 schedule := some t.schedule, bottles := 0
                                                                 credit := 0, causes := causes
                                                                 diverted := true }, warn⟩ : Pricing)
      let credited := fun (bottles credit : Nat) (causes : Causes) (warn : Bool) =>
        (⟨{ listed := true, family := t.body.family, schedule := some t.schedule, bottles := bottles
            credit := credit, causes := causes, diverted := false }, warn⟩ : Pricing)
      let ends := fun (bottles credit : Nat) (causes : Causes) (warn : Bool) =>
        if causes.setWidth 3 &&& g.header.enables = 0 then credited bottles credit causes warn
        else diverted causes warn
      let x := g.schedules[t.schedule]
      let dc := match cls with
        | .a => x.deposits.a
        | .b => x.deposits.b
        | .c => x.deposits.c
        | .d => x.deposits.d
      let body := match e.condition with
        | .sound => dc
        | .damaged => roundDiv g.header.mode (dc * x.damaged) 100
        | .scrap => 0
      let inexact := e.condition = .damaged ∧ (dc * x.damaged) % 100 ≠ 0
      let p := price (some t) g cls e
      (t.body.kind ≠ e.body.kind → p = diverted 0x08#7 false) ∧
      (t.body.kind = e.body.kind → x.defined = false → p = diverted 0x10#7 false) ∧
      (x.defined = true →
        (∀ map slots : SlotMap, (t.body = .pool map ∨ ∃ f, t.body = .crate f map) → e.body = .crate slots →
          ∀ b, b = (List.range 24).countP (fun i => slots.getLsbD i && map.getLsbD i) →
          (inexact → p = ends b (body + b * x.bottle) 0x01#7 false) ∧
          (¬ inexact → p = credited b (body + b * x.bottle) 0 false)) ∧
        ∀ (f : Family) (tare tol full light mass : Nat), t.body = .keg f ⟨tare, tol, full, light⟩ →
          e.body = .keg mass →
          (tare + full < mass → p = diverted 0x20#7 false) ∧
          (mass ≤ tare + full → mass + light < tare → p = diverted 0x40#7 false) ∧
          (mass ≤ tare + full → tare ≤ mass + light →
            ∀ (d : Nat) (causes : Causes),
            d = roundDiv g.header.mode ((mass - (tare + tol)) * x.ullage) 100 →
            causes = (if inexact ∨ ((mass - (tare + tol)) * x.ullage) % 100 ≠ 0 then 0x01#7 else 0) |||
              (if body < d then 0x02#7 else 0) →
            p = ends 0 (body - d) causes (decide (tare + tol < mass))))

/-- R77: every per-item credit lies in 0 to 1,638,375, a keg's in 0 to 65,535; an item that is UNLISTED or
diverted brings no credit and no bottle; a bottle count is at most 24. The generation's values are in range. -/
def Obligations.CreditBounds : Prop :=
  ∀ (lookup : Option TypeEntry) (g : Generation) (cls : CustomerClass) (e : ReadEntry), g.inRange →
    let r := (price lookup g cls e).result
    r.credit ≤ 1638375 ∧ r.bottles ≤ 24 ∧ (e.body.kind = .keg → r.credit ≤ 65535 ∧ r.bottles = 0) ∧
    (r.listed = false ∨ r.diverted = true → r.credit = 0 ∧ r.bottles = 0) ∧
    (r.diverted = true → r.causes ≠ 0)

/-- R83 to R92: one item's passage through the commit: unlisted, diverted, or credited to G or to X, with the
line, the float, the saturation at 2,147,483,647 and the sticky flags. -/
def Obligations.CommitPassage : Prop :=
  ∀ (en : Conditions) (floats : Vector Nat 8) (g : Segment) (i : CommitItem),
    let p := passage en floats g i
    let r := i.priced
    let divertedAs := fun (causes : Causes) => (⟨{ g with diverted := min 65535 (g.diverted + 1) }, none,
      .diverted, 0, causes⟩ : Passage)
    (r.listed = false →
      p = ⟨{ g with unlisted := min 65535 (g.unlisted + 1) }, none, .unlisted, 0, 0⟩) ∧
    (r.listed = true → r.diverted = true → p = divertedAs r.causes) ∧
    (r.listed = true → r.diverted = false →
      ∀ (toGross : Bool) (takes : Option Family),
      (toGross = true ↔ ∀ f, r.family = some f → 0 < floats[f]) →
      takes = (if toGross then r.family else none) →
      let target := if toGross then g.gross else g.excessCredit
      let tops := 2147483647 < target + r.credit
      let sum := min 2147483647 (target + r.credit)
      (tops → en.getLsbD 2 = true → p = divertedAs (r.causes ||| 0x04#7)) ∧
      (¬ tops ∨ en.getLsbD 2 = false →
        ∀ causes : Causes, causes = (if tops then r.causes ||| 0x04#7 else r.causes) →
        p.takes = takes ∧ p.credit = r.credit ∧ p.causes = causes ∧
        p.outcome = (if toGross then .credited else .excess) ∧
        p.segment = { g with
          lines := p.segment.lines
          overflow := p.segment.overflow
          gross := if toGross then sum else g.gross
          excessCredit := if toGross then g.excessCredit else sum
          excess := if toGross then g.excess else min 65535 (g.excess + 1)
          floatTaken := match takes with
            | some f => upd g.floatTaken f (fun n => min 16777215 (n + 1))
            | none => g.floatTaken
          sticky := g.sticky ||| causes.setWidth 3 } ∧
        ∀ add : Tally → Tally,
          (∀ t, add t = ⟨if i.condition = .sound then min 65535 (t.sound + 1) else t.sound,
            if i.condition = .damaged then min 65535 (t.damaged + 1) else t.damaged,
            if i.condition = .scrap then min 65535 (t.scrap + 1) else t.scrap,
            min 16777215 (t.bottles + r.bottles), min 4294967295 (t.credit + r.credit)⟩) →
          ((∃ x ∈ g.lines, x.tagCode = i.tagCode) →
            p.segment.overflow = g.overflow ∧
            p.segment.lines = g.lines.map (fun x =>
              if x.tagCode = i.tagCode then { x with tally := add x.tally } else x)) ∧
          ((∀ x ∈ g.lines, x.tagCode ≠ i.tagCode) → g.lines.length < 12 →
            p.segment.overflow = g.overflow ∧
            p.segment.lines = g.lines ++ [⟨i.tagCode, r.family, add ⟨0, 0, 0, 0, 0⟩⟩]) ∧
          ((∀ x ∈ g.lines, x.tagCode ≠ i.tagCode) → 12 ≤ g.lines.length →
            p.segment.lines = g.lines ∧ p.segment.overflow = add g.overflow)))

/-! ## Timers -/

/-- R14, R18, R173: the tick at every visit, in ascending order of slot: each visit's timer is counted, and where
the count makes the visit due, its expiry is taken before the next visit. R15, R16: open-time expiry; R20: grace
expiry. That the expiries are taken within the tick, and that an expiry leaves a visit alone that is not due, is
the model's reading (log 3). -/
def Obligations.TimerEvents : Prop :=
  ∀ s : State,
    (∃ t, exec .tick s = .next t ∧
      t = { s with
        visits := t.visits, lanes := t.lanes, items := t.items, lossCount := t.lossCount
        partFlags := t.partFlags, attention := t.attention, trunkTx := t.trunkTx
        settleWait := s.settleWait ++ (allVisits.filter (fun v =>
          s.visits[v].state != .settling &&
            (s.visits[v].ticked s.graceSeconds).state == .settling)).map s.visitTag } ∧
      (∀ v : VisitSlot, t.visits[v] = s.visits[v].ticked s.graceSeconds) ∧
      ((∀ v : VisitSlot, (s.visits[v].ticked s.graceSeconds).state = s.visits[v].state) →
        t = { s with visits := t.visits }) ∧
      (t.partFlag .visitExpired = true ↔ s.partFlag .visitExpired = true ∨
        ∃ v : VisitSlot, s.visits[v].state = .opened ∧
          (s.visits[v].ticked s.graceSeconds).state ≠ .opened)) ∧
    (∃ u : Nat → State, u 0 = s ∧ exec .tick s = .next (u 24) ∧ ∀ v : VisitSlot,
      let c := (u v.val).counted v
      let timeUp := c.visits[v].state = .opened ∧ c.visits[v].openLimit ≤ c.visits[v].elapsed
      let graceUp := c.visits[v].state = .closing ∧ c.visits[v].grace = 0
      (timeUp → exec (.openTimeExpiry v) c = .next (u (v.val + 1))) ∧
      (graceUp → exec (.graceExpiry v) c = .next (u (v.val + 1))) ∧
      (¬ timeUp → ¬ graceUp → u (v.val + 1) = c)) ∧
    ∀ v : VisitSlot,
      (¬ (s.visits[v].state = .opened ∧ s.visits[v].openLimit ≤ s.visits[v].elapsed) →
        exec (.openTimeExpiry v) s = .next s) ∧
      (s.visits[v].state = .opened → s.visits[v].openLimit ≤ s.visits[v].elapsed →
        exec (.openTimeExpiry v) s = .next (State.finish { s with
          lanes := s.lanesWithout s.visits[v].laneSet
          visits := upd s.visits v (fun r => r.left .expired s.graceSeconds)
          settleWait := s.waitAfter v s.visits[v].tagged
          partFlags := s.partFlags ||| 0x02#7 })) ∧
      (¬ (s.visits[v].state = .closing ∧ s.visits[v].grace = 0) → exec (.graceExpiry v) s = .next s) ∧
      (s.visits[v].state = .closing → s.visits[v].grace = 0 →
        ∃ t, exec (.graceExpiry v) s = .next t ∧
          t = State.finish { s with
            lanes := t.lanes, items := t.items, lossCount := t.lossCount, partFlags := t.partFlags
            visits := upd s.visits v (fun r => { r with tagged := 0, state := .settling, grace := 0 })
            settleWait := s.settleWait ++ [s.visitTag v] } ∧
          (∀ l : Lane,
            let gone := s.lanes[l].chosenCount (Choice.ofVisit (s.visitTag v))
            let queue := s.lanes[l].queue.filter (fun e => e.tag != some (s.visitTag v))
            (gone = 0 → t.lanes[l] = s.lanes[l]) ∧
            (0 < gone → t.lanes[l] = { s.lanes[l] with
              queue := queue
              context := s.lanes[l].context.filter (fun c => c.tag != s.visitTag v)
              hold := s.lanes[l].holdFor queue.length
              passCount := if queue.isEmpty then 0 else s.lanes[l].passCount
              abandoned := min 65535 (s.lanes[l].abandoned + gone)
              flags := s.lanes[l].flags ||| 0x100#10 })) ∧
          s.Recorded t (s.reported .abandoned (Choice.ofVisit (s.visitTag v))) ∧
          ∀ f : PartFlag, f ≠ .itemLoss → t.partFlag f = s.partFlag f)

/-! ## Settlement -/

/-- R147, R148, R153, R154: a settlement settles the head visit whole, each segment in order against its
account as the segments before it left it, places one record per segment, and frees the visit with its use
counts and its pin. That SETTLEMENT without a head, or without room for all its records, changes nothing is the
model's choice (log 4). -/
def Obligations.SettlementSettlesHead : Prop :=
  ∀ s : State,
    (s.settleWait = [] → exec .settlement s = .next s) ∧
    ∀ (u : VisitTag) (rest : List VisitTag), s.settleWait = u :: rest →
      (8 - s.settlementQueue.length < s.visits[u.slot].segments.length → exec .settlement s = .next s) ∧
      ∀ (r : Visit) (pin : Pin) (g : Generation), s.visits[u.slot] = r → r.state = .settling →
        r.number = u.number → r.pin = some pin → s.tariffs[pin.slot].contents = some g →
        r.segments.length ≤ 8 - s.settlementQueue.length →
        ∃ (t : State) (records : List SettlementRecord), exec .settlement s = .next t ∧
          t = { s with
            accounts := t.accounts, partFlags := t.partFlags, attention := t.attention
            trunkTx := t.trunkTx
            settlementQueue := s.settlementQueue ++ records.map .settled
            settleWait := rest
            tariffs := upd s.tariffs pin.slot (fun x => x.released 1)
            visits := upd s.visits u.slot (fun _ => Visit.free) } ∧
          (∀ a : AccountSlot, t.accounts[a] =
            { s.accounts[a].settledThrough g.header a r.segments with
              useCount := s.accounts[a].useCount - r.uses a }) ∧
          records.length = r.segments.length ∧
          (∀ (k : Nat) (seg : Segment), r.segments[k]? = some seg →
            let m := amountsOf g.header
              (s.accounts[seg.accountSlot].settledThrough g.header seg.accountSlot (r.segments.take k)) seg
            records[k]? = some
              { visit := u.number, index := k, count := r.segments.length, generation := pin.generation
                cause := r.cause, frozen := m.frozen, fee := m.fee, payout := m.payout
                heldAdded := m.heldAdded, unplaced := m.unplaced
                segment := { seg with
                  sticky := if (seg.gross * g.header.fees.of seg.cls) % 10000 = 0 then seg.sticky
                    else seg.sticky ||| 0x1#3 } }) ∧
          (t.partFlag .heldOverflow = true ↔
            s.partFlag .heldOverflow = true ∨ ∃ x ∈ records, 0 < x.unplaced) ∧
          (t.partFlag .tariffRetired = true ↔ s.partFlag .tariffRetired = true ∨
            ∃ g' n, s.tariffs[pin.slot] = .retiring g' n ∧ n ≤ 1) ∧
          ∀ f : PartFlag, f ≠ .heldOverflow → f ≠ .tariffRetired → t.partFlag f = s.partFlag f

/-- R149 to R152: the amounts of one segment. The fee is rounded and never above G; the payout is bounded by
the room and 0 for a frozen account; payout + fee + held-added + unplaced equals gross + excess; and an amount
is unplaced only where the held balance stands at its top. -/
def Obligations.SettlementAmounts : Prop :=
  ∀ (h : TariffHeader) (a : Account) (g : Segment), h.fees.within 10000 → a.held ≤ 4294967295 →
    let m := amountsOf h a g
    let fee := match g.cls with
      | .a => h.fees.a
      | .b => h.fees.b
      | .c => h.fees.c
      | .d => h.fees.d
    m.fee = roundDiv h.mode (g.gross * fee) 10000 ∧ m.fee ≤ g.gross ∧ m.net = g.gross - m.fee ∧
    m.frozen = a.frozen ∧ (a.frozen = true → m.payout = 0) ∧
    (a.frozen = false → a.ceiling ≤ a.paidToday → m.payout = 0) ∧
    (a.frozen = false → a.paidToday < a.ceiling → m.payout = min m.net (a.ceiling - a.paidToday)) ∧
    m.held = m.net - m.payout + g.excessCredit ∧
    m.payout + m.fee + m.heldAdded + m.unplaced = g.gross + g.excessCredit ∧
    a.held + m.heldAdded ≤ 4294967295 ∧ (0 < m.unplaced → a.held + m.heldAdded = 4294967295) ∧
    (a.settle m).paidToday = a.paidToday + m.payout ∧ (a.settle m).held = a.held + m.heldAdded ∧
    (a.settle m).paidToday ≤ max a.paidToday a.ceiling ∧
    (fee = 0 → m.fee = 0) ∧ (fee = 10000 → m.fee = g.gross)

/-! ## Completions -/

/-- The frames the part sends, and their completions (R50, R179, R182, R185, R188 to R193). A first frame has
address 0, the kind of its message, the request tag or 0, attention and continued as flag bits 0 and 1, the check,
and the payload laid out field by field; the second frame of a message with count lines has the kind and the tag
of the first, the continued bit clear, and the line count and the count lines. A completed message frees its entry
and the transmitter chooses again. A completion with nothing of its kind on the line changes nothing: the model's
choice (log 4). The details of responses are laid out by R188 and R185; where they leave a layout or a width open
it is the model's choice (logs 8 to 12, 24 and 26). -/
def Obligations.FramesComplete : Prop :=
  let be := fun (width n : Nat) =>
    (List.range width).map (fun i => BitVec.ofNat 8 (n / 256 ^ (width - 1 - i)))
  let flag := fun b : Bool => be 1 (if b then 1 else 0)
  let family := fun f : Option Family => be 1 (match f with | some f => f.val | none => 255)
  let cls := fun k : CustomerClass => be 1 (match k with | .a => 0 | .b => 1 | .c => 2 | .d => 3)
  let cause := fun c : CloseCause => be 1 (match c with | .notClosed => 0 | .requested => 1 | .expired => 2)
  let visit := fun x : VisitState => be 1 (match x with | .free => 0 | .opened => 1 | .closing => 2 | .settling => 3)
  let lane := fun x : LaneState => be 1 (match x with | .disabled => 0 | .idle => 1 | .bound _ => 2)
  let kind := fun k : ReadKind => be 1 (match k with | .crate => 0 | .keg => 1)
  let slot := fun x : TariffState => be 1 (match x with | .empty => 0 | .pending => 1 | .active => 2 | .retiring => 3)
  let four := fun p : PerClass => be 2 p.a ++ be 2 p.b ++ be 2 p.c ++ be 2 p.d
  let masks := fun v : Vector LaneFlags 6 => v.toList.flatMap (fun x => be 2 x.toNat)
  let tally := fun x : Tally => be 2 x.sound ++ be 2 x.damaged ++ be 2 x.scrap ++ be 3 x.bottles ++ be 4 x.credit
  let line := fun x : CountLine => be 2 x.tagCode ++ family x.family ++ tally x.tally
  let account := fun r : AccountReport =>
    be 3 r.number ++ cls r.cls ++ flag r.frozen ++ r.floats.toList.flatMap (be 2) ++ be 4 r.held ++
      be 4 r.paidToday ++ be 4 r.ceiling ++ be 4 r.room ++ be 1 r.useCount
  let header := fun r : VisitReport =>
    be 2 r.number ++ be 1 r.slot.val ++ visit r.state ++ cause r.cause ++
      (match r.pin with | some p => be 1 p.slot.val ++ be 2 p.generation | none => be 3 0) ++
      be 1 r.laneSet.toNat ++ be 1 r.minutes ++ be 2 r.elapsed ++ be 1 r.grace ++ be 2 r.tagged ++ be 1 r.segments
  let codes : List ResponseCode := [.ok, .malformed, .unknownRequest, .noEntry, .duplicate, .tableFull,
    .queueFull, .laneHeld, .laneDisabled, .inUse, .wrongState, .tariffBusy, .checkMismatch, .noTariff,
    .segmentsFull, .tooLate, .frozen, .visitsFull]
  -- the frames of every message
  (∀ (m : Message) (attention : Bool),
    let f := m.firstFrame attention
    f.address = 0 ∧
    f.flags = BitVec.ofNat 8 ((if attention then 1 else 0) + (if m.lines = [] then 0 else 2)) ∧
    f.check = crc ([0, f.kind, f.tag, f.flags, BitVec.ofNat 8 f.payload.length] ++ f.payload)) ∧
  (∀ (r : Response) (attention : Bool),
    let f := (Message.response r).firstFrame attention
    f.kind = 0x41#8 ∧ f.tag = r.tag ∧
    ∃ k, codes[k]? = some r.code ∧ f.payload = r.request :: (be 1 k ++ r.detail.bytes)) ∧
  (∀ (r : SettlementRecord) (attention : Bool),
    let f := (Message.settlement (.settled r)).firstFrame attention
    let g := r.segment
    f.kind = 0x50#8 ∧ f.tag = 0 ∧ f.payload.length = 81 ∧ f.payload =
      be 2 r.visit ++ be 1 r.index ++ be 1 r.count ++ be 3 g.accountNumber ++ cls g.cls ++ be 2 r.generation ++
      cause r.cause ++ be 1 g.lines.length ++ flag r.frozen ++ be 1 g.sticky.toNat ++ tally g.overflow ++
      be 2 g.unlisted ++ be 2 g.diverted ++ be 2 g.excess ++ g.floatTaken.toList.flatMap (be 3) ++ be 4 g.gross ++
      be 4 g.excessCredit ++ be 4 r.fee ++ be 4 r.payout ++ be 4 r.heldAdded ++ be 4 r.unplaced) ∧
  (∀ (number amount held : Nat) (attention : Bool),
    let f := (Message.settlement (.release number amount held)).firstFrame attention
    f.kind = 0x51#8 ∧ f.tag = 0 ∧ f.payload.length = 11 ∧ f.payload = be 3 number ++ be 4 amount ++ be 4 held) ∧
  (∀ (r : ItemRecord) (attention : Bool),
    let f := (Message.item (.item r)).firstFrame attention
    let outcome := match r.outcome with
      | .credited => 0
      | .excess => 1
      | .diverted => 2
      | .unlisted => 3
      | .orphan => 4
      | .cancelled => 5
      | .abandoned => 6
    f.kind = 0x52#8 ∧ f.tag = 0 ∧ f.payload.length = 13 ∧ f.payload =
      be 1 r.lane.val ++ be 2 r.visit ++ be 1 r.segment ++ be 2 r.tagCode ++ be 1 outcome ++
      be 1 r.causes.toNat ++ be 3 r.credit ++
      (match r.stack with | some (n, p) => be 1 n ++ be 1 p | none => be 2 0)) ∧
  (∀ (l : Lane) (bytes : List Byte) (attention : Bool),
    let f := (Message.item (.notice l bytes)).firstFrame attention
    f.kind = 0x53#8 ∧ f.tag = 0 ∧ f.payload = be 1 l.val ++ bytes) ∧
  -- the details of responses
  (∀ d : Detail,
    (∀ n x k es, d = .visitCancelled n x k es → es.length ≤ 8) →
    (∀ r, d = .laneReport r → r.pendingStacks.length ≤ 49) →
    (∀ r, d = .status r → r.visits.length = 24 ∧ r.tariffs.length = 2) →
    d.bytes.length ≤ 198) ∧
  (∃ widths : List Nat, widths.length = 9 ∧ (∀ w ∈ widths, 1 ≤ w ∧ w ≤ 4) ∧
    Detail.bytes (.identity 1826 624 1 [6, 24, 64, 2, 16, 256, 8, 12, 8]) = be 2 1826 ++ be 2 624 ++ be 2 1 ++
      (List.zipWith be widths [6, 24, 64, 2, 16, 256, 8, 12, 8]).flatten ∧
    ∀ w, widths[5]? = some w → 2 ≤ w) ∧
  Detail.empty.bytes = [] ∧ (∀ c, (Detail.unknownCode c).bytes = [c]) ∧
  (∀ n v g m ls, (Detail.visitOpened n v g m ls).bytes =
    be 2 n ++ be 1 v.val ++ be 2 g ++ be 1 m ++ be 1 ls.toNat) ∧
  (∀ l, (Detail.lane l).bytes = be 1 l.val) ∧ (∀ x, (Detail.visitState x).bytes = visit x) ∧
  (Detail.missing .visit).bytes = be 1 0 ∧ (Detail.missing .account).bytes = be 1 1 ∧
  (∀ ls, (Detail.laneSet ls).bytes = be 1 ls.toNat) ∧
  (∀ i n, (Detail.segmentAdded i n).bytes = be 1 i ++ be 1 n) ∧
  (∀ x n g, (Detail.visitClosed x n g).bytes = visit x ++ be 2 n ++ be 1 g) ∧
  (∀ n x k es, (Detail.visitCancelled n x k es).bytes = be 2 n ++ visit x ++ be 2 k ++ be 1 es.length ++
    es.flatMap (fun e => be 3 e.account ++ be 4 e.committed ++ be 2 e.unlisted ++ be 2 e.diverted ++
      be 2 e.excess ++ be 4 e.returned)) ∧
  Detail.visitFree.bytes = be 1 0 ∧ (∀ r, (Detail.visitHeader r).bytes = header r) ∧
  (∀ r g, (Detail.visitSegment r g).bytes = header r ++ be 3 g.accountNumber ++ be 1 g.accountSlot.val ++
    cls g.cls ++ be 1 g.lines.length ++ tally g.overflow ++ be 2 g.unlisted ++ be 2 g.diverted ++
    be 2 g.excess ++ be 4 g.gross ++ be 4 g.excessCredit ++ g.floatTaken.toList.flatMap (be 3) ++
    be 1 g.sticky.toNat) ∧
  (∀ x q n, (Detail.laneBusy x q n).bytes = lane x ++ be 1 q ++ be 1 n) ∧
  (∀ x k n b, (Detail.laneConfigured x k n b).bytes = lane x ++ kind k ++ be 1 n ++ flag b) ∧
  (∀ n, (Detail.itemsRemoved n).bytes = be 1 n) ∧
  (∀ r, (Detail.laneReport r).bytes = lane r.state ++
    (match r.state with | .bound u => be 2 u.number ++ be 1 u.slot.val | .disabled => be 3 0 | .idle => be 3 0) ++
    kind r.kind ++ be 1 r.level ++ flag r.reporting ++ be 1 r.queued ++ flag r.hold ++
    be 1 r.pendingStacks.length ++ r.pendingStacks.flatMap (be 1) ++ be 1 r.staged ++
    (match r.context with | some (n, v, k) => be 1 n ++ be 2 v ++ be 1 k | none => be 4 0) ++
    be 1 r.transmitting ++ be 1 r.passCount ++ be 1 r.effectiveLevel ++ be 2 r.accepted ++ be 2 r.frameErrors ++
    be 2 r.overruns ++ be 2 r.orphans ++ be 2 r.abandoned ++ be 2 r.downLosses ++ be 2 r.flags.toNat) ∧
  (∀ c n, (Detail.typeRefused c n).bytes = be 2 c ++ be 1 n) ∧
  (∀ b i n, (Detail.typeWritten b i n).bytes = flag b ++ be 1 i ++ be 1 n) ∧
  (∀ n, (Detail.typeCount n).bytes = be 1 n) ∧ (∀ i n, (Detail.typeDeleted i n).bytes = be 1 i ++ be 1 n) ∧
  (∀ n i, (Detail.typeAbsent n i).bytes = be 1 n ++ be 1 i) ∧
  (∀ i n e, (Detail.typeReport i n e).bytes = be 1 i ++ be 1 n ++ be 2 e.tagCode ++
    (match e.body with
      | .crate f map => be 1 0 ++ be 1 f.val ++ be 1 e.schedule.val ++ be 3 map.toNat
      | .pool map => be 1 1 ++ be 1 255 ++ be 1 e.schedule.val ++ be 3 map.toNat
      | .keg f k => be 1 2 ++ be 1 f.val ++ be 1 e.schedule.val ++ be 2 k.tare ++ be 2 k.tolerance ++
        be 2 k.fullLimit ++ be 2 k.lightLimit)) ∧
  (∀ t x g, (Detail.headerWritten t x g).bytes = be 1 t.val ++ slot x ++ be 2 g) ∧
  (∀ t k x, (Detail.scheduleWritten t k x).bytes = be 1 t.val ++ be 1 k ++ slot x) ∧
  (∀ t g n, (Detail.tariffBusy t g n).bytes = be 1 t.val ++ be 2 g ++ be 1 n) ∧
  (∀ t, (Detail.tariffEmpty t).bytes = be 1 t.val ++ be 1 0 ++ be 1 0) ∧
  (∀ t x n h d c, (Detail.tariffHeader t x n h d c).bytes = be 1 t.val ++ slot x ++ be 1 n ++ be 2 h.generation ++
    be 1 (match h.mode with | .nearestEven => 0 | .nearestUp => 1 | .down => 2 | .up => 3) ++ four h.fees ++
    be 1 h.enables.toNat ++ be 2 d.toNat ++ be 2 c) ∧
  (∀ t x n y, (Detail.tariffSchedule t x n y).bytes = be 1 t.val ++ slot x ++ be 1 n ++ flag y.defined ++
    four y.deposits ++ be 2 y.bottle ++ be 1 y.damaged ++ be 2 y.ullage) ∧
  (∀ x g y h, (Detail.tariffStates x g y h).bytes = slot x ++ be 2 g ++ slot y ++ be 2 h) ∧
  (∀ t e c, (Detail.checkMismatch t e c).bytes = be 1 t.val ++ be 2 e ++ be 2 c) ∧
  (∀ t g c o, (Detail.promoted t g c o).bytes = be 1 t.val ++ be 2 g ++ be 2 c ++
    (match o with | some (o, x, n) => be 1 o.val ++ slot x ++ be 1 n | none => be 3 0)) ∧
  (∀ t, (Detail.pendingDiscarded t).bytes = be 1 t.val) ∧
  (∀ a, (Detail.accountHolder a).bytes = be 1 a.val) ∧
  (∀ n k, (Detail.accountInUse n k).bytes = be 3 n ++ be 1 k) ∧
  (∀ x r, (Detail.accountWritten x r).bytes = be 1 r.slot.val ++
    be 1 (match x with | .created => 0 | .updated => 1 | .renumbered => 2) ++ account r) ∧
  (∀ k, (Detail.deleteUse k).bytes = be 1 k ++ be 1 0) ∧ (∀ n, (Detail.deleteHeld n).bytes = be 4 n ++ be 1 1) ∧
  (∀ a fs n, (Detail.accountDeleted a fs n).bytes = be 1 a.val ++ fs.toList.flatMap (be 2) ++ be 4 n) ∧
  (∀ r, (Detail.accountReport r).bytes = be 1 r.slot.val ++ account r) ∧
  (∀ f n m k, (Detail.containersIssued f n m k).bytes = be 1 f.val ++ be 2 n ++ be 2 m ++ be 2 k) ∧
  (∀ f n m, (Detail.floatSet f n m).bytes = be 1 f.val ++ be 2 n ++ be 2 m) ∧
  (∀ p n r a, (Detail.freezeRun p n r a).bytes = be 2 p ++ be 2 n ++ be 2 r ++ be 2 a) ∧
  (∀ x n, (Detail.dayClosed x n).bytes = be 4 x ++ be 2 n) ∧ (∀ n, (Detail.heldBalance n).bytes = be 4 n) ∧
  (∀ a n p, (Detail.released a n p).bytes = be 4 a ++ be 4 n ++ be 4 p) ∧
  (∀ r, (Detail.status r).bytes = be 1 r.partFlags.toNat ++ masks r.laneFlags ++ be 1 r.partMasks.toNat ++
    masks r.laneMasks ++ flag r.attention ++ be 2 r.lossCount ++
    r.visits.flatMap (fun x => visit x.1 ++ be 2 x.2) ++
    r.tariffs.flatMap (fun x => slot x.1 ++ be 2 x.2.1 ++ be 1 x.2.2) ++ be 1 r.grace ++ be 1 r.aging) ∧
  (∀ p ls b, (Detail.masks p ls b).bytes = be 1 p.toNat ++ masks ls ++ flag b) ∧
  (∀ g a, (Detail.parameters g a).bytes = be 1 g ++ be 1 a) ∧
  (∀ c k i r p, (Detail.partReset c k i r p).bytes = be 1 c ++ be 1 k ++ be 2 i ++ be 1 r ++ be 1 p) ∧
  -- the completions
  ∀ s : State,
    (∀ l : Lane, exec (.laneFrameCompletion l) s = .next { s with
      lanes := upd s.lanes l (fun p => { p with txQueue := p.txQueue.drop 1 }) }) ∧
    (s.trunkTx = .idle →
      exec .firstFrameCompletion s = .next s ∧ exec .messageCompletion s = .next s) ∧
    (∀ (q : TrunkQueue) (part : FramePart) (f : Frame), s.trunkTx = .sending q part f →
      (part ≠ .first → exec .firstFrameCompletion s = .next s) ∧
      (part = .first → exec .messageCompletion s = .next s) ∧
      (part = .first → ∀ m : Message, s.oldest q = some m →
        let flags : Byte := if s.attention then 1 else 0
        let payload := be 1 m.lines.length ++ m.lines.flatMap line
        exec .firstFrameCompletion s = .next { s with
          trunkTx := .sending q .second
            { address := 0, kind := (m.firstFrame s.attention).kind, tag := (m.firstFrame s.attention).tag
              flags := flags, payload := payload
              check := crc ([0, (m.firstFrame s.attention).kind, (m.firstFrame s.attention).tag, flags,
                BitVec.ofNat 8 payload.length] ++ payload) } } ∧
        payload.length = 1 + 16 * m.lines.length) ∧
      (part ≠ .first → exec .messageCompletion s = .next (State.finish { s with
        responses := if q = .responses then s.responses.drop 1 else s.responses
        settlementQueue := if q = .settlements then s.settlementQueue.drop 1 else s.settlementQueue
        items := if q = .items then s.items.drop 1 else s.items
        trunkTx := .idle })))

end
end

