-- ==== Sys2Proof/Laws/State.lean ====
section
/-! SUPPORT. For each elementary update of State, one lemma per field: the field it changes takes the value it
names, and every other field is kept. No later proof unfolds a record update. -/

namespace Sys2Proof.Machine

variable (s : State)

/-! ## Tables -/

@[simp] theorem upd_same {α : Type} {n : Nat} (v : Vector α n) (i : Fin n) (f : α → α) :
    (upd v i f)[i] = f v[i] := by
  simp [upd]

theorem upd_other {α : Type} {n : Nat} (v : Vector α n) (i j : Fin n) (f : α → α) (h : j ≠ i) :
    (upd v i f)[j] = v[j] := by
  have : i.val ≠ j.val := fun e => h (Fin.ext e.symm)
  simp [upd, this]

theorem upd_get {α : Type} {n : Nat} (v : Vector α n) (i j : Fin n) (f : α → α) :
    (upd v i f)[j] = if j = i then f v[i] else v[j] := by
  by_cases h : j = i
  · rw [if_pos h, h, upd_same]
  · rw [if_neg h, upd_other v i j f h]

@[simp] theorem updAll_get {α β : Type} {n : Nat} (v : Vector α n) (f : α → β) (i : Fin n) :
    (updAll v f)[i] = f v[i] := by
  simp [updAll]

theorem satAdd_le_top (top a b : Nat) : satAdd top a b ≤ top := Nat.min_le_left _ _

theorem le_satAdd (top a b : Nat) (h : a ≤ top) : a ≤ satAdd top a b := by
  unfold satAdd; omega

theorem mem_allLanes (l : Lane) : l ∈ allLanes := by revert l; decide

theorem mem_allFamilies (f : Family) : f ∈ allFamilies := by revert f; decide

theorem mem_allVisits (v : VisitSlot) : v ∈ allVisits := List.mem_finRange v

theorem mem_allAccounts (a : AccountSlot) : a ∈ allAccounts := List.mem_finRange a

/-! ## modifyLane -/

@[simp] theorem State.modifyLane_lanes (l : Lane) (f : LanePort → LanePort) :
    (s.modifyLane l f).lanes = upd s.lanes l f := rfl
@[simp] theorem State.modifyLane_lastGranted (l : Lane) (f : LanePort → LanePort) :
    (s.modifyLane l f).lastGranted = s.lastGranted := rfl
@[simp] theorem State.modifyLane_types (l : Lane) (f : LanePort → LanePort) :
    (s.modifyLane l f).types = s.types := rfl
@[simp] theorem State.modifyLane_tariffs (l : Lane) (f : LanePort → LanePort) :
    (s.modifyLane l f).tariffs = s.tariffs := rfl
@[simp] theorem State.modifyLane_accounts (l : Lane) (f : LanePort → LanePort) :
    (s.modifyLane l f).accounts = s.accounts := rfl
@[simp] theorem State.modifyLane_visits (l : Lane) (f : LanePort → LanePort) :
    (s.modifyLane l f).visits = s.visits := rfl
@[simp] theorem State.modifyLane_settleWait (l : Lane) (f : LanePort → LanePort) :
    (s.modifyLane l f).settleWait = s.settleWait := rfl
@[simp] theorem State.modifyLane_settlementQueue (l : Lane) (f : LanePort → LanePort) :
    (s.modifyLane l f).settlementQueue = s.settlementQueue := rfl
@[simp] theorem State.modifyLane_responses (l : Lane) (f : LanePort → LanePort) :
    (s.modifyLane l f).responses = s.responses := rfl
@[simp] theorem State.modifyLane_items (l : Lane) (f : LanePort → LanePort) :
    (s.modifyLane l f).items = s.items := rfl
@[simp] theorem State.modifyLane_lossCount (l : Lane) (f : LanePort → LanePort) :
    (s.modifyLane l f).lossCount = s.lossCount := rfl
@[simp] theorem State.modifyLane_trunkRx (l : Lane) (f : LanePort → LanePort) :
    (s.modifyLane l f).trunkRx = s.trunkRx := rfl
@[simp] theorem State.modifyLane_trunkTx (l : Lane) (f : LanePort → LanePort) :
    (s.modifyLane l f).trunkTx = s.trunkTx := rfl
@[simp] theorem State.modifyLane_partFlags (l : Lane) (f : LanePort → LanePort) :
    (s.modifyLane l f).partFlags = s.partFlags := rfl
@[simp] theorem State.modifyLane_partMasks (l : Lane) (f : LanePort → LanePort) :
    (s.modifyLane l f).partMasks = s.partMasks := rfl
@[simp] theorem State.modifyLane_laneMasks (l : Lane) (f : LanePort → LanePort) :
    (s.modifyLane l f).laneMasks = s.laneMasks := rfl
@[simp] theorem State.modifyLane_attention (l : Lane) (f : LanePort → LanePort) :
    (s.modifyLane l f).attention = s.attention := rfl
@[simp] theorem State.modifyLane_graceSeconds (l : Lane) (f : LanePort → LanePort) :
    (s.modifyLane l f).graceSeconds = s.graceSeconds := rfl
@[simp] theorem State.modifyLane_agingLimit (l : Lane) (f : LanePort → LanePort) :
    (s.modifyLane l f).agingLimit = s.agingLimit := rfl
@[simp] theorem State.modifyLane_visitCounter (l : Lane) (f : LanePort → LanePort) :
    (s.modifyLane l f).visitCounter = s.visitCounter := rfl
@[simp] theorem State.modifyLane_freeIndex (l : Lane) (f : LanePort → LanePort) :
    (s.modifyLane l f).freeIndex = s.freeIndex := rfl
@[simp] theorem State.modifyLane_pending (l : Lane) (f : LanePort → LanePort) :
    (s.modifyLane l f).pending = s.pending := rfl

/-! ## mapLanes -/

@[simp] theorem State.mapLanes_lanes (f : Lane → LanePort → LanePort) :
    (s.mapLanes f).lanes = Vector.ofFn (fun l => f l s.lanes[l]) := rfl
@[simp] theorem State.mapLanes_lastGranted (f : Lane → LanePort → LanePort) :
    (s.mapLanes f).lastGranted = s.lastGranted := rfl
@[simp] theorem State.mapLanes_types (f : Lane → LanePort → LanePort) : (s.mapLanes f).types = s.types := rfl
@[simp] theorem State.mapLanes_tariffs (f : Lane → LanePort → LanePort) :
    (s.mapLanes f).tariffs = s.tariffs := rfl
@[simp] theorem State.mapLanes_accounts (f : Lane → LanePort → LanePort) :
    (s.mapLanes f).accounts = s.accounts := rfl
@[simp] theorem State.mapLanes_visits (f : Lane → LanePort → LanePort) :
    (s.mapLanes f).visits = s.visits := rfl
@[simp] theorem State.mapLanes_settleWait (f : Lane → LanePort → LanePort) :
    (s.mapLanes f).settleWait = s.settleWait := rfl
@[simp] theorem State.mapLanes_settlementQueue (f : Lane → LanePort → LanePort) :
    (s.mapLanes f).settlementQueue = s.settlementQueue := rfl
@[simp] theorem State.mapLanes_responses (f : Lane → LanePort → LanePort) :
    (s.mapLanes f).responses = s.responses := rfl
@[simp] theorem State.mapLanes_items (f : Lane → LanePort → LanePort) : (s.mapLanes f).items = s.items := rfl
@[simp] theorem State.mapLanes_lossCount (f : Lane → LanePort → LanePort) :
    (s.mapLanes f).lossCount = s.lossCount := rfl
@[simp] theorem State.mapLanes_trunkRx (f : Lane → LanePort → LanePort) :
    (s.mapLanes f).trunkRx = s.trunkRx := rfl
@[simp] theorem State.mapLanes_trunkTx (f : Lane → LanePort → LanePort) :
    (s.mapLanes f).trunkTx = s.trunkTx := rfl
@[simp] theorem State.mapLanes_partFlags (f : Lane → LanePort → LanePort) :
    (s.mapLanes f).partFlags = s.partFlags := rfl
@[simp] theorem State.mapLanes_partMasks (f : Lane → LanePort → LanePort) :
    (s.mapLanes f).partMasks = s.partMasks := rfl
@[simp] theorem State.mapLanes_laneMasks (f : Lane → LanePort → LanePort) :
    (s.mapLanes f).laneMasks = s.laneMasks := rfl
@[simp] theorem State.mapLanes_attention (f : Lane → LanePort → LanePort) :
    (s.mapLanes f).attention = s.attention := rfl
@[simp] theorem State.mapLanes_graceSeconds (f : Lane → LanePort → LanePort) :
    (s.mapLanes f).graceSeconds = s.graceSeconds := rfl
@[simp] theorem State.mapLanes_agingLimit (f : Lane → LanePort → LanePort) :
    (s.mapLanes f).agingLimit = s.agingLimit := rfl
@[simp] theorem State.mapLanes_visitCounter (f : Lane → LanePort → LanePort) :
    (s.mapLanes f).visitCounter = s.visitCounter := rfl
@[simp] theorem State.mapLanes_freeIndex (f : Lane → LanePort → LanePort) :
    (s.mapLanes f).freeIndex = s.freeIndex := rfl
@[simp] theorem State.mapLanes_pending (f : Lane → LanePort → LanePort) :
    (s.mapLanes f).pending = s.pending := rfl

/-! ## modifyVisit -/

@[simp] theorem State.modifyVisit_lanes (v : VisitSlot) (f : Visit → Visit) :
    (s.modifyVisit v f).lanes = s.lanes := rfl
@[simp] theorem State.modifyVisit_lastGranted (v : VisitSlot) (f : Visit → Visit) :
    (s.modifyVisit v f).lastGranted = s.lastGranted := rfl
@[simp] theorem State.modifyVisit_types (v : VisitSlot) (f : Visit → Visit) :
    (s.modifyVisit v f).types = s.types := rfl
@[simp] theorem State.modifyVisit_tariffs (v : VisitSlot) (f : Visit → Visit) :
    (s.modifyVisit v f).tariffs = s.tariffs := rfl
@[simp] theorem State.modifyVisit_accounts (v : VisitSlot) (f : Visit → Visit) :
    (s.modifyVisit v f).accounts = s.accounts := rfl
@[simp] theorem State.modifyVisit_visits (v : VisitSlot) (f : Visit → Visit) :
    (s.modifyVisit v f).visits = upd s.visits v f := rfl
@[simp] theorem State.modifyVisit_settleWait (v : VisitSlot) (f : Visit → Visit) :
    (s.modifyVisit v f).settleWait = s.settleWait := rfl
@[simp] theorem State.modifyVisit_settlementQueue (v : VisitSlot) (f : Visit → Visit) :
    (s.modifyVisit v f).settlementQueue = s.settlementQueue := rfl
@[simp] theorem State.modifyVisit_responses (v : VisitSlot) (f : Visit → Visit) :
    (s.modifyVisit v f).responses = s.responses := rfl
@[simp] theorem State.modifyVisit_items (v : VisitSlot) (f : Visit → Visit) :
    (s.modifyVisit v f).items = s.items := rfl
@[simp] theorem State.modifyVisit_lossCount (v : VisitSlot) (f : Visit → Visit) :
    (s.modifyVisit v f).lossCount = s.lossCount := rfl
@[simp] theorem State.modifyVisit_trunkRx (v : VisitSlot) (f : Visit → Visit) :
    (s.modifyVisit v f).trunkRx = s.trunkRx := rfl
@[simp] theorem State.modifyVisit_trunkTx (v : VisitSlot) (f : Visit → Visit) :
    (s.modifyVisit v f).trunkTx = s.trunkTx := rfl
@[simp] theorem State.modifyVisit_partFlags (v : VisitSlot) (f : Visit → Visit) :
    (s.modifyVisit v f).partFlags = s.partFlags := rfl
@[simp] theorem State.modifyVisit_partMasks (v : VisitSlot) (f : Visit → Visit) :
    (s.modifyVisit v f).partMasks = s.partMasks := rfl
@[simp] theorem State.modifyVisit_laneMasks (v : VisitSlot) (f : Visit → Visit) :
    (s.modifyVisit v f).laneMasks = s.laneMasks := rfl
@[simp] theorem State.modifyVisit_attention (v : VisitSlot) (f : Visit → Visit) :
    (s.modifyVisit v f).attention = s.attention := rfl
@[simp] theorem State.modifyVisit_graceSeconds (v : VisitSlot) (f : Visit → Visit) :
    (s.modifyVisit v f).graceSeconds = s.graceSeconds := rfl
@[simp] theorem State.modifyVisit_agingLimit (v : VisitSlot) (f : Visit → Visit) :
    (s.modifyVisit v f).agingLimit = s.agingLimit := rfl
@[simp] theorem State.modifyVisit_visitCounter (v : VisitSlot) (f : Visit → Visit) :
    (s.modifyVisit v f).visitCounter = s.visitCounter := rfl
@[simp] theorem State.modifyVisit_freeIndex (v : VisitSlot) (f : Visit → Visit) :
    (s.modifyVisit v f).freeIndex = s.freeIndex := rfl
@[simp] theorem State.modifyVisit_pending (v : VisitSlot) (f : Visit → Visit) :
    (s.modifyVisit v f).pending = s.pending := rfl

/-! ## modifyAccount -/

@[simp] theorem State.modifyAccount_lanes (a : AccountSlot) (f : Account → Account) :
    (s.modifyAccount a f).lanes = s.lanes := rfl
@[simp] theorem State.modifyAccount_lastGranted (a : AccountSlot) (f : Account → Account) :
    (s.modifyAccount a f).lastGranted = s.lastGranted := rfl
@[simp] theorem State.modifyAccount_types (a : AccountSlot) (f : Account → Account) :
    (s.modifyAccount a f).types = s.types := rfl
@[simp] theorem State.modifyAccount_tariffs (a : AccountSlot) (f : Account → Account) :
    (s.modifyAccount a f).tariffs = s.tariffs := rfl
@[simp] theorem State.modifyAccount_accounts (a : AccountSlot) (f : Account → Account) :
    (s.modifyAccount a f).accounts = upd s.accounts a f := rfl
@[simp] theorem State.modifyAccount_visits (a : AccountSlot) (f : Account → Account) :
    (s.modifyAccount a f).visits = s.visits := rfl
@[simp] theorem State.modifyAccount_settleWait (a : AccountSlot) (f : Account → Account) :
    (s.modifyAccount a f).settleWait = s.settleWait := rfl
@[simp] theorem State.modifyAccount_settlementQueue (a : AccountSlot) (f : Account → Account) :
    (s.modifyAccount a f).settlementQueue = s.settlementQueue := rfl
@[simp] theorem State.modifyAccount_responses (a : AccountSlot) (f : Account → Account) :
    (s.modifyAccount a f).responses = s.responses := rfl
@[simp] theorem State.modifyAccount_items (a : AccountSlot) (f : Account → Account) :
    (s.modifyAccount a f).items = s.items := rfl
@[simp] theorem State.modifyAccount_lossCount (a : AccountSlot) (f : Account → Account) :
    (s.modifyAccount a f).lossCount = s.lossCount := rfl
@[simp] theorem State.modifyAccount_trunkRx (a : AccountSlot) (f : Account → Account) :
    (s.modifyAccount a f).trunkRx = s.trunkRx := rfl
@[simp] theorem State.modifyAccount_trunkTx (a : AccountSlot) (f : Account → Account) :
    (s.modifyAccount a f).trunkTx = s.trunkTx := rfl
@[simp] theorem State.modifyAccount_partFlags (a : AccountSlot) (f : Account → Account) :
    (s.modifyAccount a f).partFlags = s.partFlags := rfl
@[simp] theorem State.modifyAccount_partMasks (a : AccountSlot) (f : Account → Account) :
    (s.modifyAccount a f).partMasks = s.partMasks := rfl
@[simp] theorem State.modifyAccount_laneMasks (a : AccountSlot) (f : Account → Account) :
    (s.modifyAccount a f).laneMasks = s.laneMasks := rfl
@[simp] theorem State.modifyAccount_attention (a : AccountSlot) (f : Account → Account) :
    (s.modifyAccount a f).attention = s.attention := rfl
@[simp] theorem State.modifyAccount_graceSeconds (a : AccountSlot) (f : Account → Account) :
    (s.modifyAccount a f).graceSeconds = s.graceSeconds := rfl
@[simp] theorem State.modifyAccount_agingLimit (a : AccountSlot) (f : Account → Account) :
    (s.modifyAccount a f).agingLimit = s.agingLimit := rfl
@[simp] theorem State.modifyAccount_visitCounter (a : AccountSlot) (f : Account → Account) :
    (s.modifyAccount a f).visitCounter = s.visitCounter := rfl
@[simp] theorem State.modifyAccount_freeIndex (a : AccountSlot) (f : Account → Account) :
    (s.modifyAccount a f).freeIndex = s.freeIndex := rfl
@[simp] theorem State.modifyAccount_pending (a : AccountSlot) (f : Account → Account) :
    (s.modifyAccount a f).pending = s.pending := rfl

/-! ## setTariff -/

@[simp] theorem State.setTariff_lanes (t : TariffIndex) (x : TariffSlot) :
    (s.setTariff t x).lanes = s.lanes := rfl
@[simp] theorem State.setTariff_lastGranted (t : TariffIndex) (x : TariffSlot) :
    (s.setTariff t x).lastGranted = s.lastGranted := rfl
@[simp] theorem State.setTariff_types (t : TariffIndex) (x : TariffSlot) :
    (s.setTariff t x).types = s.types := rfl
@[simp] theorem State.setTariff_tariffs (t : TariffIndex) (x : TariffSlot) :
    (s.setTariff t x).tariffs = upd s.tariffs t (fun _ => x) := rfl
@[simp] theorem State.setTariff_accounts (t : TariffIndex) (x : TariffSlot) :
    (s.setTariff t x).accounts = s.accounts := rfl
@[simp] theorem State.setTariff_visits (t : TariffIndex) (x : TariffSlot) :
    (s.setTariff t x).visits = s.visits := rfl
@[simp] theorem State.setTariff_settleWait (t : TariffIndex) (x : TariffSlot) :
    (s.setTariff t x).settleWait = s.settleWait := rfl
@[simp] theorem State.setTariff_settlementQueue (t : TariffIndex) (x : TariffSlot) :
    (s.setTariff t x).settlementQueue = s.settlementQueue := rfl
@[simp] theorem State.setTariff_responses (t : TariffIndex) (x : TariffSlot) :
    (s.setTariff t x).responses = s.responses := rfl
@[simp] theorem State.setTariff_items (t : TariffIndex) (x : TariffSlot) :
    (s.setTariff t x).items = s.items := rfl
@[simp] theorem State.setTariff_lossCount (t : TariffIndex) (x : TariffSlot) :
    (s.setTariff t x).lossCount = s.lossCount := rfl
@[simp] theorem State.setTariff_trunkRx (t : TariffIndex) (x : TariffSlot) :
    (s.setTariff t x).trunkRx = s.trunkRx := rfl
@[simp] theorem State.setTariff_trunkTx (t : TariffIndex) (x : TariffSlot) :
    (s.setTariff t x).trunkTx = s.trunkTx := rfl
@[simp] theorem State.setTariff_partFlags (t : TariffIndex) (x : TariffSlot) :
    (s.setTariff t x).partFlags = s.partFlags := rfl
@[simp] theorem State.setTariff_partMasks (t : TariffIndex) (x : TariffSlot) :
    (s.setTariff t x).partMasks = s.partMasks := rfl
@[simp] theorem State.setTariff_laneMasks (t : TariffIndex) (x : TariffSlot) :
    (s.setTariff t x).laneMasks = s.laneMasks := rfl
@[simp] theorem State.setTariff_attention (t : TariffIndex) (x : TariffSlot) :
    (s.setTariff t x).attention = s.attention := rfl
@[simp] theorem State.setTariff_graceSeconds (t : TariffIndex) (x : TariffSlot) :
    (s.setTariff t x).graceSeconds = s.graceSeconds := rfl
@[simp] theorem State.setTariff_agingLimit (t : TariffIndex) (x : TariffSlot) :
    (s.setTariff t x).agingLimit = s.agingLimit := rfl
@[simp] theorem State.setTariff_visitCounter (t : TariffIndex) (x : TariffSlot) :
    (s.setTariff t x).visitCounter = s.visitCounter := rfl
@[simp] theorem State.setTariff_freeIndex (t : TariffIndex) (x : TariffSlot) :
    (s.setTariff t x).freeIndex = s.freeIndex := rfl
@[simp] theorem State.setTariff_pending (t : TariffIndex) (x : TariffSlot) :
    (s.setTariff t x).pending = s.pending := rfl

/-! ## setTypes -/

@[simp] theorem State.setTypes_lanes (x : List TypeEntry) : (s.setTypes x).lanes = s.lanes := rfl
@[simp] theorem State.setTypes_lastGranted (x : List TypeEntry) :
    (s.setTypes x).lastGranted = s.lastGranted := rfl
@[simp] theorem State.setTypes_types (x : List TypeEntry) : (s.setTypes x).types = x := rfl
@[simp] theorem State.setTypes_tariffs (x : List TypeEntry) : (s.setTypes x).tariffs = s.tariffs := rfl
@[simp] theorem State.setTypes_accounts (x : List TypeEntry) : (s.setTypes x).accounts = s.accounts := rfl
@[simp] theorem State.setTypes_visits (x : List TypeEntry) : (s.setTypes x).visits = s.visits := rfl
@[simp] theorem State.setTypes_settleWait (x : List TypeEntry) :
    (s.setTypes x).settleWait = s.settleWait := rfl
@[simp] theorem State.setTypes_settlementQueue (x : List TypeEntry) :
    (s.setTypes x).settlementQueue = s.settlementQueue := rfl
@[simp] theorem State.setTypes_responses (x : List TypeEntry) : (s.setTypes x).responses = s.responses := rfl
@[simp] theorem State.setTypes_items (x : List TypeEntry) : (s.setTypes x).items = s.items := rfl
@[simp] theorem State.setTypes_lossCount (x : List TypeEntry) : (s.setTypes x).lossCount = s.lossCount := rfl
@[simp] theorem State.setTypes_trunkRx (x : List TypeEntry) : (s.setTypes x).trunkRx = s.trunkRx := rfl
@[simp] theorem State.setTypes_trunkTx (x : List TypeEntry) : (s.setTypes x).trunkTx = s.trunkTx := rfl
@[simp] theorem State.setTypes_partFlags (x : List TypeEntry) : (s.setTypes x).partFlags = s.partFlags := rfl
@[simp] theorem State.setTypes_partMasks (x : List TypeEntry) : (s.setTypes x).partMasks = s.partMasks := rfl
@[simp] theorem State.setTypes_laneMasks (x : List TypeEntry) : (s.setTypes x).laneMasks = s.laneMasks := rfl
@[simp] theorem State.setTypes_attention (x : List TypeEntry) : (s.setTypes x).attention = s.attention := rfl
@[simp] theorem State.setTypes_graceSeconds (x : List TypeEntry) :
    (s.setTypes x).graceSeconds = s.graceSeconds := rfl
@[simp] theorem State.setTypes_agingLimit (x : List TypeEntry) :
    (s.setTypes x).agingLimit = s.agingLimit := rfl
@[simp] theorem State.setTypes_visitCounter (x : List TypeEntry) :
    (s.setTypes x).visitCounter = s.visitCounter := rfl
@[simp] theorem State.setTypes_freeIndex (x : List TypeEntry) : (s.setTypes x).freeIndex = s.freeIndex := rfl
@[simp] theorem State.setTypes_pending (x : List TypeEntry) : (s.setTypes x).pending = s.pending := rfl

/-! ## setPartFlags -/

@[simp] theorem State.setPartFlags_lanes (x : PartFlags) : (s.setPartFlags x).lanes = s.lanes := rfl
@[simp] theorem State.setPartFlags_lastGranted (x : PartFlags) :
    (s.setPartFlags x).lastGranted = s.lastGranted := rfl
@[simp] theorem State.setPartFlags_types (x : PartFlags) : (s.setPartFlags x).types = s.types := rfl
@[simp] theorem State.setPartFlags_tariffs (x : PartFlags) : (s.setPartFlags x).tariffs = s.tariffs := rfl
@[simp] theorem State.setPartFlags_accounts (x : PartFlags) : (s.setPartFlags x).accounts = s.accounts := rfl
@[simp] theorem State.setPartFlags_visits (x : PartFlags) : (s.setPartFlags x).visits = s.visits := rfl
@[simp] theorem State.setPartFlags_settleWait (x : PartFlags) :
    (s.setPartFlags x).settleWait = s.settleWait := rfl
@[simp] theorem State.setPartFlags_settlementQueue (x : PartFlags) :
    (s.setPartFlags x).settlementQueue = s.settlementQueue := rfl
@[simp] theorem State.setPartFlags_responses (x : PartFlags) :
    (s.setPartFlags x).responses = s.responses := rfl
@[simp] theorem State.setPartFlags_items (x : PartFlags) : (s.setPartFlags x).items = s.items := rfl
@[simp] theorem State.setPartFlags_lossCount (x : PartFlags) :
    (s.setPartFlags x).lossCount = s.lossCount := rfl
@[simp] theorem State.setPartFlags_trunkRx (x : PartFlags) : (s.setPartFlags x).trunkRx = s.trunkRx := rfl
@[simp] theorem State.setPartFlags_trunkTx (x : PartFlags) : (s.setPartFlags x).trunkTx = s.trunkTx := rfl
@[simp] theorem State.setPartFlags_partFlags (x : PartFlags) : (s.setPartFlags x).partFlags = x := rfl
@[simp] theorem State.setPartFlags_partMasks (x : PartFlags) :
    (s.setPartFlags x).partMasks = s.partMasks := rfl
@[simp] theorem State.setPartFlags_laneMasks (x : PartFlags) :
    (s.setPartFlags x).laneMasks = s.laneMasks := rfl
@[simp] theorem State.setPartFlags_attention (x : PartFlags) :
    (s.setPartFlags x).attention = s.attention := rfl
@[simp] theorem State.setPartFlags_graceSeconds (x : PartFlags) :
    (s.setPartFlags x).graceSeconds = s.graceSeconds := rfl
@[simp] theorem State.setPartFlags_agingLimit (x : PartFlags) :
    (s.setPartFlags x).agingLimit = s.agingLimit := rfl
@[simp] theorem State.setPartFlags_visitCounter (x : PartFlags) :
    (s.setPartFlags x).visitCounter = s.visitCounter := rfl
@[simp] theorem State.setPartFlags_freeIndex (x : PartFlags) :
    (s.setPartFlags x).freeIndex = s.freeIndex := rfl
@[simp] theorem State.setPartFlags_pending (x : PartFlags) : (s.setPartFlags x).pending = s.pending := rfl

/-! ## setItems -/

@[simp] theorem State.setItems_lanes (x : List ItemEntry) : (s.setItems x).lanes = s.lanes := rfl
@[simp] theorem State.setItems_lastGranted (x : List ItemEntry) :
    (s.setItems x).lastGranted = s.lastGranted := rfl
@[simp] theorem State.setItems_types (x : List ItemEntry) : (s.setItems x).types = s.types := rfl
@[simp] theorem State.setItems_tariffs (x : List ItemEntry) : (s.setItems x).tariffs = s.tariffs := rfl
@[simp] theorem State.setItems_accounts (x : List ItemEntry) : (s.setItems x).accounts = s.accounts := rfl
@[simp] theorem State.setItems_visits (x : List ItemEntry) : (s.setItems x).visits = s.visits := rfl
@[simp] theorem State.setItems_settleWait (x : List ItemEntry) :
    (s.setItems x).settleWait = s.settleWait := rfl
@[simp] theorem State.setItems_settlementQueue (x : List ItemEntry) :
    (s.setItems x).settlementQueue = s.settlementQueue := rfl
@[simp] theorem State.setItems_responses (x : List ItemEntry) : (s.setItems x).responses = s.responses := rfl
@[simp] theorem State.setItems_items (x : List ItemEntry) : (s.setItems x).items = x := rfl
@[simp] theorem State.setItems_lossCount (x : List ItemEntry) : (s.setItems x).lossCount = s.lossCount := rfl
@[simp] theorem State.setItems_trunkRx (x : List ItemEntry) : (s.setItems x).trunkRx = s.trunkRx := rfl
@[simp] theorem State.setItems_trunkTx (x : List ItemEntry) : (s.setItems x).trunkTx = s.trunkTx := rfl
@[simp] theorem State.setItems_partFlags (x : List ItemEntry) : (s.setItems x).partFlags = s.partFlags := rfl
@[simp] theorem State.setItems_partMasks (x : List ItemEntry) : (s.setItems x).partMasks = s.partMasks := rfl
@[simp] theorem State.setItems_laneMasks (x : List ItemEntry) : (s.setItems x).laneMasks = s.laneMasks := rfl
@[simp] theorem State.setItems_attention (x : List ItemEntry) : (s.setItems x).attention = s.attention := rfl
@[simp] theorem State.setItems_graceSeconds (x : List ItemEntry) :
    (s.setItems x).graceSeconds = s.graceSeconds := rfl
@[simp] theorem State.setItems_agingLimit (x : List ItemEntry) :
    (s.setItems x).agingLimit = s.agingLimit := rfl
@[simp] theorem State.setItems_visitCounter (x : List ItemEntry) :
    (s.setItems x).visitCounter = s.visitCounter := rfl
@[simp] theorem State.setItems_freeIndex (x : List ItemEntry) : (s.setItems x).freeIndex = s.freeIndex := rfl
@[simp] theorem State.setItems_pending (x : List ItemEntry) : (s.setItems x).pending = s.pending := rfl

/-! ## setResponses -/

@[simp] theorem State.setResponses_lanes (x : List Response) : (s.setResponses x).lanes = s.lanes := rfl
@[simp] theorem State.setResponses_lastGranted (x : List Response) :
    (s.setResponses x).lastGranted = s.lastGranted := rfl
@[simp] theorem State.setResponses_types (x : List Response) : (s.setResponses x).types = s.types := rfl
@[simp] theorem State.setResponses_tariffs (x : List Response) : (s.setResponses x).tariffs = s.tariffs := rfl
@[simp] theorem State.setResponses_accounts (x : List Response) :
    (s.setResponses x).accounts = s.accounts := rfl
@[simp] theorem State.setResponses_visits (x : List Response) : (s.setResponses x).visits = s.visits := rfl
@[simp] theorem State.setResponses_settleWait (x : List Response) :
    (s.setResponses x).settleWait = s.settleWait := rfl
@[simp] theorem State.setResponses_settlementQueue (x : List Response) :
    (s.setResponses x).settlementQueue = s.settlementQueue := rfl
@[simp] theorem State.setResponses_responses (x : List Response) : (s.setResponses x).responses = x := rfl
@[simp] theorem State.setResponses_items (x : List Response) : (s.setResponses x).items = s.items := rfl
@[simp] theorem State.setResponses_lossCount (x : List Response) :
    (s.setResponses x).lossCount = s.lossCount := rfl
@[simp] theorem State.setResponses_trunkRx (x : List Response) : (s.setResponses x).trunkRx = s.trunkRx := rfl
@[simp] theorem State.setResponses_trunkTx (x : List Response) : (s.setResponses x).trunkTx = s.trunkTx := rfl
@[simp] theorem State.setResponses_partFlags (x : List Response) :
    (s.setResponses x).partFlags = s.partFlags := rfl
@[simp] theorem State.setResponses_partMasks (x : List Response) :
    (s.setResponses x).partMasks = s.partMasks := rfl
@[simp] theorem State.setResponses_laneMasks (x : List Response) :
    (s.setResponses x).laneMasks = s.laneMasks := rfl
@[simp] theorem State.setResponses_attention (x : List Response) :
    (s.setResponses x).attention = s.attention := rfl
@[simp] theorem State.setResponses_graceSeconds (x : List Response) :
    (s.setResponses x).graceSeconds = s.graceSeconds := rfl
@[simp] theorem State.setResponses_agingLimit (x : List Response) :
    (s.setResponses x).agingLimit = s.agingLimit := rfl
@[simp] theorem State.setResponses_visitCounter (x : List Response) :
    (s.setResponses x).visitCounter = s.visitCounter := rfl
@[simp] theorem State.setResponses_freeIndex (x : List Response) :
    (s.setResponses x).freeIndex = s.freeIndex := rfl
@[simp] theorem State.setResponses_pending (x : List Response) : (s.setResponses x).pending = s.pending := rfl

/-! ## setSettlementQueue -/

@[simp] theorem State.setSettlementQueue_lanes (x : List SettlementEntry) :
    (s.setSettlementQueue x).lanes = s.lanes := rfl
@[simp] theorem State.setSettlementQueue_lastGranted (x : List SettlementEntry) :
    (s.setSettlementQueue x).lastGranted = s.lastGranted := rfl
@[simp] theorem State.setSettlementQueue_types (x : List SettlementEntry) :
    (s.setSettlementQueue x).types = s.types := rfl
@[simp] theorem State.setSettlementQueue_tariffs (x : List SettlementEntry) :
    (s.setSettlementQueue x).tariffs = s.tariffs := rfl
@[simp] theorem State.setSettlementQueue_accounts (x : List SettlementEntry) :
    (s.setSettlementQueue x).accounts = s.accounts := rfl
@[simp] theorem State.setSettlementQueue_visits (x : List SettlementEntry) :
    (s.setSettlementQueue x).visits = s.visits := rfl
@[simp] theorem State.setSettlementQueue_settleWait (x : List SettlementEntry) :
    (s.setSettlementQueue x).settleWait = s.settleWait := rfl
@[simp] theorem State.setSettlementQueue_settlementQueue (x : List SettlementEntry) :
    (s.setSettlementQueue x).settlementQueue = x := rfl
@[simp] theorem State.setSettlementQueue_responses (x : List SettlementEntry) :
    (s.setSettlementQueue x).responses = s.responses := rfl
@[simp] theorem State.setSettlementQueue_items (x : List SettlementEntry) :
    (s.setSettlementQueue x).items = s.items := rfl
@[simp] theorem State.setSettlementQueue_lossCount (x : List SettlementEntry) :
    (s.setSettlementQueue x).lossCount = s.lossCount := rfl
@[simp] theorem State.setSettlementQueue_trunkRx (x : List SettlementEntry) :
    (s.setSettlementQueue x).trunkRx = s.trunkRx := rfl
@[simp] theorem State.setSettlementQueue_trunkTx (x : List SettlementEntry) :
    (s.setSettlementQueue x).trunkTx = s.trunkTx := rfl
@[simp] theorem State.setSettlementQueue_partFlags (x : List SettlementEntry) :
    (s.setSettlementQueue x).partFlags = s.partFlags := rfl
@[simp] theorem State.setSettlementQueue_partMasks (x : List SettlementEntry) :
    (s.setSettlementQueue x).partMasks = s.partMasks := rfl
@[simp] theorem State.setSettlementQueue_laneMasks (x : List SettlementEntry) :
    (s.setSettlementQueue x).laneMasks = s.laneMasks := rfl
@[simp] theorem State.setSettlementQueue_attention (x : List SettlementEntry) :
    (s.setSettlementQueue x).attention = s.attention := rfl
@[simp] theorem State.setSettlementQueue_graceSeconds (x : List SettlementEntry) :
    (s.setSettlementQueue x).graceSeconds = s.graceSeconds := rfl
@[simp] theorem State.setSettlementQueue_agingLimit (x : List SettlementEntry) :
    (s.setSettlementQueue x).agingLimit = s.agingLimit := rfl
@[simp] theorem State.setSettlementQueue_visitCounter (x : List SettlementEntry) :
    (s.setSettlementQueue x).visitCounter = s.visitCounter := rfl
@[simp] theorem State.setSettlementQueue_freeIndex (x : List SettlementEntry) :
    (s.setSettlementQueue x).freeIndex = s.freeIndex := rfl
@[simp] theorem State.setSettlementQueue_pending (x : List SettlementEntry) :
    (s.setSettlementQueue x).pending = s.pending := rfl

/-! ## setSettleWait -/

@[simp] theorem State.setSettleWait_lanes (x : List VisitTag) : (s.setSettleWait x).lanes = s.lanes := rfl
@[simp] theorem State.setSettleWait_lastGranted (x : List VisitTag) :
    (s.setSettleWait x).lastGranted = s.lastGranted := rfl
@[simp] theorem State.setSettleWait_types (x : List VisitTag) : (s.setSettleWait x).types = s.types := rfl
@[simp] theorem State.setSettleWait_tariffs (x : List VisitTag) :
    (s.setSettleWait x).tariffs = s.tariffs := rfl
@[simp] theorem State.setSettleWait_accounts (x : List VisitTag) :
    (s.setSettleWait x).accounts = s.accounts := rfl
@[simp] theorem State.setSettleWait_visits (x : List VisitTag) : (s.setSettleWait x).visits = s.visits := rfl
@[simp] theorem State.setSettleWait_settleWait (x : List VisitTag) : (s.setSettleWait x).settleWait = x := rfl
@[simp] theorem State.setSettleWait_settlementQueue (x : List VisitTag) :
    (s.setSettleWait x).settlementQueue = s.settlementQueue := rfl
@[simp] theorem State.setSettleWait_responses (x : List VisitTag) :
    (s.setSettleWait x).responses = s.responses := rfl
@[simp] theorem State.setSettleWait_items (x : List VisitTag) : (s.setSettleWait x).items = s.items := rfl
@[simp] theorem State.setSettleWait_lossCount (x : List VisitTag) :
    (s.setSettleWait x).lossCount = s.lossCount := rfl
@[simp] theorem State.setSettleWait_trunkRx (x : List VisitTag) :
    (s.setSettleWait x).trunkRx = s.trunkRx := rfl
@[simp] theorem State.setSettleWait_trunkTx (x : List VisitTag) :
    (s.setSettleWait x).trunkTx = s.trunkTx := rfl
@[simp] theorem State.setSettleWait_partFlags (x : List VisitTag) :
    (s.setSettleWait x).partFlags = s.partFlags := rfl
@[simp] theorem State.setSettleWait_partMasks (x : List VisitTag) :
    (s.setSettleWait x).partMasks = s.partMasks := rfl
@[simp] theorem State.setSettleWait_laneMasks (x : List VisitTag) :
    (s.setSettleWait x).laneMasks = s.laneMasks := rfl
@[simp] theorem State.setSettleWait_attention (x : List VisitTag) :
    (s.setSettleWait x).attention = s.attention := rfl
@[simp] theorem State.setSettleWait_graceSeconds (x : List VisitTag) :
    (s.setSettleWait x).graceSeconds = s.graceSeconds := rfl
@[simp] theorem State.setSettleWait_agingLimit (x : List VisitTag) :
    (s.setSettleWait x).agingLimit = s.agingLimit := rfl
@[simp] theorem State.setSettleWait_visitCounter (x : List VisitTag) :
    (s.setSettleWait x).visitCounter = s.visitCounter := rfl
@[simp] theorem State.setSettleWait_freeIndex (x : List VisitTag) :
    (s.setSettleWait x).freeIndex = s.freeIndex := rfl
@[simp] theorem State.setSettleWait_pending (x : List VisitTag) :
    (s.setSettleWait x).pending = s.pending := rfl

/-! ## setTrunkTx -/

@[simp] theorem State.setTrunkTx_lanes (x : TrunkTx) : (s.setTrunkTx x).lanes = s.lanes := rfl
@[simp] theorem State.setTrunkTx_lastGranted (x : TrunkTx) :
    (s.setTrunkTx x).lastGranted = s.lastGranted := rfl
@[simp] theorem State.setTrunkTx_types (x : TrunkTx) : (s.setTrunkTx x).types = s.types := rfl
@[simp] theorem State.setTrunkTx_tariffs (x : TrunkTx) : (s.setTrunkTx x).tariffs = s.tariffs := rfl
@[simp] theorem State.setTrunkTx_accounts (x : TrunkTx) : (s.setTrunkTx x).accounts = s.accounts := rfl
@[simp] theorem State.setTrunkTx_visits (x : TrunkTx) : (s.setTrunkTx x).visits = s.visits := rfl
@[simp] theorem State.setTrunkTx_settleWait (x : TrunkTx) : (s.setTrunkTx x).settleWait = s.settleWait := rfl
@[simp] theorem State.setTrunkTx_settlementQueue (x : TrunkTx) :
    (s.setTrunkTx x).settlementQueue = s.settlementQueue := rfl
@[simp] theorem State.setTrunkTx_responses (x : TrunkTx) : (s.setTrunkTx x).responses = s.responses := rfl
@[simp] theorem State.setTrunkTx_items (x : TrunkTx) : (s.setTrunkTx x).items = s.items := rfl
@[simp] theorem State.setTrunkTx_lossCount (x : TrunkTx) : (s.setTrunkTx x).lossCount = s.lossCount := rfl
@[simp] theorem State.setTrunkTx_trunkRx (x : TrunkTx) : (s.setTrunkTx x).trunkRx = s.trunkRx := rfl
@[simp] theorem State.setTrunkTx_trunkTx (x : TrunkTx) : (s.setTrunkTx x).trunkTx = x := rfl
@[simp] theorem State.setTrunkTx_partFlags (x : TrunkTx) : (s.setTrunkTx x).partFlags = s.partFlags := rfl
@[simp] theorem State.setTrunkTx_partMasks (x : TrunkTx) : (s.setTrunkTx x).partMasks = s.partMasks := rfl
@[simp] theorem State.setTrunkTx_laneMasks (x : TrunkTx) : (s.setTrunkTx x).laneMasks = s.laneMasks := rfl
@[simp] theorem State.setTrunkTx_attention (x : TrunkTx) : (s.setTrunkTx x).attention = s.attention := rfl
@[simp] theorem State.setTrunkTx_graceSeconds (x : TrunkTx) :
    (s.setTrunkTx x).graceSeconds = s.graceSeconds := rfl
@[simp] theorem State.setTrunkTx_agingLimit (x : TrunkTx) : (s.setTrunkTx x).agingLimit = s.agingLimit := rfl
@[simp] theorem State.setTrunkTx_visitCounter (x : TrunkTx) :
    (s.setTrunkTx x).visitCounter = s.visitCounter := rfl
@[simp] theorem State.setTrunkTx_freeIndex (x : TrunkTx) : (s.setTrunkTx x).freeIndex = s.freeIndex := rfl
@[simp] theorem State.setTrunkTx_pending (x : TrunkTx) : (s.setTrunkTx x).pending = s.pending := rfl

/-! ## setLossCount -/

@[simp] theorem State.setLossCount_lanes (n : Nat) : (s.setLossCount n).lanes = s.lanes := rfl
@[simp] theorem State.setLossCount_lastGranted (n : Nat) :
    (s.setLossCount n).lastGranted = s.lastGranted := rfl
@[simp] theorem State.setLossCount_types (n : Nat) : (s.setLossCount n).types = s.types := rfl
@[simp] theorem State.setLossCount_tariffs (n : Nat) : (s.setLossCount n).tariffs = s.tariffs := rfl
@[simp] theorem State.setLossCount_accounts (n : Nat) : (s.setLossCount n).accounts = s.accounts := rfl
@[simp] theorem State.setLossCount_visits (n : Nat) : (s.setLossCount n).visits = s.visits := rfl
@[simp] theorem State.setLossCount_settleWait (n : Nat) : (s.setLossCount n).settleWait = s.settleWait := rfl
@[simp] theorem State.setLossCount_settlementQueue (n : Nat) :
    (s.setLossCount n).settlementQueue = s.settlementQueue := rfl
@[simp] theorem State.setLossCount_responses (n : Nat) : (s.setLossCount n).responses = s.responses := rfl
@[simp] theorem State.setLossCount_items (n : Nat) : (s.setLossCount n).items = s.items := rfl
@[simp] theorem State.setLossCount_lossCount (n : Nat) : (s.setLossCount n).lossCount = n := rfl
@[simp] theorem State.setLossCount_trunkRx (n : Nat) : (s.setLossCount n).trunkRx = s.trunkRx := rfl
@[simp] theorem State.setLossCount_trunkTx (n : Nat) : (s.setLossCount n).trunkTx = s.trunkTx := rfl
@[simp] theorem State.setLossCount_partFlags (n : Nat) : (s.setLossCount n).partFlags = s.partFlags := rfl
@[simp] theorem State.setLossCount_partMasks (n : Nat) : (s.setLossCount n).partMasks = s.partMasks := rfl
@[simp] theorem State.setLossCount_laneMasks (n : Nat) : (s.setLossCount n).laneMasks = s.laneMasks := rfl
@[simp] theorem State.setLossCount_attention (n : Nat) : (s.setLossCount n).attention = s.attention := rfl
@[simp] theorem State.setLossCount_graceSeconds (n : Nat) :
    (s.setLossCount n).graceSeconds = s.graceSeconds := rfl
@[simp] theorem State.setLossCount_agingLimit (n : Nat) : (s.setLossCount n).agingLimit = s.agingLimit := rfl
@[simp] theorem State.setLossCount_visitCounter (n : Nat) :
    (s.setLossCount n).visitCounter = s.visitCounter := rfl
@[simp] theorem State.setLossCount_freeIndex (n : Nat) : (s.setLossCount n).freeIndex = s.freeIndex := rfl
@[simp] theorem State.setLossCount_pending (n : Nat) : (s.setLossCount n).pending = s.pending := rfl

/-! ## setAttention -/

@[simp] theorem State.setAttention_lanes (b : Bool) : (s.setAttention b).lanes = s.lanes := rfl
@[simp] theorem State.setAttention_lastGranted (b : Bool) :
    (s.setAttention b).lastGranted = s.lastGranted := rfl
@[simp] theorem State.setAttention_types (b : Bool) : (s.setAttention b).types = s.types := rfl
@[simp] theorem State.setAttention_tariffs (b : Bool) : (s.setAttention b).tariffs = s.tariffs := rfl
@[simp] theorem State.setAttention_accounts (b : Bool) : (s.setAttention b).accounts = s.accounts := rfl
@[simp] theorem State.setAttention_visits (b : Bool) : (s.setAttention b).visits = s.visits := rfl
@[simp] theorem State.setAttention_settleWait (b : Bool) : (s.setAttention b).settleWait = s.settleWait := rfl
@[simp] theorem State.setAttention_settlementQueue (b : Bool) :
    (s.setAttention b).settlementQueue = s.settlementQueue := rfl
@[simp] theorem State.setAttention_responses (b : Bool) : (s.setAttention b).responses = s.responses := rfl
@[simp] theorem State.setAttention_items (b : Bool) : (s.setAttention b).items = s.items := rfl
@[simp] theorem State.setAttention_lossCount (b : Bool) : (s.setAttention b).lossCount = s.lossCount := rfl
@[simp] theorem State.setAttention_trunkRx (b : Bool) : (s.setAttention b).trunkRx = s.trunkRx := rfl
@[simp] theorem State.setAttention_trunkTx (b : Bool) : (s.setAttention b).trunkTx = s.trunkTx := rfl
@[simp] theorem State.setAttention_partFlags (b : Bool) : (s.setAttention b).partFlags = s.partFlags := rfl
@[simp] theorem State.setAttention_partMasks (b : Bool) : (s.setAttention b).partMasks = s.partMasks := rfl
@[simp] theorem State.setAttention_laneMasks (b : Bool) : (s.setAttention b).laneMasks = s.laneMasks := rfl
@[simp] theorem State.setAttention_attention (b : Bool) : (s.setAttention b).attention = b := rfl
@[simp] theorem State.setAttention_graceSeconds (b : Bool) :
    (s.setAttention b).graceSeconds = s.graceSeconds := rfl
@[simp] theorem State.setAttention_agingLimit (b : Bool) : (s.setAttention b).agingLimit = s.agingLimit := rfl
@[simp] theorem State.setAttention_visitCounter (b : Bool) :
    (s.setAttention b).visitCounter = s.visitCounter := rfl
@[simp] theorem State.setAttention_freeIndex (b : Bool) : (s.setAttention b).freeIndex = s.freeIndex := rfl
@[simp] theorem State.setAttention_pending (b : Bool) : (s.setAttention b).pending = s.pending := rfl

/-! ## setLastGranted -/

@[simp] theorem State.setLastGranted_lanes (l : Lane) : (s.setLastGranted l).lanes = s.lanes := rfl
@[simp] theorem State.setLastGranted_lastGranted (l : Lane) : (s.setLastGranted l).lastGranted = l := rfl
@[simp] theorem State.setLastGranted_types (l : Lane) : (s.setLastGranted l).types = s.types := rfl
@[simp] theorem State.setLastGranted_tariffs (l : Lane) : (s.setLastGranted l).tariffs = s.tariffs := rfl
@[simp] theorem State.setLastGranted_accounts (l : Lane) : (s.setLastGranted l).accounts = s.accounts := rfl
@[simp] theorem State.setLastGranted_visits (l : Lane) : (s.setLastGranted l).visits = s.visits := rfl
@[simp] theorem State.setLastGranted_settleWait (l : Lane) :
    (s.setLastGranted l).settleWait = s.settleWait := rfl
@[simp] theorem State.setLastGranted_settlementQueue (l : Lane) :
    (s.setLastGranted l).settlementQueue = s.settlementQueue := rfl
@[simp] theorem State.setLastGranted_responses (l : Lane) :
    (s.setLastGranted l).responses = s.responses := rfl
@[simp] theorem State.setLastGranted_items (l : Lane) : (s.setLastGranted l).items = s.items := rfl
@[simp] theorem State.setLastGranted_lossCount (l : Lane) :
    (s.setLastGranted l).lossCount = s.lossCount := rfl
@[simp] theorem State.setLastGranted_trunkRx (l : Lane) : (s.setLastGranted l).trunkRx = s.trunkRx := rfl
@[simp] theorem State.setLastGranted_trunkTx (l : Lane) : (s.setLastGranted l).trunkTx = s.trunkTx := rfl
@[simp] theorem State.setLastGranted_partFlags (l : Lane) :
    (s.setLastGranted l).partFlags = s.partFlags := rfl
@[simp] theorem State.setLastGranted_partMasks (l : Lane) :
    (s.setLastGranted l).partMasks = s.partMasks := rfl
@[simp] theorem State.setLastGranted_laneMasks (l : Lane) :
    (s.setLastGranted l).laneMasks = s.laneMasks := rfl
@[simp] theorem State.setLastGranted_attention (l : Lane) :
    (s.setLastGranted l).attention = s.attention := rfl
@[simp] theorem State.setLastGranted_graceSeconds (l : Lane) :
    (s.setLastGranted l).graceSeconds = s.graceSeconds := rfl
@[simp] theorem State.setLastGranted_agingLimit (l : Lane) :
    (s.setLastGranted l).agingLimit = s.agingLimit := rfl
@[simp] theorem State.setLastGranted_visitCounter (l : Lane) :
    (s.setLastGranted l).visitCounter = s.visitCounter := rfl
@[simp] theorem State.setLastGranted_freeIndex (l : Lane) :
    (s.setLastGranted l).freeIndex = s.freeIndex := rfl
@[simp] theorem State.setLastGranted_pending (l : Lane) : (s.setLastGranted l).pending = s.pending := rfl

/-! ## setTrunkRx -/

@[simp] theorem State.setTrunkRx_lanes (x : Receiver) : (s.setTrunkRx x).lanes = s.lanes := rfl
@[simp] theorem State.setTrunkRx_lastGranted (x : Receiver) :
    (s.setTrunkRx x).lastGranted = s.lastGranted := rfl
@[simp] theorem State.setTrunkRx_types (x : Receiver) : (s.setTrunkRx x).types = s.types := rfl
@[simp] theorem State.setTrunkRx_tariffs (x : Receiver) : (s.setTrunkRx x).tariffs = s.tariffs := rfl
@[simp] theorem State.setTrunkRx_accounts (x : Receiver) : (s.setTrunkRx x).accounts = s.accounts := rfl
@[simp] theorem State.setTrunkRx_visits (x : Receiver) : (s.setTrunkRx x).visits = s.visits := rfl
@[simp] theorem State.setTrunkRx_settleWait (x : Receiver) : (s.setTrunkRx x).settleWait = s.settleWait := rfl
@[simp] theorem State.setTrunkRx_settlementQueue (x : Receiver) :
    (s.setTrunkRx x).settlementQueue = s.settlementQueue := rfl
@[simp] theorem State.setTrunkRx_responses (x : Receiver) : (s.setTrunkRx x).responses = s.responses := rfl
@[simp] theorem State.setTrunkRx_items (x : Receiver) : (s.setTrunkRx x).items = s.items := rfl
@[simp] theorem State.setTrunkRx_lossCount (x : Receiver) : (s.setTrunkRx x).lossCount = s.lossCount := rfl
@[simp] theorem State.setTrunkRx_trunkRx (x : Receiver) : (s.setTrunkRx x).trunkRx = x := rfl
@[simp] theorem State.setTrunkRx_trunkTx (x : Receiver) : (s.setTrunkRx x).trunkTx = s.trunkTx := rfl
@[simp] theorem State.setTrunkRx_partFlags (x : Receiver) : (s.setTrunkRx x).partFlags = s.partFlags := rfl
@[simp] theorem State.setTrunkRx_partMasks (x : Receiver) : (s.setTrunkRx x).partMasks = s.partMasks := rfl
@[simp] theorem State.setTrunkRx_laneMasks (x : Receiver) : (s.setTrunkRx x).laneMasks = s.laneMasks := rfl
@[simp] theorem State.setTrunkRx_attention (x : Receiver) : (s.setTrunkRx x).attention = s.attention := rfl
@[simp] theorem State.setTrunkRx_graceSeconds (x : Receiver) :
    (s.setTrunkRx x).graceSeconds = s.graceSeconds := rfl
@[simp] theorem State.setTrunkRx_agingLimit (x : Receiver) : (s.setTrunkRx x).agingLimit = s.agingLimit := rfl
@[simp] theorem State.setTrunkRx_visitCounter (x : Receiver) :
    (s.setTrunkRx x).visitCounter = s.visitCounter := rfl
@[simp] theorem State.setTrunkRx_freeIndex (x : Receiver) : (s.setTrunkRx x).freeIndex = s.freeIndex := rfl
@[simp] theorem State.setTrunkRx_pending (x : Receiver) : (s.setTrunkRx x).pending = s.pending := rfl

/-! ## setPending -/

@[simp] theorem State.setPending_lanes (x : List Instr) : (s.setPending x).lanes = s.lanes := rfl
@[simp] theorem State.setPending_lastGranted (x : List Instr) :
    (s.setPending x).lastGranted = s.lastGranted := rfl
@[simp] theorem State.setPending_types (x : List Instr) : (s.setPending x).types = s.types := rfl
@[simp] theorem State.setPending_tariffs (x : List Instr) : (s.setPending x).tariffs = s.tariffs := rfl
@[simp] theorem State.setPending_accounts (x : List Instr) : (s.setPending x).accounts = s.accounts := rfl
@[simp] theorem State.setPending_visits (x : List Instr) : (s.setPending x).visits = s.visits := rfl
@[simp] theorem State.setPending_settleWait (x : List Instr) :
    (s.setPending x).settleWait = s.settleWait := rfl
@[simp] theorem State.setPending_settlementQueue (x : List Instr) :
    (s.setPending x).settlementQueue = s.settlementQueue := rfl
@[simp] theorem State.setPending_responses (x : List Instr) : (s.setPending x).responses = s.responses := rfl
@[simp] theorem State.setPending_items (x : List Instr) : (s.setPending x).items = s.items := rfl
@[simp] theorem State.setPending_lossCount (x : List Instr) : (s.setPending x).lossCount = s.lossCount := rfl
@[simp] theorem State.setPending_trunkRx (x : List Instr) : (s.setPending x).trunkRx = s.trunkRx := rfl
@[simp] theorem State.setPending_trunkTx (x : List Instr) : (s.setPending x).trunkTx = s.trunkTx := rfl
@[simp] theorem State.setPending_partFlags (x : List Instr) : (s.setPending x).partFlags = s.partFlags := rfl
@[simp] theorem State.setPending_partMasks (x : List Instr) : (s.setPending x).partMasks = s.partMasks := rfl
@[simp] theorem State.setPending_laneMasks (x : List Instr) : (s.setPending x).laneMasks = s.laneMasks := rfl
@[simp] theorem State.setPending_attention (x : List Instr) : (s.setPending x).attention = s.attention := rfl
@[simp] theorem State.setPending_graceSeconds (x : List Instr) :
    (s.setPending x).graceSeconds = s.graceSeconds := rfl
@[simp] theorem State.setPending_agingLimit (x : List Instr) :
    (s.setPending x).agingLimit = s.agingLimit := rfl
@[simp] theorem State.setPending_visitCounter (x : List Instr) :
    (s.setPending x).visitCounter = s.visitCounter := rfl
@[simp] theorem State.setPending_freeIndex (x : List Instr) : (s.setPending x).freeIndex = s.freeIndex := rfl
@[simp] theorem State.setPending_pending (x : List Instr) : (s.setPending x).pending = x := rfl

/-! ## setFreeIndex -/

@[simp] theorem State.setFreeIndex_lanes (n : Nat) : (s.setFreeIndex n).lanes = s.lanes := rfl
@[simp] theorem State.setFreeIndex_lastGranted (n : Nat) :
    (s.setFreeIndex n).lastGranted = s.lastGranted := rfl
@[simp] theorem State.setFreeIndex_types (n : Nat) : (s.setFreeIndex n).types = s.types := rfl
@[simp] theorem State.setFreeIndex_tariffs (n : Nat) : (s.setFreeIndex n).tariffs = s.tariffs := rfl
@[simp] theorem State.setFreeIndex_accounts (n : Nat) : (s.setFreeIndex n).accounts = s.accounts := rfl
@[simp] theorem State.setFreeIndex_visits (n : Nat) : (s.setFreeIndex n).visits = s.visits := rfl
@[simp] theorem State.setFreeIndex_settleWait (n : Nat) : (s.setFreeIndex n).settleWait = s.settleWait := rfl
@[simp] theorem State.setFreeIndex_settlementQueue (n : Nat) :
    (s.setFreeIndex n).settlementQueue = s.settlementQueue := rfl
@[simp] theorem State.setFreeIndex_responses (n : Nat) : (s.setFreeIndex n).responses = s.responses := rfl
@[simp] theorem State.setFreeIndex_items (n : Nat) : (s.setFreeIndex n).items = s.items := rfl
@[simp] theorem State.setFreeIndex_lossCount (n : Nat) : (s.setFreeIndex n).lossCount = s.lossCount := rfl
@[simp] theorem State.setFreeIndex_trunkRx (n : Nat) : (s.setFreeIndex n).trunkRx = s.trunkRx := rfl
@[simp] theorem State.setFreeIndex_trunkTx (n : Nat) : (s.setFreeIndex n).trunkTx = s.trunkTx := rfl
@[simp] theorem State.setFreeIndex_partFlags (n : Nat) : (s.setFreeIndex n).partFlags = s.partFlags := rfl
@[simp] theorem State.setFreeIndex_partMasks (n : Nat) : (s.setFreeIndex n).partMasks = s.partMasks := rfl
@[simp] theorem State.setFreeIndex_laneMasks (n : Nat) : (s.setFreeIndex n).laneMasks = s.laneMasks := rfl
@[simp] theorem State.setFreeIndex_attention (n : Nat) : (s.setFreeIndex n).attention = s.attention := rfl
@[simp] theorem State.setFreeIndex_graceSeconds (n : Nat) :
    (s.setFreeIndex n).graceSeconds = s.graceSeconds := rfl
@[simp] theorem State.setFreeIndex_agingLimit (n : Nat) : (s.setFreeIndex n).agingLimit = s.agingLimit := rfl
@[simp] theorem State.setFreeIndex_visitCounter (n : Nat) :
    (s.setFreeIndex n).visitCounter = s.visitCounter := rfl
@[simp] theorem State.setFreeIndex_freeIndex (n : Nat) : (s.setFreeIndex n).freeIndex = n := rfl
@[simp] theorem State.setFreeIndex_pending (n : Nat) : (s.setFreeIndex n).pending = s.pending := rfl

/-! ## setVisitCounter -/

@[simp] theorem State.setVisitCounter_lanes (n : Nat) : (s.setVisitCounter n).lanes = s.lanes := rfl
@[simp] theorem State.setVisitCounter_lastGranted (n : Nat) :
    (s.setVisitCounter n).lastGranted = s.lastGranted := rfl
@[simp] theorem State.setVisitCounter_types (n : Nat) : (s.setVisitCounter n).types = s.types := rfl
@[simp] theorem State.setVisitCounter_tariffs (n : Nat) : (s.setVisitCounter n).tariffs = s.tariffs := rfl
@[simp] theorem State.setVisitCounter_accounts (n : Nat) : (s.setVisitCounter n).accounts = s.accounts := rfl
@[simp] theorem State.setVisitCounter_visits (n : Nat) : (s.setVisitCounter n).visits = s.visits := rfl
@[simp] theorem State.setVisitCounter_settleWait (n : Nat) :
    (s.setVisitCounter n).settleWait = s.settleWait := rfl
@[simp] theorem State.setVisitCounter_settlementQueue (n : Nat) :
    (s.setVisitCounter n).settlementQueue = s.settlementQueue := rfl
@[simp] theorem State.setVisitCounter_responses (n : Nat) :
    (s.setVisitCounter n).responses = s.responses := rfl
@[simp] theorem State.setVisitCounter_items (n : Nat) : (s.setVisitCounter n).items = s.items := rfl
@[simp] theorem State.setVisitCounter_lossCount (n : Nat) :
    (s.setVisitCounter n).lossCount = s.lossCount := rfl
@[simp] theorem State.setVisitCounter_trunkRx (n : Nat) : (s.setVisitCounter n).trunkRx = s.trunkRx := rfl
@[simp] theorem State.setVisitCounter_trunkTx (n : Nat) : (s.setVisitCounter n).trunkTx = s.trunkTx := rfl
@[simp] theorem State.setVisitCounter_partFlags (n : Nat) :
    (s.setVisitCounter n).partFlags = s.partFlags := rfl
@[simp] theorem State.setVisitCounter_partMasks (n : Nat) :
    (s.setVisitCounter n).partMasks = s.partMasks := rfl
@[simp] theorem State.setVisitCounter_laneMasks (n : Nat) :
    (s.setVisitCounter n).laneMasks = s.laneMasks := rfl
@[simp] theorem State.setVisitCounter_attention (n : Nat) :
    (s.setVisitCounter n).attention = s.attention := rfl
@[simp] theorem State.setVisitCounter_graceSeconds (n : Nat) :
    (s.setVisitCounter n).graceSeconds = s.graceSeconds := rfl
@[simp] theorem State.setVisitCounter_agingLimit (n : Nat) :
    (s.setVisitCounter n).agingLimit = s.agingLimit := rfl
@[simp] theorem State.setVisitCounter_visitCounter (n : Nat) : (s.setVisitCounter n).visitCounter = n := rfl
@[simp] theorem State.setVisitCounter_freeIndex (n : Nat) :
    (s.setVisitCounter n).freeIndex = s.freeIndex := rfl
@[simp] theorem State.setVisitCounter_pending (n : Nat) : (s.setVisitCounter n).pending = s.pending := rfl

/-! ## setMaskSets -/

@[simp] theorem State.setMaskSets_lanes (p : PartFlags) (ls : Vector LaneFlags 6) :
    (s.setMaskSets p ls).lanes = s.lanes := rfl
@[simp] theorem State.setMaskSets_lastGranted (p : PartFlags) (ls : Vector LaneFlags 6) :
    (s.setMaskSets p ls).lastGranted = s.lastGranted := rfl
@[simp] theorem State.setMaskSets_types (p : PartFlags) (ls : Vector LaneFlags 6) :
    (s.setMaskSets p ls).types = s.types := rfl
@[simp] theorem State.setMaskSets_tariffs (p : PartFlags) (ls : Vector LaneFlags 6) :
    (s.setMaskSets p ls).tariffs = s.tariffs := rfl
@[simp] theorem State.setMaskSets_accounts (p : PartFlags) (ls : Vector LaneFlags 6) :
    (s.setMaskSets p ls).accounts = s.accounts := rfl
@[simp] theorem State.setMaskSets_visits (p : PartFlags) (ls : Vector LaneFlags 6) :
    (s.setMaskSets p ls).visits = s.visits := rfl
@[simp] theorem State.setMaskSets_settleWait (p : PartFlags) (ls : Vector LaneFlags 6) :
    (s.setMaskSets p ls).settleWait = s.settleWait := rfl
@[simp] theorem State.setMaskSets_settlementQueue (p : PartFlags) (ls : Vector LaneFlags 6) :
    (s.setMaskSets p ls).settlementQueue = s.settlementQueue := rfl
@[simp] theorem State.setMaskSets_responses (p : PartFlags) (ls : Vector LaneFlags 6) :
    (s.setMaskSets p ls).responses = s.responses := rfl
@[simp] theorem State.setMaskSets_items (p : PartFlags) (ls : Vector LaneFlags 6) :
    (s.setMaskSets p ls).items = s.items := rfl
@[simp] theorem State.setMaskSets_lossCount (p : PartFlags) (ls : Vector LaneFlags 6) :
    (s.setMaskSets p ls).lossCount = s.lossCount := rfl
@[simp] theorem State.setMaskSets_trunkRx (p : PartFlags) (ls : Vector LaneFlags 6) :
    (s.setMaskSets p ls).trunkRx = s.trunkRx := rfl
@[simp] theorem State.setMaskSets_trunkTx (p : PartFlags) (ls : Vector LaneFlags 6) :
    (s.setMaskSets p ls).trunkTx = s.trunkTx := rfl
@[simp] theorem State.setMaskSets_partFlags (p : PartFlags) (ls : Vector LaneFlags 6) :
    (s.setMaskSets p ls).partFlags = s.partFlags := rfl
@[simp] theorem State.setMaskSets_partMasks (p : PartFlags) (ls : Vector LaneFlags 6) :
    (s.setMaskSets p ls).partMasks = p := rfl
@[simp] theorem State.setMaskSets_laneMasks (p : PartFlags) (ls : Vector LaneFlags 6) :
    (s.setMaskSets p ls).laneMasks = ls := rfl
@[simp] theorem State.setMaskSets_attention (p : PartFlags) (ls : Vector LaneFlags 6) :
    (s.setMaskSets p ls).attention = s.attention := rfl
@[simp] theorem State.setMaskSets_graceSeconds (p : PartFlags) (ls : Vector LaneFlags 6) :
    (s.setMaskSets p ls).graceSeconds = s.graceSeconds := rfl
@[simp] theorem State.setMaskSets_agingLimit (p : PartFlags) (ls : Vector LaneFlags 6) :
    (s.setMaskSets p ls).agingLimit = s.agingLimit := rfl
@[simp] theorem State.setMaskSets_visitCounter (p : PartFlags) (ls : Vector LaneFlags 6) :
    (s.setMaskSets p ls).visitCounter = s.visitCounter := rfl
@[simp] theorem State.setMaskSets_freeIndex (p : PartFlags) (ls : Vector LaneFlags 6) :
    (s.setMaskSets p ls).freeIndex = s.freeIndex := rfl
@[simp] theorem State.setMaskSets_pending (p : PartFlags) (ls : Vector LaneFlags 6) :
    (s.setMaskSets p ls).pending = s.pending := rfl

/-! ## setParameters -/

@[simp] theorem State.setParameters_lanes (g a : Nat) : (s.setParameters g a).lanes = s.lanes := rfl
@[simp] theorem State.setParameters_lastGranted (g a : Nat) :
    (s.setParameters g a).lastGranted = s.lastGranted := rfl
@[simp] theorem State.setParameters_types (g a : Nat) : (s.setParameters g a).types = s.types := rfl
@[simp] theorem State.setParameters_tariffs (g a : Nat) : (s.setParameters g a).tariffs = s.tariffs := rfl
@[simp] theorem State.setParameters_accounts (g a : Nat) : (s.setParameters g a).accounts = s.accounts := rfl
@[simp] theorem State.setParameters_visits (g a : Nat) : (s.setParameters g a).visits = s.visits := rfl
@[simp] theorem State.setParameters_settleWait (g a : Nat) :
    (s.setParameters g a).settleWait = s.settleWait := rfl
@[simp] theorem State.setParameters_settlementQueue (g a : Nat) :
    (s.setParameters g a).settlementQueue = s.settlementQueue := rfl
@[simp] theorem State.setParameters_responses (g a : Nat) :
    (s.setParameters g a).responses = s.responses := rfl
@[simp] theorem State.setParameters_items (g a : Nat) : (s.setParameters g a).items = s.items := rfl
@[simp] theorem State.setParameters_lossCount (g a : Nat) :
    (s.setParameters g a).lossCount = s.lossCount := rfl
@[simp] theorem State.setParameters_trunkRx (g a : Nat) : (s.setParameters g a).trunkRx = s.trunkRx := rfl
@[simp] theorem State.setParameters_trunkTx (g a : Nat) : (s.setParameters g a).trunkTx = s.trunkTx := rfl
@[simp] theorem State.setParameters_partFlags (g a : Nat) :
    (s.setParameters g a).partFlags = s.partFlags := rfl
@[simp] theorem State.setParameters_partMasks (g a : Nat) :
    (s.setParameters g a).partMasks = s.partMasks := rfl
@[simp] theorem State.setParameters_laneMasks (g a : Nat) :
    (s.setParameters g a).laneMasks = s.laneMasks := rfl
@[simp] theorem State.setParameters_attention (g a : Nat) :
    (s.setParameters g a).attention = s.attention := rfl
@[simp] theorem State.setParameters_graceSeconds (g a : Nat) : (s.setParameters g a).graceSeconds = g := rfl
@[simp] theorem State.setParameters_agingLimit (g a : Nat) : (s.setParameters g a).agingLimit = a := rfl
@[simp] theorem State.setParameters_visitCounter (g a : Nat) :
    (s.setParameters g a).visitCounter = s.visitCounter := rfl
@[simp] theorem State.setParameters_freeIndex (g a : Nat) :
    (s.setParameters g a).freeIndex = s.freeIndex := rfl
@[simp] theorem State.setParameters_pending (g a : Nat) : (s.setParameters g a).pending = s.pending := rfl

/-! ## freezeSlots -/

@[simp] theorem State.freezeSlots_lanes (k n : Nat) (b : Bool) : (s.freezeSlots k n b).lanes = s.lanes := by
  unfold State.freezeSlots; rfl
@[simp] theorem State.freezeSlots_lastGranted (k n : Nat) (b : Bool) :
    (s.freezeSlots k n b).lastGranted = s.lastGranted := by
  unfold State.freezeSlots; rfl
@[simp] theorem State.freezeSlots_types (k n : Nat) (b : Bool) : (s.freezeSlots k n b).types = s.types := by
  unfold State.freezeSlots; rfl
@[simp] theorem State.freezeSlots_tariffs (k n : Nat) (b : Bool) :
    (s.freezeSlots k n b).tariffs = s.tariffs := by
  unfold State.freezeSlots; rfl
@[simp] theorem State.freezeSlots_accounts (k n : Nat) (b : Bool) :
    (s.freezeSlots k n b).accounts = Vector.ofFn (fun a => if inRun k n a then { s.accounts[a] with frozen := b } else s.accounts[a]) := by
  unfold State.freezeSlots; rfl
@[simp] theorem State.freezeSlots_visits (k n : Nat) (b : Bool) :
    (s.freezeSlots k n b).visits = s.visits := by
  unfold State.freezeSlots; rfl
@[simp] theorem State.freezeSlots_settleWait (k n : Nat) (b : Bool) :
    (s.freezeSlots k n b).settleWait = s.settleWait := by
  unfold State.freezeSlots; rfl
@[simp] theorem State.freezeSlots_settlementQueue (k n : Nat) (b : Bool) :
    (s.freezeSlots k n b).settlementQueue = s.settlementQueue := by
  unfold State.freezeSlots; rfl
@[simp] theorem State.freezeSlots_responses (k n : Nat) (b : Bool) :
    (s.freezeSlots k n b).responses = s.responses := by
  unfold State.freezeSlots; rfl
@[simp] theorem State.freezeSlots_items (k n : Nat) (b : Bool) : (s.freezeSlots k n b).items = s.items := by
  unfold State.freezeSlots; rfl
@[simp] theorem State.freezeSlots_lossCount (k n : Nat) (b : Bool) :
    (s.freezeSlots k n b).lossCount = s.lossCount := by
  unfold State.freezeSlots; rfl
@[simp] theorem State.freezeSlots_trunkRx (k n : Nat) (b : Bool) :
    (s.freezeSlots k n b).trunkRx = s.trunkRx := by
  unfold State.freezeSlots; rfl
@[simp] theorem State.freezeSlots_trunkTx (k n : Nat) (b : Bool) :
    (s.freezeSlots k n b).trunkTx = s.trunkTx := by
  unfold State.freezeSlots; rfl
@[simp] theorem State.freezeSlots_partFlags (k n : Nat) (b : Bool) :
    (s.freezeSlots k n b).partFlags = s.partFlags := by
  unfold State.freezeSlots; rfl
@[simp] theorem State.freezeSlots_partMasks (k n : Nat) (b : Bool) :
    (s.freezeSlots k n b).partMasks = s.partMasks := by
  unfold State.freezeSlots; rfl
@[simp] theorem State.freezeSlots_laneMasks (k n : Nat) (b : Bool) :
    (s.freezeSlots k n b).laneMasks = s.laneMasks := by
  unfold State.freezeSlots; rfl
@[simp] theorem State.freezeSlots_attention (k n : Nat) (b : Bool) :
    (s.freezeSlots k n b).attention = s.attention := by
  unfold State.freezeSlots; rfl
@[simp] theorem State.freezeSlots_graceSeconds (k n : Nat) (b : Bool) :
    (s.freezeSlots k n b).graceSeconds = s.graceSeconds := by
  unfold State.freezeSlots; rfl
@[simp] theorem State.freezeSlots_agingLimit (k n : Nat) (b : Bool) :
    (s.freezeSlots k n b).agingLimit = s.agingLimit := by
  unfold State.freezeSlots; rfl
@[simp] theorem State.freezeSlots_visitCounter (k n : Nat) (b : Bool) :
    (s.freezeSlots k n b).visitCounter = s.visitCounter := by
  unfold State.freezeSlots; rfl
@[simp] theorem State.freezeSlots_freeIndex (k n : Nat) (b : Bool) :
    (s.freezeSlots k n b).freeIndex = s.freeIndex := by
  unfold State.freezeSlots; rfl
@[simp] theorem State.freezeSlots_pending (k n : Nat) (b : Bool) :
    (s.freezeSlots k n b).pending = s.pending := by
  unfold State.freezeSlots; rfl

/-! ## clearPaid -/

@[simp] theorem State.clearPaid_lanes : (s.clearPaid).lanes = s.lanes := by
  unfold State.clearPaid; rfl
@[simp] theorem State.clearPaid_lastGranted : (s.clearPaid).lastGranted = s.lastGranted := by
  unfold State.clearPaid; rfl
@[simp] theorem State.clearPaid_types : (s.clearPaid).types = s.types := by
  unfold State.clearPaid; rfl
@[simp] theorem State.clearPaid_tariffs : (s.clearPaid).tariffs = s.tariffs := by
  unfold State.clearPaid; rfl
@[simp] theorem State.clearPaid_accounts  :
    (s.clearPaid).accounts = updAll s.accounts (fun r => { r with paidToday := 0 }) := by
  unfold State.clearPaid; rfl
@[simp] theorem State.clearPaid_visits : (s.clearPaid).visits = s.visits := by
  unfold State.clearPaid; rfl
@[simp] theorem State.clearPaid_settleWait : (s.clearPaid).settleWait = s.settleWait := by
  unfold State.clearPaid; rfl
@[simp] theorem State.clearPaid_settlementQueue : (s.clearPaid).settlementQueue = s.settlementQueue := by
  unfold State.clearPaid; rfl
@[simp] theorem State.clearPaid_responses : (s.clearPaid).responses = s.responses := by
  unfold State.clearPaid; rfl
@[simp] theorem State.clearPaid_items : (s.clearPaid).items = s.items := by
  unfold State.clearPaid; rfl
@[simp] theorem State.clearPaid_lossCount : (s.clearPaid).lossCount = s.lossCount := by
  unfold State.clearPaid; rfl
@[simp] theorem State.clearPaid_trunkRx : (s.clearPaid).trunkRx = s.trunkRx := by
  unfold State.clearPaid; rfl
@[simp] theorem State.clearPaid_trunkTx : (s.clearPaid).trunkTx = s.trunkTx := by
  unfold State.clearPaid; rfl
@[simp] theorem State.clearPaid_partFlags : (s.clearPaid).partFlags = s.partFlags := by
  unfold State.clearPaid; rfl
@[simp] theorem State.clearPaid_partMasks : (s.clearPaid).partMasks = s.partMasks := by
  unfold State.clearPaid; rfl
@[simp] theorem State.clearPaid_laneMasks : (s.clearPaid).laneMasks = s.laneMasks := by
  unfold State.clearPaid; rfl
@[simp] theorem State.clearPaid_attention : (s.clearPaid).attention = s.attention := by
  unfold State.clearPaid; rfl
@[simp] theorem State.clearPaid_graceSeconds : (s.clearPaid).graceSeconds = s.graceSeconds := by
  unfold State.clearPaid; rfl
@[simp] theorem State.clearPaid_agingLimit : (s.clearPaid).agingLimit = s.agingLimit := by
  unfold State.clearPaid; rfl
@[simp] theorem State.clearPaid_visitCounter : (s.clearPaid).visitCounter = s.visitCounter := by
  unfold State.clearPaid; rfl
@[simp] theorem State.clearPaid_freeIndex : (s.clearPaid).freeIndex = s.freeIndex := by
  unfold State.clearPaid; rfl
@[simp] theorem State.clearPaid_pending : (s.clearPaid).pending = s.pending := by
  unfold State.clearPaid; rfl

end Sys2Proof.Machine
end

