-- ==== Sys2Proof/Laws/Ops.lean ====
section
/-! SUPPORT. For each shared operation, one lemma that says once everything it can do: which fields it may
change, and to what where that is short. A later proof cites these and unfolds nothing. -/

namespace Sys2Proof.Machine

variable (s : State)

/-! ## Flags and the end of an event -/

theorem State.latchPart_eq (f : PartFlag) :
    s.latchPart f = { s with partFlags := s.partFlags ||| f.bit } := rfl

theorem State.latchPartIf_eq (f : PartFlag) (b : Bool) :
    s.latchPartIf f b = { s with partFlags := if b then s.partFlags ||| f.bit else s.partFlags } := by
  cases b <;> rfl

theorem State.latchLane_eq (l : Lane) (f : LaneFlag) :
    s.latchLane l f = s.modifyLane l (fun p => { p with flags := p.flags ||| f.bit }) := rfl

theorem State.latchLaneIf_frame (l : Lane) (f : LaneFlag) (b : Bool) :
    ∃ lanes, s.latchLaneIf l f b = { s with lanes := lanes } ∧
      ∀ m : Lane, lanes[m] = if m = l ∧ b = true then s.lanes[m].latch f else s.lanes[m] := by
  cases b
  · exact ⟨s.lanes, rfl, fun m => by simp⟩
  · refine ⟨upd s.lanes l (fun p => p.latch f), rfl, fun m => ?_⟩
    rw [upd_get]
    by_cases h : m = l
    · simp [h]
    · simp [h]

/-- The end of an event re-evaluates attention, then an idle transmitter chooses (R171, R193). -/
theorem State.finish_eq :
    s.finish = { s with
      attention := s.attentionNow
      trunkTx := match s.trunkTx with
        | .idle => s.reevaluateAttention.chosenTx
        | tx => tx } := by
  obtain ⟨lanes, lastGranted, types, tariffs, accounts, visits, settleWait, settlementQueue, responses, items,
    lossCount, trunkRx, trunkTx, partFlags, partMasks, laneMasks, attention, grace, aging, counter, free,
    pending⟩ := s
  cases trunkTx <;> rfl

@[simp] theorem State.finish_attention : s.finish.attention = s.attentionNow := by rw [State.finish_eq]

theorem State.finish_busy (h : s.trunkTx ≠ .idle) : s.finish = { s with attention := s.attentionNow } := by
  rw [State.finish_eq]
  cases hx : s.trunkTx with
  | idle => exact absurd hx h
  | sending q p f => simp only

@[simp] theorem State.finish_lanes : s.finish.lanes = s.lanes := by rw [State.finish_eq]
@[simp] theorem State.finish_lastGranted : s.finish.lastGranted = s.lastGranted := by rw [State.finish_eq]
@[simp] theorem State.finish_types : s.finish.types = s.types := by rw [State.finish_eq]
@[simp] theorem State.finish_tariffs : s.finish.tariffs = s.tariffs := by rw [State.finish_eq]
@[simp] theorem State.finish_accounts : s.finish.accounts = s.accounts := by rw [State.finish_eq]
@[simp] theorem State.finish_visits : s.finish.visits = s.visits := by rw [State.finish_eq]
@[simp] theorem State.finish_settleWait : s.finish.settleWait = s.settleWait := by rw [State.finish_eq]
@[simp] theorem State.finish_settlementQueue : s.finish.settlementQueue = s.settlementQueue := by rw [State.finish_eq]
@[simp] theorem State.finish_responses : s.finish.responses = s.responses := by rw [State.finish_eq]
@[simp] theorem State.finish_items : s.finish.items = s.items := by rw [State.finish_eq]
@[simp] theorem State.finish_lossCount : s.finish.lossCount = s.lossCount := by rw [State.finish_eq]
@[simp] theorem State.finish_trunkRx : s.finish.trunkRx = s.trunkRx := by rw [State.finish_eq]
@[simp] theorem State.finish_partFlags : s.finish.partFlags = s.partFlags := by rw [State.finish_eq]
@[simp] theorem State.finish_partMasks : s.finish.partMasks = s.partMasks := by rw [State.finish_eq]
@[simp] theorem State.finish_laneMasks : s.finish.laneMasks = s.laneMasks := by rw [State.finish_eq]
@[simp] theorem State.finish_graceSeconds : s.finish.graceSeconds = s.graceSeconds := by rw [State.finish_eq]
@[simp] theorem State.finish_agingLimit : s.finish.agingLimit = s.agingLimit := by rw [State.finish_eq]
@[simp] theorem State.finish_visitCounter : s.finish.visitCounter = s.visitCounter := by rw [State.finish_eq]
@[simp] theorem State.finish_freeIndex : s.finish.freeIndex = s.freeIndex := by rw [State.finish_eq]
@[simp] theorem State.finish_pending : s.finish.pending = s.pending := by rw [State.finish_eq]

/-- A request on a Response Queue with room (R160). -/
theorem State.serve_room (tag code : Byte) (m : State → Answer) (h : s.responses.length < 4) :
    s.serve tag code m =
      ((m s).state.respond ⟨tag, code, (m s).code, (m s).detail⟩).finish := by
  simp [State.serve, h]

/-- A request on a full Response Queue (R161). -/
theorem State.serve_full (tag code : Byte) (m : State → Answer) (h : 4 ≤ s.responses.length) :
    s.serve tag code m = s.overrun := by
  have : ¬ s.responses.length < 4 := by omega
  simp [State.serve, this]

/-! ## Item records -/

/-- A record joins the queue, or is dropped with a count and ITEM_LOSS (R93). -/
theorem State.placeItem_cases (e : ItemEntry) :
    (s.items.length < 32 ∧ s.placeItem e = { s with items := s.items ++ [e] }) ∨
    (32 ≤ s.items.length ∧ s.placeItem e = { s with
      lossCount := satAdd 65535 s.lossCount 1
      partFlags := s.partFlags ||| PartFlag.itemLoss.bit }) := by
  by_cases h : s.items.length < 32
  · exact .inl ⟨h, by simp [State.placeItem, h, State.setItems]⟩
  · refine .inr ⟨by omega, ?_⟩
    simp [State.placeItem, h, State.latchPart, State.setPartFlags, State.setLossCount]

theorem State.placeItem_frame (e : ItemEntry) :
    ∃ items loss flags, s.placeItem e = { s with items := items, lossCount := loss, partFlags := flags } ∧
      items.length ≤ max 32 s.items.length ∧ (s.lossCount ≤ 65535 → loss ≤ 65535) := by
  rcases s.placeItem_cases e with ⟨h, e⟩ | ⟨h, e⟩
  · exact ⟨_, s.lossCount, s.partFlags, e, by simp; omega, id⟩
  · exact ⟨s.items, _, _, e, Nat.le_max_right _ _, fun _ => satAdd_le_top _ _ _⟩

/-- Item records touch the Item Record Queue, the loss count and ITEM_LOSS alone. -/
theorem State.offerRecord_frame (r : ItemRecord) :
    ∃ items loss flags, s.offerRecord r = { s with items := items, lossCount := loss, partFlags := flags } ∧
      items.length ≤ max 32 s.items.length ∧ (s.lossCount ≤ 65535 → loss ≤ 65535) := by
  unfold State.offerRecord
  split
  · exact s.placeItem_frame _
  · exact ⟨s.items, s.lossCount, s.partFlags, rfl, Nat.le_max_right _ _, id⟩

theorem State.offerRecords_frame (rs : List ItemRecord) :
    ∃ items loss flags, s.offerRecords rs = { s with items := items, lossCount := loss, partFlags := flags } ∧
      items.length ≤ max 32 s.items.length ∧ (s.lossCount ≤ 65535 → loss ≤ 65535) := by
  induction rs generalizing s with
  | nil => exact ⟨s.items, s.lossCount, s.partFlags, rfl, Nat.le_max_right _ _, id⟩
  | cons r rs ih =>
    obtain ⟨i, n, f, e, hi, hn⟩ := s.offerRecord_frame r
    obtain ⟨i', n', f', e', hi', hn'⟩ := ih (s.offerRecord r)
    have e'' : s.offerRecords (r :: rs) = (s.offerRecord r).offerRecords rs := rfl
    refine ⟨i', n', f', by rw [e'', e', e], ?_, ?_⟩
    · rw [e] at hi'; simp only at hi'; omega
    · intro h; rw [e] at hn'; exact hn' (hn h)

/-- Chosen items leave a lane, each with its record (R20, R24, R39). -/
theorem State.removeItems_frame (l : Lane) (o : ItemOutcome) (c : Choice) :
    ∃ items loss flags, s.removeItems l o c =
        { s with lanes := upd s.lanes l (fun p => p.without c)
                 items := items, lossCount := loss, partFlags := flags } ∧
      items.length ≤ max 32 s.items.length ∧ (s.lossCount ≤ 65535 → loss ≤ 65535) := by
  obtain ⟨i, n, f, e, hi, hn⟩ := s.offerRecords_frame (s.removalRecords l o c)
  exact ⟨i, n, f, by rw [State.removeItems, e]; rfl, hi, hn⟩

/-- A visit's items leave every lane, each with its record. -/
theorem State.purgeVisit_frame (o : ItemOutcome) (t : VisitTag) :
    ∃ lanes items loss flags, s.purgeVisit o t =
        { s with lanes := lanes, items := items, lossCount := loss, partFlags := flags } ∧
      items.length ≤ max 32 s.items.length ∧ (s.lossCount ≤ 65535 → loss ≤ 65535) := by
  unfold State.purgeVisit
  generalize allLanes = ls
  induction ls generalizing s with
  | nil => exact ⟨s.lanes, s.items, s.lossCount, s.partFlags, rfl, Nat.le_max_right _ _, id⟩
  | cons l ls ih =>
    obtain ⟨i, n, f, e, hi, hn⟩ := s.removeItems_frame l o (Choice.ofVisit t)
    obtain ⟨p', i', n', f', e', hi', hn'⟩ := ih (s.removeItems l o (Choice.ofVisit t))
    refine ⟨p', i', n', f', by rw [List.foldl_cons, e', e], ?_, ?_⟩
    · rw [e] at hi'; simp only at hi'; omega
    · intro h; rw [e] at hn'; exact hn' (hn h)

/-! ## Tagged counts and the drain -/

theorem State.raiseTagged_frame (t : Option VisitTag) (n : Nat) :
    ∃ visits, s.raiseTagged t n = { s with visits := visits } := by
  cases t with
  | none => exact ⟨s.visits, rfl⟩
  | some t =>
    simp only [State.raiseTagged]
    split
    · exact ⟨_, rfl⟩
    · exact ⟨s.visits, rfl⟩

theorem State.lowerTagged_frame (t : VisitTag) (n : Nat) :
    ∃ visits, s.lowerTagged t n = { s with visits := visits } := by
  unfold State.lowerTagged
  split
  · exact ⟨_, rfl⟩
  · exact ⟨s.visits, rfl⟩

/-- A visit whose drain is complete enters SETTLING, and any other state is left as it is (R19, R22). -/
theorem State.completeDrain_cases (v : VisitSlot) :
    (s.drained v = true ∧ s.completeDrain v = s.enterSettling v) ∨
    (s.drained v = false ∧ s.completeDrain v = s) := by
  cases h : s.drained v
  · exact .inr ⟨rfl, by simp [State.completeDrain, h]⟩
  · exact .inl ⟨rfl, by simp [State.completeDrain, h]⟩

theorem State.enterSettling_eq (v : VisitSlot) :
    s.enterSettling v = { s with
      visits := upd s.visits v (fun r => { r with state := .settling, grace := 0 })
      settleWait := s.settleWait ++ [s.visitTag v] } := rfl

theorem State.completeDrain_frame (v : VisitSlot) :
    ∃ visits wait, s.completeDrain v = { s with visits := visits, settleWait := wait } := by
  rcases s.completeDrain_cases v with ⟨-, e⟩ | ⟨-, e⟩
  · exact ⟨_, _, e⟩
  · exact ⟨s.visits, s.settleWait, e⟩

theorem State.drainTagged_frame (t : VisitTag) (n : Nat) :
    ∃ visits wait, s.drainTagged t n = { s with visits := visits, settleWait := wait } := by
  obtain ⟨v, e⟩ := s.lowerTagged_frame t n
  obtain ⟨v', w', e'⟩ := (s.lowerTagged t n).completeDrain_frame t.slot
  exact ⟨v', w', by rw [State.drainTagged, e', e]⟩

/-! ## Lanes of a visit -/

theorem State.giveUpLanes_frame (v : VisitSlot) :
    s.giveUpLanes v = { s with
      lanes := Vector.ofFn (fun l =>
        if inSet s.visits[v].laneSet l then { s.lanes[l] with state := .idle } else s.lanes[l])
      visits := upd s.visits v (fun r => { r with laneSet := 0 }) } := rfl

theorem State.leaveOpen_frame (v : VisitSlot) (c : CloseCause) :
    ∃ visits wait, s.leaveOpen v c = { s with
      lanes := (s.giveUpLanes v).lanes
      visits := visits
      settleWait := wait } := by
  obtain ⟨v', w', e⟩ := ((s.giveUpLanes v).modifyVisit v (fun r =>
    { r with cause := c, state := .closing, grace := s.graceSeconds })).completeDrain_frame v
  exact ⟨v', w', by rw [State.leaveOpen, e]; rfl⟩

/-! ## Segments, pins and floats -/

theorem State.addSegment_eq (v : VisitSlot) (a : AccountSlot) :
    s.addSegment v a = { s with
      visits := upd s.visits v (fun r => { r with segments := r.segments ++ [newSegment a s.accounts[a]] })
      accounts := upd s.accounts a (fun r => { r with useCount := r.useCount + 1 }) } := rfl

theorem State.dropUses_frame (gs : List Segment) :
    ∃ accounts, s.dropUses gs = { s with accounts := accounts } := by
  unfold State.dropUses
  induction gs generalizing s with
  | nil => exact ⟨s.accounts, rfl⟩
  | cons g gs ih =>
    obtain ⟨a, e⟩ := ih (s.modifyAccount g.accountSlot (fun r => { r with useCount := r.useCount - 1 }))
    exact ⟨a, by rw [List.foldl_cons, e]; rfl⟩

/-- A released pin lowers its slot's count; the last pin of a RETIRING slot empties it and latches
TARIFF_RETIRED (R124). -/
theorem State.unpin_frame (p : Option Pin) :
    ∃ tariffs flags, s.unpin p = { s with tariffs := tariffs, partFlags := flags } := by
  cases p with
  | none => exact ⟨s.tariffs, s.partFlags, rfl⟩
  | some p =>
    simp only [State.unpin]
    split
    · exact ⟨_, s.partFlags, rfl⟩
    · split
      · exact ⟨_, _, rfl⟩
      · exact ⟨_, s.partFlags, rfl⟩
    · exact ⟨s.tariffs, s.partFlags, rfl⟩
    · exact ⟨s.tariffs, s.partFlags, rfl⟩

/-- A record returns to FREE with its use counts and its pin (R23). -/
theorem State.freeVisit_frame (v : VisitSlot) :
    ∃ accounts tariffs flags, s.freeVisit v = { s with
      accounts := accounts
      tariffs := tariffs
      partFlags := flags
      visits := upd s.visits v (fun _ => Visit.free) } := by
  obtain ⟨a, e⟩ := s.dropUses_frame s.visits[v].segments
  obtain ⟨t, f, e'⟩ := (s.dropUses s.visits[v].segments).unpin_frame s.visits[v].pin
  exact ⟨a, t, f, by rw [State.freeVisit, e', e]; rfl⟩

theorem State.addFloat_frame (a : AccountSlot) (f : Family) (n : Nat) :
    ∃ flags, s.addFloat a f n = { s with
      accounts := upd s.accounts a (fun r =>
        { r with floats := upd r.floats f (fun _ => satAdd 65535 s.accounts[a].floats[f] n) })
      partFlags := flags } := by
  unfold State.addFloat
  rw [State.latchPartIf_eq]
  exact ⟨_, rfl⟩

theorem State.addBackSegment_frame (g : Segment) :
    ∃ accounts flags, s.addBackSegment g = { s with accounts := accounts, partFlags := flags } := by
  unfold State.addBackSegment
  generalize allFamilies = fs
  induction fs generalizing s with
  | nil => exact ⟨s.accounts, s.partFlags, rfl⟩
  | cons f fs ih =>
    obtain ⟨x, e⟩ := s.addFloat_frame g.accountSlot f g.floatTaken[f]
    obtain ⟨a, y, e'⟩ := ih (s.addFloat g.accountSlot f g.floatTaken[f])
    exact ⟨a, y, by rw [List.foldl_cons, e', e]⟩

theorem State.addBack_frame (gs : List Segment) :
    ∃ accounts flags, s.addBack gs = { s with accounts := accounts, partFlags := flags } := by
  unfold State.addBack
  induction gs generalizing s with
  | nil => exact ⟨s.accounts, s.partFlags, rfl⟩
  | cons g gs ih =>
    obtain ⟨x, y, e⟩ := s.addBackSegment_frame g
    obtain ⟨a, z, e'⟩ := ih (s.addBackSegment g)
    exact ⟨a, z, by rw [List.foldl_cons, e', e]⟩

/-! ## Commits and settlement -/

theorem State.takeFloat_frame (a : AccountSlot) (f : Option Family) :
    ∃ accounts, s.takeFloat a f = { s with accounts := accounts } := by
  cases f with
  | none => exact ⟨s.accounts, rfl⟩
  | some f => exact ⟨_, rfl⟩

/-- One item's commit touches its visit, an account, the lane's flags and the item records (R83 to R93). -/
theorem State.commitItem_frame (l : Lane) (v : VisitSlot) (k : Nat) (en : Conditions) (i : CommitItem) :
    ∃ visits accounts lanes items loss flags, s.commitItem l v k en i = { s with
        visits := visits, accounts := accounts, lanes := lanes
        items := items, lossCount := loss, partFlags := flags } ∧
      items.length ≤ max 32 s.items.length ∧ (s.lossCount ≤ 65535 → loss ≤ 65535) := by
  unfold State.commitItem
  split
  · exact ⟨s.visits, s.accounts, s.lanes, s.items, s.lossCount, s.partFlags, rfl, Nat.le_max_right _ _, id⟩
  · rename_i g _
    dsimp only
    generalize passage en s.accounts[g.accountSlot].floats g i = p
    obtain ⟨a, ea⟩ := (s.setSegment v k p.segment).takeFloat_frame g.accountSlot p.takes
    obtain ⟨x, ex, -⟩ := ((s.setSegment v k p.segment).takeFloat g.accountSlot p.takes).latchLaneIf_frame l
      .diverted (p.outcome == .diverted)
    obtain ⟨y, ey, -⟩ := (((s.setSegment v k p.segment).takeFloat g.accountSlot p.takes).latchLaneIf l
      .diverted (p.outcome == .diverted)).latchLaneIf_frame l .excess (p.outcome == .excess)
    obtain ⟨i', n, f, e, hi, hn⟩ := ((((s.setSegment v k p.segment).takeFloat g.accountSlot p.takes).latchLaneIf l
      .diverted (p.outcome == .diverted)).latchLaneIf l .excess (p.outcome == .excess)).offerRecord_frame
        (commitRecord l s.visits[v].number k i p)
    refine ⟨_, a, y, i', n, f, by rw [e, ey, ex, ea]; rfl, ?_, ?_⟩
    · rw [ey, ex, ea] at hi; exact hi
    · rw [ey, ex, ea] at hn; exact hn

theorem State.commitItems_frame (l : Lane) (v : VisitSlot) (k : Nat) (en : Conditions) (is : List CommitItem) :
    ∃ visits accounts lanes items loss flags, s.commitItems l v k en is = { s with
        visits := visits, accounts := accounts, lanes := lanes
        items := items, lossCount := loss, partFlags := flags } ∧
      items.length ≤ max 32 s.items.length ∧ (s.lossCount ≤ 65535 → loss ≤ 65535) := by
  unfold State.commitItems
  induction is generalizing s with
  | nil => exact ⟨s.visits, s.accounts, s.lanes, s.items, s.lossCount, s.partFlags, rfl, Nat.le_max_right _ _, id⟩
  | cons i is ih =>
    obtain ⟨v1, a1, l1, i1, n1, f1, e1, hi, hn⟩ := s.commitItem_frame l v k en i
    obtain ⟨v2, a2, l2, i2, n2, f2, e2, hi', hn'⟩ := ih (s.commitItem l v k en i)
    refine ⟨v2, a2, l2, i2, n2, f2, by rw [List.foldl_cons, e2, e1], ?_, ?_⟩
    · rw [e1] at hi'; simp only at hi'; omega
    · intro h; rw [e1] at hn'; exact hn' (hn h)

/-- One segment's settlement writes its account, places its record and may latch HELD_OVERFLOW (R148). -/
theorem State.settleSegment_frame (h : TariffHeader) (v : SettleVisit) (k : Nat) (g : Segment) :
    ∃ flags, s.settleSegment h v k g = { s with
      accounts := upd s.accounts g.accountSlot (fun a => a.settle (amountsOf h s.accounts[g.accountSlot] g))
      settlementQueue := s.settlementQueue ++
        [.settled (settlementRecord h v k (amountsOf h s.accounts[g.accountSlot] g) g)]
      partFlags := flags } := by
  unfold State.settleSegment
  dsimp only
  rw [State.latchPartIf_eq]
  exact ⟨_, rfl⟩

theorem State.settleSegments_frame (h : TariffHeader) (v : SettleVisit) (k : Nat) (gs : List Segment) :
    ∃ accounts queue flags, s.settleSegments h v k gs = { s with
        accounts := accounts, settlementQueue := queue, partFlags := flags } ∧
      queue.length = s.settlementQueue.length + gs.length := by
  induction gs generalizing s k with
  | nil => exact ⟨s.accounts, s.settlementQueue, s.partFlags, rfl, rfl⟩
  | cons g gs ih =>
    obtain ⟨f, e⟩ := s.settleSegment_frame h v k g
    obtain ⟨a, q, f', e', hq⟩ := ih (s.settleSegment h v k g) (k + 1)
    refine ⟨a, q, f', by rw [State.settleSegments, e', e], ?_⟩
    rw [hq, e]; simp; omega

/-! ## Bytes of fields -/

@[simp] theorem beBytes_length (width n : Nat) : (beBytes width n).length = width := by
  induction width with
  | zero => rfl
  | succ width ih => simp [beBytes, ih]

theorem be8_eq_beBytes (n : Nat) : be8 n = beBytes 1 n := by simp [be8, beBytes]
theorem be16_eq_beBytes (n : Nat) : be16 n = beBytes 2 n := by simp [be16, beBytes]
theorem be24_eq_beBytes (n : Nat) : be24 n = beBytes 3 n := by simp [be24, beBytes]
theorem be32_eq_beBytes (n : Nat) : be32 n = beBytes 4 n := by simp [be32, beBytes]

/-- Every capacity of an Identify takes 1 to 4 bytes. -/
theorem capacityWidths_range : ∀ w ∈ capacityWidths, 1 ≤ w ∧ w ≤ 4 := by
  intro w h
  have least : ∀ n least, 1 ≤ least → least ≤ 4 →
      1 ≤ max least ((Config.capacityWidth n).val + 1) ∧ max least ((Config.capacityWidth n).val + 1) ≤ 4 := by
    intro n least h1 h4
    have := (Config.capacityWidth n).isLt
    omega
  simp only [capacityWidths, List.mem_cons, List.not_mem_nil, or_false] at h
  rcases h with rfl | rfl | rfl | rfl | rfl | rfl | rfl | rfl | rfl
  · exact least 0 1 (by decide) (by decide)
  · exact least 1 1 (by decide) (by decide)
  · decide
  · exact least 2 1 (by decide) (by decide)
  · exact least 3 1 (by decide) (by decide)
  · exact least 4 2 (by decide) (by decide)
  · exact least 5 1 (by decide) (by decide)
  · decide
  · decide

/-! ## Runs of commands and the transmitter -/

@[simp] theorem execAll_nil : execAll [] s = .next s := rfl

theorem execAll_cons_next {c : Instr} {t : State} (cs : List Instr) (h : exec c s = .next t) :
    execAll (c :: cs) s = execAll cs t := by simp [execAll, h]

/-- An event that leaves a busy transmitter on the oldest message of its queue ends with a sound transmitter: an
idle one has started the message it chose, or has none. -/
theorem State.finish_transmitterSound
    (h : ∀ q part f, s.trunkTx = .sending q part f → ∃ (m : Message) (attention : Bool), s.oldest q = some m ∧
      (part = .only → m.lines = [] ∧ f = m.firstFrame attention) ∧
      (part = .first → m.lines ≠ [] ∧ f = m.firstFrame attention) ∧
      (part = .second → m.lines ≠ [] ∧ f = m.secondFrame attention)) :
    s.finish.TransmitterSound := by
  have keeps : ∀ q, s.finish.oldest q = s.oldest q := by intro q; cases q <;> simp [State.oldest]
  cases hx : s.trunkTx with
  | sending q part f =>
    have e : s.finish.trunkTx = .sending q part f := by rw [s.finish_busy (by rw [hx]; nofun)]; exact hx
    refine ⟨fun hi => (by rw [e] at hi; cases hi), fun q' part' f' hs => ?_⟩
    rw [e] at hs; cases hs
    rw [keeps]; exact h q part f hx
  | idle =>
    have e : s.finish.trunkTx = s.reevaluateAttention.chosenTx := by rw [State.finish_eq, hx]
    have start : ∀ q m, s.oldest q = some m → s.finish.trunkTx = startMessage q m s.attentionNow →
        s.finish.TransmitterSound := by
      intro q m ho hs
      refine ⟨fun hi => (by rw [hi] at hs; cases hs), fun q' part' f' ht => ?_⟩
      rw [hs] at ht; cases ht
      refine ⟨m, s.attentionNow, (keeps q).trans ho, ?_, ?_, ?_⟩ <;> intro hp <;>
        cases hl : m.lines <;> simp_all
    cases hr : s.responses with
    | cons r rs =>
      exact start .responses (.response r) (by simp [State.oldest, hr])
        (by rw [e]; simp [State.chosenTx, State.nextQueue, State.oldest, State.reevaluateAttention,
          State.setAttention, hr])
    | nil =>
      cases hq : s.settlementQueue with
      | cons r rs =>
        exact start .settlements (.settlement r) (by simp [State.oldest, hq])
          (by rw [e]; simp [State.chosenTx, State.nextQueue, State.oldest, State.reevaluateAttention,
            State.setAttention, hr, hq])
      | nil =>
        cases hi : s.items with
        | cons r rs =>
          exact start .items (.item r) (by simp [State.oldest, hi])
            (by rw [e]; simp [State.chosenTx, State.nextQueue, State.oldest, State.reevaluateAttention,
              State.setAttention, hr, hq, hi])
        | nil =>
          have e' : s.finish.trunkTx = .idle := by
            rw [e]; simp [State.chosenTx, State.nextQueue, State.reevaluateAttention, State.setAttention, hr, hq, hi]
          exact ⟨fun _ => by simp [hr, hq, hi], fun q part f ht => by rw [e'] at ht; cases ht⟩

end Sys2Proof.Machine
end

