-- ==== Sys2Proof/Tests/Slice0.lean ====
section
/-! SUPPORT. Tests on small states. The expected values come from the worked examples and tables of the manual,
named in each test's comment, or are computed by hand from the rule named. `witness_<Name>` shows concrete
states and operands that meet the hypotheses of `Obligations.<Name>`, clause by clause. -/

namespace Sys2Proof.Tests

open Sys2Proof Sys2Proof.Machine

set_option Elab.async false

/-! ## Ill-formed commands -/

theorem test_illFormed_openVisit : (Instr.openVisit 0 16777216 0 1).wellFormed = false ∧
    (Instr.openVisit 0 1 0 256).wellFormed = false ∧ (Instr.openVisit 0 16777215 0xFF 255).wellFormed = true := by
  decide
theorem test_illFormed_lanesOfVisit : (Instr.bindLanes 0 65536 0).wellFormed = false ∧
    (Instr.releaseLanes 0 65536 0).wellFormed = false ∧ (Instr.nextSegment 0 65536 1).wellFormed = false ∧
    (Instr.nextSegment 0 1 16777216).wellFormed = false ∧ (Instr.closeVisit 0 65536).wellFormed = false ∧
    (Instr.cancelVisit 0 65536).wellFormed = false := by decide
theorem test_illFormed_readVisit : (Instr.readVisit 0 (.number 65536) 0).wellFormed = false ∧
    (Instr.readVisit 0 (.slot 65536) 0).wellFormed = false ∧
    (Instr.readVisit 0 (.number 1) 256).wellFormed = false := by decide
theorem test_illFormed_configureLane : (Instr.configureLane 0 256 0 0 0 0).wellFormed = false ∧
    (Instr.configureLane 0 0 256 0 0 0).wellFormed = false ∧ (Instr.configureLane 0 0 0 256 0 0).wellFormed = false ∧
    (Instr.configureLane 0 0 0 0 256 0).wellFormed = false ∧
    (Instr.configureLane 0 0 0 0 0 256).wellFormed = false := by decide
theorem test_illFormed_lane : (Instr.laneReset 0 256).wellFormed = false ∧
    (Instr.readLane 0 256).wellFormed = false := by decide
theorem test_illFormed_writeType : (Instr.writeType 0 65536 (.crate 1) 0 0).wellFormed = false ∧
    (Instr.writeType 0 1 (.crate 1) 256 0).wellFormed = false ∧
    (Instr.writeType 0 1 (.pool 1) 255 256).wellFormed = false ∧
    (Instr.writeType 0 1 (.unknown 2) 0 0).wellFormed = false ∧
    (Instr.writeType 0 1 (.unknown 256) 0 0).wellFormed = false := by decide
theorem test_illFormed_kegType : (Instr.writeType 0 1 (.keg 65536 0 0 0) 0 0).wellFormed = false ∧
    (Instr.writeType 0 1 (.keg 0 65536 0 0) 0 0).wellFormed = false ∧
    (Instr.writeType 0 1 (.keg 0 0 65536 0) 0 0).wellFormed = false ∧
    (Instr.writeType 0 1 (.keg 0 0 0 65536) 0 0).wellFormed = false := by decide
theorem test_illFormed_typeRequests : (Instr.deleteType 0 65536).wellFormed = false ∧
    (Instr.readTypeByTagCode 0 65536).wellFormed = false ∧
    (Instr.readTypeByIndex 0 65536).wellFormed = false := by decide
theorem test_illFormed_tariffHeader : (Instr.writeTariffHeader 0 65536 0 0 0 0 0 0).wellFormed = false ∧
    (Instr.writeTariffHeader 0 0 256 0 0 0 0 0).wellFormed = false ∧
    (Instr.writeTariffHeader 0 0 0 65536 0 0 0 0).wellFormed = false ∧
    (Instr.writeTariffHeader 0 0 0 0 65536 0 0 0).wellFormed = false ∧
    (Instr.writeTariffHeader 0 0 0 0 0 65536 0 0).wellFormed = false ∧
    (Instr.writeTariffHeader 0 0 0 0 0 0 65536 0).wellFormed = false := by decide
theorem test_illFormed_schedule : (Instr.writeSchedule 0 256 0 0 0 0 0 0 0 0).wellFormed = false ∧
    (Instr.writeSchedule 0 0 256 0 0 0 0 0 0 0).wellFormed = false ∧
    (Instr.writeSchedule 0 0 0 65536 0 0 0 0 0 0).wellFormed = false ∧
    (Instr.writeSchedule 0 0 0 0 65536 0 0 0 0 0).wellFormed = false ∧
    (Instr.writeSchedule 0 0 0 0 0 65536 0 0 0 0).wellFormed = false ∧
    (Instr.writeSchedule 0 0 0 0 0 0 65536 0 0 0).wellFormed = false ∧
    (Instr.writeSchedule 0 0 0 0 0 0 0 65536 0 0).wellFormed = false ∧
    (Instr.writeSchedule 0 0 0 0 0 0 0 0 256 0).wellFormed = false ∧
    (Instr.writeSchedule 0 0 0 0 0 0 0 0 0 65536).wellFormed = false := by decide
theorem test_illFormed_tariffRequests : (Instr.readTariff 0 256 0).wellFormed = false ∧
    (Instr.readTariff 0 0 256).wellFormed = false ∧ (Instr.promoteTariff 0 65536).wellFormed = false := by decide
theorem test_illFormed_writeAccount : (Instr.writeAccount 0 256 1 0 0 0).wellFormed = false ∧
    (Instr.writeAccount 0 0 16777216 0 0 0).wellFormed = false ∧
    (Instr.writeAccount 0 0 1 256 0 0).wellFormed = false ∧ (Instr.writeAccount 0 0 1 0 256 0).wellFormed = false ∧
    (Instr.writeAccount 0 0 1 0 0 4294967296).wellFormed = false := by decide
theorem test_illFormed_account : (Instr.deleteAccount 0 16777216).wellFormed = false ∧
    (Instr.readAccount 0 (.number 16777216)).wellFormed = false ∧
    (Instr.readAccount 0 (.slot 16777216)).wellFormed = false := by decide
theorem test_illFormed_float : (Instr.issueContainers 0 16777216 0 1).wellFormed = false ∧
    (Instr.issueContainers 0 1 256 1).wellFormed = false ∧ (Instr.issueContainers 0 1 0 65536).wellFormed = false ∧
    (Instr.setFloat 0 16777216 0 1).wellFormed = false ∧ (Instr.setFloat 0 1 256 1).wellFormed = false ∧
    (Instr.setFloat 0 1 0 65536).wellFormed = false := by decide
theorem test_illFormed_freezeRelease : (Instr.freezeRun 0 256 1 0).wellFormed = false ∧
    (Instr.freezeRun 0 0 65536 0).wellFormed = false ∧ (Instr.freezeRun 0 0 1 256).wellFormed = false ∧
    (Instr.releaseHeld 0 16777216 1).wellFormed = false ∧
    (Instr.releaseHeld 0 1 4294967296).wellFormed = false := by decide
theorem test_illFormed_parameters : (Instr.setPartParameters 0 256 0).wellFormed = false ∧
    (Instr.setPartParameters 0 0 256).wellFormed = false := by decide
theorem test_illFormed_unknownRequest : (Instr.unknownRequest 0 0x30).wellFormed = false ∧
    (Instr.unknownRequest 0 0x31).wellFormed = true := by decide
theorem test_illFormed_laneFrames : (Instr.stackFrame 0 1 []).wellFormed = false ∧
    (Instr.stackFrame 0 1 (List.replicate 17 ⟨1, .sound, 0⟩)).wellFormed = false ∧
    (Instr.laneNotice 0 (List.replicate 33 0)).wellFormed = false := by decide

/-- The frame that address, kind, tag and payload make, its check computed. -/
def framed (address kind tag : Byte) (payload : List Byte) : Frame := Frame.make kind tag 0 payload |> fun f =>
  { f with address := address, check := crc ([address, kind, tag, 0, BitVec.ofNat 8 payload.length] ++ payload) }

theorem test_illFormed_downstream : (Instr.downstreamFrame (framed 0 0x50 0 [])).wellFormed = false ∧
    (Instr.downstreamFrame (framed 7 0x50 0 [])).wellFormed = false ∧
    (Instr.downstreamFrame { framed 1 0x50 0 [] with check := 0 }).wellFormed = false ∧
    (Instr.downstreamFrame (framed 0x7F 0x50 0 [])).wellFormed = true := by decide +kernel
theorem test_illFormed_longFrame :
    (Instr.downstreamFrame (framed 1 0x50 0 (List.replicate 201 0))).wellFormed = false := by decide +kernel

/-! ## Bytes on the links -/

/-- 10.2: "The check computed by these terms over the nine bytes 0x31 to 0x39 is 0x29B1." -/
theorem test_crc : crc [0x31, 0x32, 0x33, 0x34, 0x35, 0x36, 0x37, 0x38, 0x39] = 0x29B1#16 := by decide +kernel

/-- Visit requests, the layouts of R187 written out: account 40,117 is 00 9C B5, visit 1,050 is 04 1A. -/
theorem test_decode_visitRequests :
    decodeRequest [0x01, 0x00, 0x9C, 0xB5, 0x0A, 0x5A] = .request (.openVisit 40117 0x0A 90) ∧
    decodeRequest [0x02, 0x04, 0x1A, 0x21] = .request (.bindLanes 1050 0x21) ∧
    decodeRequest [0x03, 0x04, 0x1A, 0x21] = .request (.releaseLanes 1050 0x21) ∧
    decodeRequest [0x04, 0x04, 0x1A, 0x00, 0x9C, 0xB5] = .request (.nextSegment 1050 40117) ∧
    decodeRequest [0x05, 0x04, 0x1A] = .request (.closeVisit 1050) ∧
    decodeRequest [0x06, 0x04, 0x1A] = .request (.cancelVisit 1050) ∧
    decodeRequest [0x07, 0x01, 0x04, 0x1A, 0x02] = .request (.readVisit (.number 1050) 2) ∧
    decodeRequest [0x07, 0x00, 0x00, 0x17, 0x02] = .request (.readVisit (.slot 23) 2) := by decide

/-- Lane and type requests (R187); the keg constants are 1,500, 40, 600 and 200. -/
theorem test_decode_laneAndTypeRequests :
    decodeRequest [0x10, 0x03, 0x01, 0x01, 0x02, 0x00] = .request (.configureLane 3 1 1 2 0) ∧
    decodeRequest [0x11, 0x03] = .request (.laneReset 3) ∧ decodeRequest [0x12, 0x05] = .request (.readLane 5) ∧
    decodeRequest [0x18, 0x01, 0x36, 0x00, 0x02, 0x03, 0xFF, 0xFF, 0xFE] =
      .request (.writeType 310 (.crate 0xFFFFFE) 2 3) ∧
    decodeRequest [0x18, 0x01, 0x3B, 0x01, 0xFF, 0x03, 0x00, 0x00, 0x01] =
      .request (.writeType 315 (.pool 1) 255 3) ∧
    decodeRequest [0x18, 0x02, 0x08, 0x02, 0x05, 0x07, 0x05, 0xDC, 0x00, 0x28, 0x02, 0x58, 0x00, 0xC8] =
      .request (.writeType 520 (.keg 1500 40 600 200) 5 7) ∧
    decodeRequest [0x19, 0x02, 0x08] = .request (.deleteType 520) ∧
    decodeRequest [0x1A, 0x01, 0x02, 0x08] = .request (.readTypeByTagCode 520) ∧
    decodeRequest [0x1A, 0x00, 0x00, 0x3F] = .request (.readTypeByIndex 63) := by decide

/-- Tariff and account requests (R187). -/
theorem test_decode_tariffAndAccountRequests :
    decodeRequest [0x20, 0x00, 0x2A, 0x03, 0x00, 0x64, 0x00, 0x7D, 0x00, 0x96, 0x00, 0xC8, 0x01] =
      .request (.writeTariffHeader 42 3 100 125 150 200 1) ∧
    decodeRequest [0x21, 0x02, 0x01, 0x00, 0xA0, 0x00, 0x96, 0x00, 0x8C, 0x00, 0x82, 0x00, 0x08, 0x23, 0x00, 0xFA] =
      .request (.writeSchedule 2 1 160 150 140 130 8 35 250) ∧
    decodeRequest [0x22, 0x01, 0xFF] = .request (.readTariff 1 255) ∧
    decodeRequest [0x23, 0x34, 0x10] = .request (.promoteTariff 13328) ∧
    decodeRequest [0x24] = .request .discardPending ∧
    decodeRequest [0x28, 0x0C, 0x00, 0x9C, 0xB5, 0x01, 0x01, 0x00, 0x00, 0x61, 0xA8] =
      .request (.writeAccount 12 40117 1 1 25000) ∧
    decodeRequest [0x29, 0x00, 0x9C, 0xB5] = .request (.deleteAccount 40117) ∧
    decodeRequest [0x2A, 0x01, 0x00, 0x9C, 0xB5] = .request (.readAccount (.number 40117)) ∧
    decodeRequest [0x2A, 0x00, 0x00, 0x00, 0x0C] = .request (.readAccount (.slot 12)) ∧
    decodeRequest [0x2B, 0x00, 0x9C, 0xB5, 0x04, 0x00, 0x28] = .request (.issueContainers 40117 4 40) ∧
    decodeRequest [0x2C, 0x00, 0x9C, 0xB5, 0x04, 0xFF, 0xFA] = .request (.setFloat 40117 4 65530) ∧
    decodeRequest [0x2D, 0xC8, 0x00, 0x64, 0x01] = .request (.freezeRun 200 100 1) ∧
    decodeRequest [0x2E] = .request .dayClose ∧
    decodeRequest [0x30, 0x01, 0x12, 0x9D, 0x00, 0x00, 0x01, 0xF4] = .request (.releaseHeld 70301 500) := by decide

/-- Management requests, a code that is not listed, a wrong length, a wrong selector (R163, R187). -/
theorem test_decode_managementRequests :
    decodeRequest [0x38] = .request .identify ∧ decodeRequest [0x39] = .request .readStatus ∧
    decodeRequest [0x3A, 0x41, 0x00, 0x01, 0x02, 0x00, 0, 0, 0, 0, 0, 0, 0x03, 0xFF] =
      .request (.setMasks 0x41 ⟨0x0001, 0x0200, 0, 0, 0, 0x03FF⟩) ∧
    decodeRequest [0x3B, 0x0A, 0x08] = .request (.setPartParameters 10 8) ∧
    decodeRequest [0x3C] = .request .partReset ∧
    decodeRequest [0x31] = .unknown 0x31 ∧ decodeRequest [0x38, 0x00] = .malformed 0x38 ∧
    decodeRequest [0x07, 0x02, 0x00, 0x17, 0x02] = .malformed 0x07 := by decide

/-- Lane frames, the layouts of R186 written out: kind codes 0x21 to 0x24, tag 310, mass 1,290. -/
theorem test_decode_laneFrames :
    decodeLaneFrame (framed 0 0x21 0 [0x00, 0x01, 0x36, 0x01, 0x0F, 0xFF, 0xFE]) =
      some (.single (.crate ⟨310, .damaged, 0x0FFFFE⟩)) ∧
    decodeLaneFrame (framed 0 0x21 0 [0x01, 0x02, 0x08, 0x02, 0x05, 0x0A]) =
      some (.single (.keg 520 .scrap 1290)) ∧
    decodeLaneFrame (framed 0 0x22 0 [0x04, 0x02, 0x01, 0x36, 0x00, 0, 0, 1, 0x01, 0x36, 0x01, 0, 0, 2]) =
      some (.stack 4 [⟨310, .sound, 1⟩, ⟨310, .damaged, 2⟩]) ∧
    decodeLaneFrame (framed 0 0x23 0 [0x04]) = some (.cancel 4) ∧
    decodeLaneFrame (framed 0 0x24 0 [0xAA, 0xBB]) = some (.notice [0xAA, 0xBB]) ∧
    decodeLaneFrame (framed 0 0x23 0 [0x04, 0x05]) = none ∧ decodeLaneFrame (framed 1 0x23 0 [0x04]) = none ∧
    decodeLaneFrame (framed 0 0x21 0 [0x00, 0x01, 0x36, 0x03, 0, 0, 1]) = none := by decide +kernel

/-- R181: a receiver hunts to 0x7E, takes the frame, and a byte that it does not want is skipped. -/
theorem test_receive :
    Receiver.receiveAll .hunt (0x00 :: (framed 0 0x23 9 [0x7E]).bytes) =
      ([.frame (framed 0 0x23 9 [0x7E])], .hunt) := by decide +kernel

/-! ## Small states -/

/-- The state a command leaves, if it leaves one. -/
def nextOf : Host.Outcome State Fault Refusal → Option State
  | .next t => some t
  | .fault _ => none
  | .refused _ => none

/-- The last response placed by a command: its code and detail. -/
def answerOf (o : Host.Outcome State Fault Refusal) : Option (ResponseCode × Detail) :=
  ((nextOf o).bind (fun t => t.responses.getLast?)).map (fun r => (r.code, r.detail))

theorem next_of_some {o : Host.Outcome State Fault Refusal} (h : (nextOf o).isSome = true) :
    ∃ t, o = .next t := by
  cases o with
  | next t => exact ⟨t, rfl⟩
  | fault f => cases h
  | refused r => cases h

/-- The generation of 11.1 (schedules 2 and 5 of section 6.5), its number, mode and enables as given. -/
def gen (n : Nat) (mode : RoundingMode) (enables : Conditions) : Generation where
  header := ⟨n, mode, ⟨100, 125, 150, 200⟩, enables⟩
  schedules := upd (upd (Vector.replicate 16 Schedule.blank) 2
    (fun _ => ⟨true, ⟨160, 150, 140, 130⟩, 8, 35, 0⟩)) 5
    (fun _ => ⟨true, ⟨3100, 3000, 2900, 2800⟩, 0, 35, 250⟩)

/-- The types of 11.1; the crate's 20 valid positions are 0 to 19. -/
def crateType : TypeEntry := ⟨310, 2, .crate 1 0x0FFFFF⟩
def kegType : TypeEntry := ⟨520, 5, .keg 4 ⟨1200, 30, 500, 150⟩⟩

/-- An account slot with the floats of families 1 and 4. -/
def account (number : Nat) (cls : CustomerClass) (f1 f4 ceiling paid : Nat) : Account :=
  { Account.empty with
    number := number, cls := cls, ceiling := ceiling, paidToday := paid
    floats := upd (upd Account.empty.floats 1 (fun _ => f1)) 4 (fun _ => f4) }

/-- The starting state of 11.1. -/
def start : State :=
  { State.reset with
    tariffs := #v[.active (gen 70 .nearestEven 0) 0, .pending (gen 71 .nearestEven 0)]
    types := [crateType, kegType]
    accounts := upd (upd State.reset.accounts 12 (fun _ => account 40117 .b 60 10 25000 3000)) 30
      (fun _ => account 52006 .a 5 2 10000 0)
    lanes := upd (upd State.reset.lanes 1
      (fun p => { p with state := .idle, level := 1, reporting := true, hold := false })) 3
      (fun p => { p with state := .idle, kind := .keg, level := 3, reporting := true, hold := false })
    visitCounter := 1050 }

/-- Visit 1,050 of 11.1. -/
def tag1050 : VisitTag := ⟨0, 1050⟩

def crateRead (position : Nat) (last : Bool) (condition : Condition) (slots : SlotMap) : ReadEntry :=
  ⟨310, condition, .crate slots, some ⟨4, position, last⟩, some tag1050⟩

def kegRead (mass : Nat) : ReadEntry := ⟨520, .sound, .keg mass, none, some tag1050⟩

/-- 11.1 after the three arrivals: stack 4 on lane 1, two kegs on lane 3, five tagged items. -/
def loaded : State :=
  { start with
    tariffs := #v[.active (gen 70 .nearestEven 0) 1, .pending (gen 71 .nearestEven 0)]
    accounts := upd start.accounts 12 (fun r => { r with useCount := 1 })
    lanes := upd (upd start.lanes 1 (fun p => { p with
      state := .bound tag1050, accepted := 3
      queue := [crateRead 1 false .sound 0x0FFFFF, crateRead 2 false .sound 0x01FFFF,
        crateRead 3 true .damaged 0x0FFFFF] })) 3
      (fun p => { p with state := .bound tag1050, accepted := 2, queue := [kegRead 1290, kegRead 1215] })
    visits := upd start.visits 0 (fun _ =>
      { newVisit 1050 90 ⟨0, 70⟩ with
        laneSet := 0x0A, tagged := 5, segments := [newSegment 12 (account 40117 .b 60 10 25000 3000)] })
    visitCounter := 1051 }

/-- 11.1 before grant 6: the first two items of stack 4 staged, nothing else waiting. -/
def staged : State :=
  { loaded with
    lanes := upd (upd loaded.lanes 3 (fun p => { p with queue := [] })) 1 (fun p => { p with
      queue := [crateRead 3 true .damaged 0x0FFFFF]
      context := some ⟨4, tag1050, 0,
        [⟨1, 310, .sound, ⟨true, some 1, some 2, 20, 310, 0, false⟩⟩,
          ⟨2, 310, .sound, ⟨true, some 1, some 2, 17, 286, 0, false⟩⟩]⟩ })
    visits := upd loaded.visits 0 (fun r => { r with tagged := 3 }) }

/-- `staged` with the visit CLOSING, its lanes given up, and a grace remaining. -/
def closing (grace : Nat) : State :=
  { staged with
    lanes := upd (upd staged.lanes 1 LanePort.unbound) 3 LanePort.unbound
    visits := upd staged.visits 0 (fun r =>
      { r with state := .closing, cause := .requested, laneSet := 0, grace := grace }) }

/-- Visit 1,050 of 11.1 waiting for its settlement: two segments, pinning the RETIRING slot 0. -/
def settling : State :=
  { start with
    tariffs := #v[.retiring (gen 70 .nearestEven 0) 1, .active (gen 71 .nearestEven 0) 0]
    accounts := upd (upd start.accounts 12 (fun r => { r with useCount := 1 })) 30
      (fun r => { r with useCount := 1 })
    visits := upd start.visits 0 (fun _ =>
      { newVisit 1050 90 ⟨0, 70⟩ with
        state := .settling, cause := .requested
        segments :=
          [{ newSegment 12 (account 40117 .b 60 10 25000 3000) with gross := 6658, sticky := 1 },
            { newSegment 30 (account 52006 .a 5 2 10000 0) with gross := 3722, sticky := 1 }] })
    settleWait := [tag1050] }

/-- A state with one response more than a given number waiting for the trunk. -/
def crowded (n : Nat) : State :=
  { start with responses := List.replicate n ⟨0, 0x2E, .ok, .empty⟩ }

/-! ## Tests of the commands -/

/-- 11.1: Open Visit on lanes 1 and 3, limit 90 minutes: number 1,050, slot 0, pin 1, use count 1. -/
theorem test_openVisit : (nextOf (exec (.openVisit 7 40117 0x0A 90) start)).map (fun t =>
    (t.visits[(0 : VisitSlot)].number, t.visits[(0 : VisitSlot)].openLimit, t.tariffs[(0 : TariffIndex)].pins,
      t.accounts[(12 : AccountSlot)].useCount, t.lanes[(3 : Lane)].state, t.visitCounter)) =
    some (1050, 5400, 1, 1, .bound tag1050, 1051) := by decide +kernel

/-- 1.2: the counter at 65,534, which is held: the number assigned is 65,535 and the counter becomes 1. -/
theorem test_openVisit_wraps : (nextOf (exec (.openVisit 7 52006 0 1)
    { loaded with
      visitCounter := 65534
      visits := upd loaded.visits 0 (fun r => { r with number := 65534 }) })).map (fun t =>
    (t.visits[(1 : VisitSlot)].number, t.visitCounter)) = some (65535, 1) := by decide +kernel

/-- R11: a lane already BOUND to the visit stays, and a DISABLED lane refuses the claim. -/
theorem test_bindLanes : answerOf (exec (.bindLanes 7 1050 0x02) loaded) = some (.ok, .laneSet 0x0A) ∧
    answerOf (exec (.bindLanes 7 1050 0x06) loaded) = some (.laneDisabled, .lane 2) := by decide +kernel

/-- R12: lane 1 is released and lane 3 stays. -/
theorem test_releaseLanes : (nextOf (exec (.releaseLanes 7 1050 0x07) loaded)).map (fun t =>
    (t.visits[(0 : VisitSlot)].laneSet, t.lanes[(1 : Lane)].state, t.lanes[(3 : Lane)].state)) =
    some (0x08, .idle, .bound tag1050) := by decide +kernel

/-- 11.1: Next Segment for account 52,006 is segment 1 with snapshot A. -/
theorem test_nextSegment : (nextOf (exec (.nextSegment 7 1050 52006) loaded)).map (fun t =>
    (t.visits[(0 : VisitSlot)].segments.map (fun g => (g.accountSlot, g.cls)),
      t.accounts[(30 : AccountSlot)].useCount)) =
    some ([(12, CustomerClass.b), (30, CustomerClass.a)], 1) := by decide +kernel

/-- R15, R17: with three tagged items the visit is CLOSING with grace 10; with none it is SETTLING (11.1). -/
theorem test_closeVisit : answerOf (exec (.closeVisit 7 1050) staged) = some (.ok, .visitClosed .closing 3 10) ∧
    (nextOf (exec (.closeVisit 7 1050)
      { staged with visits := upd staged.visits 0 (fun r => { r with tagged := 0 }) })).map (fun t =>
      (t.visits[(0 : VisitSlot)].state, t.visits[(0 : VisitSlot)].grace, t.settleWait,
        t.lanes[(1 : Lane)].state)) = some (.settling, 0, [tag1050], .idle) := by decide +kernel

/-- 7.6: Cancel Visit of a float taken of 38 on a float of 65,530: clamped, 5 returned. The purge's records:
two staged with their credit and one queued with 0 (11.1, 1.13). -/
theorem test_cancelVisit : (nextOf (exec (.cancelVisit 7 1050)
    { staged with
      visits := upd staged.visits 0 (fun r => { r with
        segments := r.segments.map (fun g => { g with floatTaken := upd g.floatTaken 1 (fun _ => 38) }) })
      accounts := upd staged.accounts 12 (fun r => { r with floats := upd r.floats 1 (fun _ => 65530) }) })).map
    (fun t => (t.items.map (fun e => match e with
      | .item r => (r.outcome, r.credit)
      | .notice _ _ => (.orphan, 0)), t.accounts[(12 : AccountSlot)].floats[(1 : Family)],
      t.partFlag .floatClamp, t.responses.map (fun r => r.detail))) =
    some ([(.cancelled, 310), (.cancelled, 286), (.cancelled, 0)], 65535, true,
      [.visitCancelled 1050 .opened 3 [⟨40117, 0, 0, 0, 0, 5⟩]]) := by decide +kernel

/-- R28: a FREE slot is reported as FREE alone; a visit's open limit is reported in minutes. -/
theorem test_readVisit : answerOf (exec (.readVisit 7 (.slot 23) 0) loaded) = some (.ok, .visitFree) ∧
    ((nextOf (exec (.readVisit 7 (.number 1050) 1) loaded)).bind (fun t => t.responses.head?)).map
      (fun r => match r.detail with
        | .visitHeader h => (h.minutes, h.tagged, h.segments)
        | _ => (0, 0, 0)) = some (90, 5, 1) := by decide +kernel

/-- R33: an IDLE lane with three frames queued is disabled: two frames are lost, hold is asserted. -/
theorem test_configureLane : (nextOf (exec (.configureLane 7 1 0 0 2 0)
    { start with lanes := upd start.lanes 1 (fun p =>
      { p with txQueue := List.replicate 3 (framed 2 0x50 0 []) }) })).map (fun t =>
    (t.lanes[(1 : Lane)].state, t.lanes[(1 : Lane)].txQueue.length, t.lanes[(1 : Lane)].downLosses,
      t.lanes[(1 : Lane)].flags, t.lanes[(1 : Lane)].hold)) = some (.disabled, 1, 2, 0x200, true) := by
  decide +kernel

/-- R53: three items removed from lane 1, the tagged count falls, the CLOSING visit enters SETTLING. -/
theorem test_laneReset : (nextOf (exec (.laneReset 7 1) (closing 5))).map (fun t =>
    (t.lanes[(1 : Lane)].accepted, t.visits[(0 : VisitSlot)].state, t.settleWait, t.items)) =
    some (0, .settling, [tag1050], []) ∧
    answerOf (exec (.laneReset 7 1) (closing 5)) = some (.ok, .itemsRemoved 3) := by decide +kernel

/-- R54 with 11.1: stack 4 pending once, two staged, one queued. -/
theorem test_readLane : ((nextOf (exec (.readLane 7 1) staged)).bind (fun t => t.responses.head?)).map
    (fun r => match r.detail with
      | .laneReport l => (l.pendingStacks, l.staged, l.queued, l.context.isSome)
      | _ => ([], 0, 0, false)) = some ([4], 2, 1, true) := by decide +kernel

/-- The table of 5.7 after three writes. -/
def typed : State :=
  { start with types := [⟨310, 3, .crate 2 0xFFFFFF⟩, ⟨315, 3, .pool 0x0FFFFF⟩, ⟨520, 7, .keg 5 ⟨1500, 40, 600, 200⟩⟩] }

/-- 5.7: 315 as a POOL of family 3 is MALFORMED; 310 is REPLACED at index 0; 530 is INSERTED at index 3. -/
theorem test_writeType : answerOf (exec (.writeType 7 315 (.pool 0x0FFFFF) 3 3) typed) =
      some (.malformed, .typeRefused 315 3) ∧
    answerOf (exec (.writeType 7 310 (.crate 0x0FFFFF) 2 3) typed) = some (.ok, .typeWritten true 0 3) ∧
    answerOf (exec (.writeType 7 530 (.keg 1500 40 600 200) 5 9) typed) = some (.ok, .typeWritten false 3 4) := by
  decide +kernel

/-- 5.7: Delete Type 312 is NO_ENTRY; Delete Type 315 reports the former index 1 and 2 entries. -/
theorem test_deleteType : answerOf (exec (.deleteType 7 312) typed) = some (.noEntry, .typeCount 3) ∧
    answerOf (exec (.deleteType 7 315) typed) = some (.ok, .typeDeleted 1 2) := by decide +kernel

/-- 5.7: Read Type 312 would insert at index 1; index 3 of three entries is NO_ENTRY. -/
theorem test_readType : answerOf (exec (.readTypeByTagCode 7 312) typed) = some (.noEntry, .typeAbsent 3 1) ∧
    answerOf (exec (.readTypeByIndex 7 3) typed) = some (.noEntry, .typeCount 3) := by decide +kernel

/-- The load of generation 42 (6.5, 6.10), its schedules 2 and 5 written. -/
def load42 : State :=
  { State.reset with tariffs := #v[.pending (gen 42 .nearestEven 1), .empty] }

/-- 6.10 steps 2 and 7: the header prepares slot 0 after reset, and slot 1 beside an ACTIVE slot 0. -/
theorem test_writeTariffHeader :
    answerOf (exec (.writeTariffHeader 7 42 0 100 125 150 200 1) State.reset) =
      some (.ok, .headerWritten 0 .pending 42) ∧
    answerOf (exec (.writeTariffHeader 7 43 0 100 125 150 200 1)
      { load42 with tariffs := #v[.active (gen 42 .nearestEven 1) 2, .empty] }) =
      some (.ok, .headerWritten 1 .pending 43) := by decide +kernel

/-- 6.10 step 8: schedule 5 written, with the ullage rate 300. -/
theorem test_writeSchedule :
    (nextOf (exec (.writeSchedule 7 5 1 3100 3100 2900 2800 0 35 300) load42)).map (fun t =>
      (t.tariffs[(0 : TariffIndex)].contents.map (fun g => (g.schedules[(5 : Fin 16)], g.schedules[(2 : Fin 16)].bottle)))) =
    some (some (⟨true, ⟨3100, 3100, 2900, 2800⟩, 0, 35, 300⟩, 8)) := by decide +kernel

/-- 6.5, R118: Read Tariff of the header carries the check value 13,328 and the defined schedules 2 and 5. -/
theorem test_readTariff : answerOf (exec (.readTariff 7 0 255) load42) =
    some (.ok, .tariffHeader 0 .pending 0 ⟨42, .nearestEven, ⟨100, 125, 150, 200⟩, 1⟩ 0x0024 13328) := by
  decide +kernel

/-- 6.10 steps 4 and 9: 13,328 promotes generation 42; another value is a CHECK_MISMATCH. -/
theorem test_promoteTariff : answerOf (exec (.promoteTariff 7 13328) load42) =
      some (.ok, .promoted 0 42 13328 none) ∧
    answerOf (exec (.promoteTariff 7 13479) load42) = some (.checkMismatch, .checkMismatch 0 13479 13328) := by
  decide +kernel

/-- 11.1: the promotion of slot 1 makes slot 0, with pin 1, RETIRING. The check value of generation 71 is
71 + 0 + 100 + 125 + 150 + 200 + 0 + 624 + 12,086 (6.5). -/
theorem test_promoteTariff_former : answerOf (exec (.promoteTariff 7 13356) loaded) =
    some (.ok, .promoted 1 71 13356 (some (0, .retiring, 1))) := by decide +kernel

/-- R122. -/
theorem test_discardPending : answerOf (exec (.discardPending 7) load42) = some (.ok, .pendingDiscarded 0) ∧
    answerOf (exec (.discardPending 7) State.reset) = some (.wrongState, .tariffStates .empty 0 .empty 0) := by
  decide +kernel

/-- 7.12 steps 1, 3 and 5. -/
theorem test_writeAccount : answerOf (exec (.writeAccount 7 40 40117 2 0 0) loaded) =
      some (.duplicate, .accountHolder 12) ∧
    answerOf (exec (.writeAccount 7 12 40200 2 0 25000) loaded) = some (.inUse, .accountInUse 40117 1) ∧
    (nextOf (exec (.writeAccount 7 12 40117 2 0 25000) loaded)).map (fun t =>
      (t.accounts[(12 : AccountSlot)].cls, t.accounts[(12 : AccountSlot)].paidToday)) = some (.c, 3000) := by
  decide +kernel

/-- 7.12 steps 6 and 9: USE before HELD. -/
theorem test_deleteAccount : answerOf (exec (.deleteAccount 7 40117) loaded) = some (.inUse, .deleteUse 1) ∧
    answerOf (exec (.deleteAccount 7 40117)
      { start with accounts := upd start.accounts 12 (fun r => { r with held := 8 }) }) =
      some (.inUse, .deleteHeld 8) := by decide +kernel

/-- R134: the room is 25,000 less 3,000, as 8.9 has it. -/
theorem test_readAccount : ((nextOf (exec (.readAccount 7 (.slot 12)) start)).bind (fun t => t.responses.head?)).map
    (fun r => match r.detail with
      | .accountReport a => (a.number, a.room)
      | _ => (0, 0)) = some (40117, 22000) := by decide +kernel

/-- 7.6: an issue of 40 on 0; a sum past 65,535 is clamped and the excess reported (R136). -/
theorem test_issueContainers : answerOf (exec (.issueContainers 7 52006 0 40) start) =
      some (.ok, .containersIssued 0 0 40 0) ∧
    answerOf (exec (.issueContainers 7 40117 1 65535) start) =
      some (.ok, .containersIssued 1 60 65535 60) := by decide +kernel

/-- 7.6: Set Float replaces the float and latches nothing. -/
theorem test_setFloat : answerOf (exec (.setFloat 7 40117 1 65530) start) = some (.ok, .floatSet 1 60 65530) := by
  decide +kernel

/-- 7.8: 100 slots from 200: 56 processed, next 256, 44 remaining. -/
theorem test_freezeRun : answerOf (exec (.freezeRun 7 200 100 1) start) = some (.ok, .freezeRun 56 256 44 0) ∧
    answerOf (exec (.freezeRun 7 0 44 1) start) = some (.ok, .freezeRun 44 44 0 2) := by decide +kernel

/-- R141. -/
theorem test_dayClose : answerOf (exec (.dayClose 7) start) = some (.ok, .dayClosed 3000 1) := by decide +kernel

/-- 11.4: 500 of a held balance of 2,000 with 4,200 paid: 1,500 held, 4,700 paid. -/
theorem test_releaseHeld : answerOf (exec (.releaseHeld 7 40117 500)
    { start with accounts := upd start.accounts 12 (fun r => { r with held := 2000, paidToday := 4200 }) }) =
    some (.ok, .released 500 1500 4700) := by decide +kernel

/-- R166. -/
theorem test_identify : answerOf (exec (.identify 7) (crowded 1)) =
    some (.ok, .identity 1826 624 1 [6, 24, 64, 2, 16, 256, 8, 12, 8]) := by decide +kernel

/-- 9.10: a Read Status returns ULLAGE_WARN of lane 3 and clears it, and attention falls. -/
theorem test_readStatus : (nextOf (exec (.readStatus 7)
    { crowded 1 with
      attention := true, trunkTx := .sending .responses .only (framed 0 0x41 0 [])
      lanes := upd start.lanes 3 (fun p => { p with flags := 0x020 }) })).map (fun t =>
    (t.attention, t.lanes[(3 : Lane)].flags, t.responses.map (fun r => match r.detail with
      | .status x => (x.laneFlags[(3 : Lane)], x.attention)
      | _ => (0, false)))) = some (false, 0, [(0, false), (0x020, true)]) := by decide +kernel

/-- R170: unmasking a latched flag raises attention, and masking it lowers attention. -/
theorem test_setMasks : (nextOf (exec (.setMasks 7 0 ⟨0, 0, 0, 0, 0, 0⟩)
      { start with partFlags := 0x01, partMasks := 0x01 })).map (fun t => t.attention) = some true ∧
    (nextOf (exec (.setMasks 7 0x01 ⟨0, 0, 0, 0, 0, 0⟩)
      { start with partFlags := 0x01, attention := true })).map (fun t => (t.attention, t.partFlags)) =
      some (false, 0x01) := by decide +kernel

/-- R164, R172: grace 0 is applied as 1, an aging limit of 16 as 15. -/
theorem test_setPartParameters : answerOf (exec (.setPartParameters 7 0 16) start) = some (.ok, .parameters 1 15) ∧
    answerOf (exec (.setPartParameters 7 61 0) start) = some (.ok, .parameters 60 0) := by decide +kernel

/-- R174, 9.11: the OPEN visit is cancelled with its five items and its lanes, and flags are cleared. -/
theorem test_partReset : (nextOf (exec (.partReset 7) { loaded with partFlags := 0x01 })).map (fun t =>
    (t.visits[(0 : VisitSlot)], t.lanes[(3 : Lane)].state, t.tariffs[(0 : TariffIndex)].pins, t.partFlags,
      t.responses.map (fun r => r.detail))) =
    some (Visit.free, .idle, 0, 0, [.partReset 1 0 5 0 0]) := by decide +kernel

/-- R163. -/
theorem test_unknownRequest : answerOf (exec (.unknownRequest 7 0x31) start) =
    some (.unknownRequest, .unknownCode 0x31) := by decide +kernel

/-- 9.10: the fifth request is discarded and latches REQUEST_OVERRUN, which raises attention. -/
theorem test_requestOverrun : (nextOf (exec (.dayClose 24) (crowded 4))).map (fun t =>
    (t.responses.length, t.partFlags, t.attention, t.accounts[(12 : AccountSlot)].paidToday)) =
    some (4, 0x20, true, 3000) ∧
    (nextOf (exec .requestOverrun (crowded 4))).map (fun t => t.partFlags) = some 0x20 := by decide +kernel

/-- R49: address 0x7F is queued on the enabled lane 1 and lost on the DISABLED lane 0. -/
theorem test_downstreamFrame : (nextOf (exec (.downstreamFrame (framed 0x7F 0x50 3 [1])) start)).map (fun t =>
    (t.lanes[(1 : Lane)].txQueue, t.lanes[(0 : Lane)].downLosses, t.lanes[(0 : Lane)].flags)) =
    some ([framed 0x7F 0x50 3 [1]], 1, 0x200) := by decide +kernel

/-- R183, R36: the errors of the two kinds of link. -/
theorem test_frameErrors : (nextOf (exec .trunkFrameError start)).map (fun t => t.partFlags) = some 0x40 ∧
    (nextOf (exec (.laneFrameError 1) start)).map (fun t =>
      (t.lanes[(1 : Lane)].frameErrors, t.lanes[(1 : Lane)].flags)) = some (1, 0x002) := by decide +kernel

/-- R37: a keg of 20,001 steps is entered as 20,000, tagged, and raises the tagged count. -/
theorem test_singleRead : (nextOf (exec (.singleRead 3 (.keg 520 .sound 20001)) loaded)).map (fun t =>
    (t.lanes[(3 : Lane)].queue.getLast?.map (fun e => (e.body, e.tag)), t.visits[(0 : VisitSlot)].tagged)) =
    some (some (.keg 20000, some tag1050), 6) := by decide +kernel

/-- 2.2: a Stack Frame of 12 reads on 30 entries asserts hold at an occupancy of 42. -/
theorem test_stackFrame : (nextOf (exec (.stackFrame 1 9 (List.replicate 12 ⟨310, .sound, 1⟩))
    { start with lanes := upd start.lanes 1 (fun p =>
      { p with queue := List.replicate 30 ⟨310, .sound, .crate 1, none, none⟩ }) })).map (fun t =>
    (t.lanes[(1 : Lane)].queue.length, t.lanes[(1 : Lane)].hold,
      t.lanes[(1 : Lane)].queue.getLast?.bind (fun e => e.member))) =
    some (42, true, some ⟨9, 12, true⟩) := by decide +kernel

/-- 11.1: a Stack Cancel before grant 6 withdraws positions 1 to 3 with credits 310, 286 and 0; a Stack Cancel
of another number is stale. -/
theorem test_stackCancel : (nextOf (exec (.stackCancel 1 4) staged)).map (fun t =>
    (t.items.map (fun e => match e with
      | .item r => (r.outcome, r.credit)
      | .notice _ _ => (.orphan, 0)), t.visits[(0 : VisitSlot)].tagged, t.lanes[(1 : Lane)].context)) =
    some ([(.cancelled, 310), (.cancelled, 286), (.cancelled, 0)], 0, none) ∧
    (nextOf (exec (.stackCancel 1 5) staged)).map (fun t => t.lanes[(1 : Lane)].flags) = some 0x080 := by
  decide +kernel

/-- R41. -/
theorem test_laneNotice : (nextOf (exec (.laneNotice 1 [1, 2]) start)).map (fun t => t.items) =
    some [.notice 1 [1, 2]] := by decide +kernel

/-- 11.1 grant 1: lane 3, credit 2,850, ULLAGE_WARN, float 10 to 9, lane 1 passed over once. -/
theorem test_grant_keg : (nextOf (exec .grant loaded)).map (fun t =>
    (t.lastGranted, t.visits[(0 : VisitSlot)].segments.map (fun g => (g.gross, g.floatTaken[(4 : Family)])),
      t.accounts[(12 : AccountSlot)].floats[(4 : Family)], t.lanes[(3 : Lane)].flags, t.lanes[(1 : Lane)].passCount,
      t.visits[(0 : VisitSlot)].tagged)) = some (3, [(2850, 1)], 9, 0x020, 1, 4) := by decide +kernel

/-- 11.1 grant 6: stack 4 commits 310, 286 and 212 to segment 0; INEXACT sticks; float 60 to 57. -/
theorem test_grant_stack : (nextOf (exec .grant staged)).map (fun t =>
    (t.visits[(0 : VisitSlot)].segments.map (fun g => (g.gross, g.sticky)),
      t.accounts[(12 : AccountSlot)].floats[(1 : Family)], t.visits[(0 : VisitSlot)].tagged, t.items.length)) =
    some ([(808, 1)], 57, 0, 3) ∧
    (nextOf (exec .grant staged)).map (fun t =>
      (t.visits[(0 : VisitSlot)].segments.map (fun g => g.lines.map (fun x => x.tally)),
        t.lanes[(1 : Lane)].context)) = some ([[⟨2, 1, 0, 57, 808⟩]], none) := by decide +kernel

/-- R14, R18: OPEN counts up; CLOSING counts down, and at 0 abandons the rest (11.3). -/
theorem test_tick : (nextOf (exec .tick loaded)).map (fun t => t.visits[(0 : VisitSlot)].elapsed) = some 1 ∧
    (nextOf (exec .tick (closing 1))).map (fun t =>
      (t.lanes[(1 : Lane)].abandoned, t.lanes[(1 : Lane)].flags, t.settleWait, t.items.map (fun e => match e with
          | .item r => (r.outcome, r.credit)
          | .notice _ _ => (.orphan, 0)))) =
      some (3, 0x100, [tag1050], [(.abandoned, 310), (.abandoned, 286), (.abandoned, 0)]) := by
  decide +kernel

/-- R16: the expiry of a visit that is due latches VISIT_EXPIRED; another is left alone. -/
theorem test_openTimeExpiry : (nextOf (exec (.openTimeExpiry 0)
    { staged with visits := upd staged.visits 0 (fun r => { r with elapsed := 5400 }) })).map (fun t =>
    (t.visits[(0 : VisitSlot)].state, t.visits[(0 : VisitSlot)].cause, t.partFlags)) =
    some (.closing, .expired, 0x02) := by decide +kernel

/-- R20 by the command itself. -/
theorem test_graceExpiry : (nextOf (exec (.graceExpiry 0) (closing 0))).map (fun t =>
    (t.visits[(0 : VisitSlot)].state, t.visits[(0 : VisitSlot)].tagged, t.lanes[(1 : Lane)].queue.length)) =
    some (.settling, 0, 0) := by decide +kernel

/-- 11.1: the settlement of visit 1,050: fees 83 and 37, payouts 6,575 and 3,685, slot 0 retires. -/
theorem test_settlement : (nextOf (exec .settlement settling)).map (fun t =>
    t.settlementQueue.map (fun e => match e with
      | .settled r => (r.fee, r.payout, r.heldAdded, r.generation)
      | .release _ _ _ => (0, 0, 0, 0))) = some [(83, 6575, 0, 70), (37, 3685, 0, 70)] ∧
    (nextOf (exec .settlement settling)).map (fun t =>
      (t.accounts[(12 : AccountSlot)].paidToday, t.accounts[(30 : AccountSlot)].useCount,
        t.tariffs[(0 : TariffIndex)].state, t.partFlags)) = some (9575, 0, .empty, 0x10) ∧
    (nextOf (exec .settlement settling)).map (fun t => t.visits[(0 : VisitSlot)]) = some Visit.free := by
  decide +kernel

/-- 8.9: the amounts of its two segments, the second against the account as the first left it. -/
theorem test_amounts :
    let h := (gen 70 .nearestEven 0).header
    let a := account 40117 .b 0 4 25000 3000
    let g := { newSegment 12 a with gross := 30128, excessCredit := 0 }
    amountsOf h a g = ⟨377, 29751, 22000, 7751, 7751, 0, false⟩ ∧
    amountsOf h (a.settle (amountsOf h a g)) { g with gross := 0, excessCredit := 1240 } =
      ⟨0, 0, 0, 1240, 1240, 0, false⟩ ∧
    amountsOf h { a with held := 4294960000 } g = ⟨377, 29751, 22000, 7751, 7295, 456, false⟩ := by decide +kernel

/-- 3.4: the quotients by 100 of its table, under DOWN, UP, NEAREST_UP and NEAREST_EVEN. -/
theorem test_rounding : [RoundingMode.down, .up, .nearestUp, .nearestEven].map (fun m => roundDiv m 5250 100) =
      [52, 53, 53, 52] ∧
    [RoundingMode.down, .up, .nearestUp, .nearestEven].map (fun m => roundDiv m 5950 100) = [59, 60, 60, 60] ∧
    [RoundingMode.down, .up, .nearestUp, .nearestEven].map (fun m => roundDiv m 5249 100) = [52, 53, 52, 52] := by
  decide

/-- R50: the completed frame leaves the queue. -/
theorem test_laneFrameCompletion : (nextOf (exec (.laneFrameCompletion 1)
    { start with lanes := upd start.lanes 1 (fun p =>
      { p with txQueue := [framed 2 0x50 0 [], framed 2 0x50 1 []] }) })).map
    (fun t => t.lanes[(1 : Lane)].txQueue) = some [framed 2 0x50 1 []] := by decide +kernel

/-- A settlement record with one count line on the line, and a response behind it. -/
def sending (part : FramePart) : State :=
  { crowded 1 with
    settlementQueue := [.settled
      { visit := 1050, index := 0, count := 1, generation := 70, cause := .requested, frozen := false, fee := 0
        payout := 0, heldAdded := 0, unplaced := 0
        segment := { newSegment 12 (account 40117 .b 60 10 25000 3000) with
          lines := [⟨520, some 4, ⟨2, 0, 0, 0, 5850⟩⟩] } }]
    trunkTx := .sending .settlements part (framed 0 0x43 0 []) }

/-- R189: the second frame carries the line count and the 16 bytes of the line: tag 520, family 4, sound 2,
damaged 0, scrap 0, bottles 0, credit 5,850. -/
theorem test_firstFrameCompletion : (nextOf (exec .firstFrameCompletion (sending .first))).map (fun t =>
    match t.trunkTx with
    | .sending q part f => (some q, some part, f.payload)
    | .idle => (none, none, [])) =
    some (some .settlements, some .second,
      [1, 0x02, 0x08, 4, 0, 2, 0, 0, 0, 0, 0, 0, 0, 0, 0, 0x16, 0xDA]) := by decide +kernel

/-- 10.9: the completion frees the record's entry and the response is chosen. -/
theorem test_messageCompletion : (nextOf (exec .messageCompletion (sending .second))).map (fun t =>
    (t.settlementQueue, match t.trunkTx with
      | .sending q _ _ => some q
      | .idle => none)) = some ([], some .responses) := by decide +kernel

/-- R181: the last byte of a Stack Cancel for a stack that is not pending latches STALE_CANCEL. -/
theorem test_byteReceived : (nextOf (exec (.byteReceived (.lane 1) ((framed 0 0x23 0 [9]).bytes.getLastD 0))
    { start with lanes := upd start.lanes 1 (fun p =>
      { p with rx := (Receiver.receiveAll .hunt (framed 0 0x23 0 [9]).bytes.dropLast).2 }) })).map (fun t =>
    (t.lanes[(1 : Lane)].flags, t.lanes[(1 : Lane)].rx)) = some (0x080, .hunt) := by decide +kernel

/-- R178. -/
theorem test_powerOnReset : (nextOf (exec .powerOnReset loaded)).map (fun t =>
    (t.visitCounter, t.graceSeconds, t.agingLimit, t.types, t.lanes[(1 : Lane)].state)) =
    some (1, 10, 8, [], .disabled) := by decide +kernel

/-! ## Witnesses of the statements' hypotheses: steps, events, links -/

/-- A state with a command waiting. -/
def waiting (s : State) (c : Instr) : State := { s with pending := [c] }

theorem witness_StepTakesFront :
    (waiting loaded .grant).pending = .grant :: [] ∧ loaded.pending = [] := by decide +kernel

theorem witness_EventEnds :
    (crowded 1).trunkTx = .idle ∧ (crowded 1).responses = ⟨0, 0x2E, .ok, .empty⟩ :: [] ∧
    ({ sending .only with responses := [], trunkTx := .idle }).responses = [] ∧
    ({ sending .only with responses := [], trunkTx := .idle }).settlementQueue ≠ [] ∧
    ({ start with items := [.notice 0 []] }).items = .notice 0 [] :: [] ∧
    start.trunkTx = .idle ∧ start.responses = [] ∧ start.settlementQueue = [] ∧ start.items = [] ∧
    (sending .only).trunkTx ≠ .idle := by decide +kernel

theorem witness_RefusedRequestChangesNothing :
    (crowded 3).responses.length < 4 ∧ (answerTo (.closeVisit 0) (crowded 3)).code ≠ .ok ∧
    (answerForm (decodeRequest []) (crowded 3)).code ≠ .ok ∧
    (answerForm (decodeRequest [0x31]) (crowded 3)).code ≠ .ok ∧
    codeListed (0x31#8).toNat = false ∧ codeListed (0#8).toNat = false ∧ codeListed (255#8).toNat = false := by
  decide +kernel

theorem witness_FullResponseQueueDiscards :
    4 ≤ (crowded 4).responses.length ∧ codeListed (0x3D#8).toNat = false := by decide +kernel

theorem witness_RequestFrameRunsRequest :
    (Request.bindLanes 65535 0xFF).wellFormed = true ∧ (framed 0 0x40 255 [0x02, 0xFF, 0xFF, 0xFF]).address = 0 ∧
    (framed 0 0x40 255 [0x02, 0xFF, 0xFF, 0xFF]).kind = 0x40#8 ∧
    (framed 0 0x40 255 [0x02, 0xFF, 0xFF, 0xFF]).payload = encodeRequest (.bindLanes 65535 0xFF) := by
  decide +kernel

theorem witness_RequestRoundTrip :
    (Request.writeAccount 255 16777215 255 255 4294967295).wellFormed = true ∧
    (Request.writeType 65535 (.unknown 255) 255 255).wellFormed = true := by decide

theorem witness_LaneFrameRunsCommand :
    (LaneArrival.stack 255 (List.replicate 16 ⟨65535, .scrap, 0xFFFFFF⟩)).wellFormed = true ∧
    (LaneArrival.notice (List.replicate 32 0)).wellFormed = true ∧
    (framed 0 0x23 0 [9]).address = 0 ∧ (framed 0 0x23 0 [9]).kind = (LaneArrival.cancel 9).kind ∧
    (framed 0 0x23 0 [9]).payload = (LaneArrival.cancel 9).payload ∧ (framed 1 0x23 0 [9]).address ≠ 0 := by
  decide +kernel

/-- A Stack Cancel with a byte too many, as no well-formed arrival spells it. -/
theorem witness_LaneFrameRunsCommand_error :
    (∀ a : LaneArrival, a.wellFormed = true → (framed 0 0x23 0 [9, 9]).kind = a.kind →
      (framed 0 0x23 0 [9, 9]).payload ≠ a.payload) ∧
    (framed 0 0x25 0 []).kind ≠ 0x24#8 ∧ (framed 0 0x21 0 (List.replicate 8 0)).payload.length ≠ 7 ∧
    (framed 0 0x22 0 [1, 0]).payload = 1 :: 0 :: [] ∧ (framed 0 0x22 0 [1, 17]).payload = 1 :: 17 :: [] ∧
    (framed 0 0x23 0 []).payload.length ≠ 1 ∧ 32 < (framed 0 0x24 0 (List.replicate 33 0)).payload.length := by
  refine ⟨fun a _ hk hp => ?_, by decide +kernel⟩
  cases a with
  | cancel n => cases hp
  | single r => cases hk
  | stack n rs => cases hk
  | notice bs => cases hk

theorem witness_FrameReception :
    (∀ b ∈ [0x00#8, 0x7F#8], b ≠ 0x7E#8) ∧ (framed 0 0x24 0 [0x7E, 0x7E]).payload.length ≤ 200 ∧
    (framed 0 0x24 0 [0x7E, 0x7E]).check = crc ([0, 0x24, 0, 0, BitVec.ofNat 8 2] ++ [0x7E, 0x7E]) ∧
    (framed 0 0x24 0 (List.replicate 200 0)).payload.length ≤ 200 := by decide +kernel

/-- `start` with a lane's and the trunk's receiver one byte short of a frame. -/
def oneByteShort (f : Frame) : State :=
  { start with
    lanes := upd start.lanes 1 (fun p => { p with rx := (Receiver.receiveAll .hunt f.bytes.dropLast).2 })
    trunkRx := (Receiver.receiveAll .hunt f.bytes.dropLast).2 }

theorem witness_ByteReceived :
    start.lanes[(1 : Lane)].rx = .hunt ∧ start.trunkRx = .hunt ∧ (0x7D#8) ≠ 0x7E#8 ∧
    (oneByteShort (framed 0 0x23 0 [9])).lanes[(1 : Lane)].rx.bytes ++ [(framed 0 0x23 0 [9]).bytes.getLastD 0] =
      (framed 0 0x23 0 [9]).bytes ∧
    (framed 0 0x23 0 [9]).properCheck = (framed 0 0x23 0 [9]).check ∧
    (oneByteShort { framed 0 0x23 0 [9] with check := 0 }).trunkRx.bytes ++ [0] =
      ({ framed 0 0x23 0 [9] with check := 0 } : Frame).bytes ∧
    ({ framed 0 0x23 0 [9] with check := 0 } : Frame).properCheck ≠ 0 ∧
    (∀ x ∈ ({ framed 0 0x23 0 [9] with check := 0 } : Frame).bytes.drop 1, x ≠ 0x7E#8) := by decide +kernel

/-- A frame whose check is wrong and whose payload is a whole right frame, a Stack Cancel of stack 9. -/
def wrapped : Frame := { framed 0 0x24 0 (framed 0 0x23 0 [9]).bytes with check := 0 }

theorem witness_ByteReceived_again :
    (oneByteShort wrapped).lanes[(1 : Lane)].rx.bytes ++ [0] = wrapped.bytes ∧ wrapped.payload.length ≤ 200 ∧
    wrapped.properCheck ≠ wrapped.check ∧ 200 < (201#8).toNat ∧
    (Receiver.header [0, 0x21, 0, 0]).bytes = 0x7E#8 :: [0, 0x21, 0, 0] := by decide +kernel

/-- R181: the frame inside the failed one is found: a frame error and a stale cancel. -/
theorem test_byteReceived_again :
    (nextOf (exec (.byteReceived (.lane 1) 0) (oneByteShort wrapped))).map (fun t =>
      (t.lanes[(1 : Lane)].frameErrors, t.lanes[(1 : Lane)].flags, t.lanes[(1 : Lane)].rx)) =
      some (1, LaneFlag.frameError.bit ||| LaneFlag.staleCancel.bit, .hunt) := by decide +kernel

/-! ## Witnesses: the invariants, on states with a visit at work -/

theorem staged_otherLanes : ∀ l : Lane, l ≠ 1 →
    staged.lanes[l].queue = [] ∧ staged.lanes[l].context = none := by decide +kernel

theorem staged_lane1 : staged.lanes[(1 : Lane)].queue = [crateRead 3 true .damaged 0x0FFFFF] ∧
    staged.lanes[(1 : Lane)].context = some ⟨4, tag1050, 0,
      [⟨1, 310, .sound, ⟨true, some 1, some 2, 20, 310, 0, false⟩⟩,
        ⟨2, 310, .sound, ⟨true, some 1, some 2, 17, 286, 0, false⟩⟩]⟩ := by decide +kernel

theorem staged_withinCapacity : staged.WithinCapacity where
  responses := by decide +kernel
  items := by decide +kernel
  settlementQueue := by decide +kernel
  types := by decide +kernel
  ascending := by unfold ascending; decide +kernel
  lanes := by unfold LanePort.withinCapacity; decide +kernel
  segments := by decide +kernel
  lines := by unfold Segment.linesSound; decide +kernel

theorem start_attentionTrue : start.attentionTrue := by
  constructor
  · intro h; exact absurd h (by decide +kernel)
  · rintro (⟨f, h, -⟩ | ⟨l, f, h, -⟩)
    · have e : start.partFlags = 0 := rfl
      rw [e] at h; simp at h
    · have e : ∀ l : Lane, start.lanes[l].flags = 0 := by decide +kernel
      rw [e l] at h; simp at h

theorem staged_useCountsExact : staged.UseCountsExact where
  free := by decide +kernel
  exact := by decide +kernel
  empty := by decide +kernel

theorem staged_tariffsSound : staged.TariffsSound where
  oneActive := by decide +kernel
  retiring := by decide +kernel
  pins := by decide +kernel
  free := by decide +kernel
  held v h := by
    have e : ∀ v : VisitSlot, staged.visits[v].state ≠ .free → v = 0 := by decide +kernel
    obtain rfl := e v h
    exact ⟨⟨0, 70⟩, gen 70 .nearestEven 0, by decide +kernel, by decide +kernel, rfl, by decide +kernel⟩

theorem staged_bindingsSound : staged.BindingsSound where
  onlyOpen := by decide +kernel
  bound := by decide +kernel
  member l t h := by
    have e : ∀ l : Lane, l ≠ 1 → l ≠ 3 → staged.lanes[l].state = .disabled := by decide +kernel
    have e1 : staged.lanes[(1 : Lane)].state = .bound tag1050 ∧ staged.lanes[(3 : Lane)].state = .bound tag1050 := by
      decide +kernel
    by_cases h1 : l = 1
    · subst h1; rw [e1.1] at h; cases h; decide +kernel
    · by_cases h3 : l = 3
      · subst h3; rw [e1.2] at h; cases h; decide +kernel
      · rw [e l h1 h3] at h; cases h

theorem staged_holdSound : ∀ l : Lane, staged.lanes[l].holdSound := by
  unfold LanePort.holdSound; decide +kernel

theorem settling_onlyOne : ∀ v : VisitSlot, settling.visits[v].state = .settling → v = 0 := by decide +kernel

theorem settling_number : settling.visits[(0 : VisitSlot)].number = 1050 := by decide +kernel

theorem staged_noneSettling : ∀ v : VisitSlot, staged.visits[v].state ≠ .settling := by decide +kernel

theorem settling_settleWaitExact : settling.SettleWaitExact := by
  refine ⟨by decide +kernel, fun t => ⟨fun h => ?_, fun h => ?_⟩⟩
  · have e : t = tag1050 := by simpa [settling] using h
    subst e; decide +kernel
  · obtain ⟨v, n⟩ := t
    obtain rfl := settling_onlyOne v h.1
    obtain rfl : n = 1050 := h.2.symm.trans settling_number
    decide +kernel

theorem visitInRange_free : Visit.free.inRange where
  free _ := rfl
  live h := absurd rfl h
  elapsed := by decide
  opened := by decide
  grace := by decide
  closing := by decide

theorem start_inRange : start.InRange where
  accounts := by unfold Account.inRange; decide +kernel
  visits v := by
    have e : ∀ v : VisitSlot, start.visits[v] = Visit.free := by decide +kernel
    rw [e v]; exact visitInRange_free
  segments v g h := by
    have e : ∀ v : VisitSlot, start.visits[v].segments = [] := by decide +kernel
    rw [e v] at h; cases h
  lanes := by unfold LanePort.countersInRange; decide +kernel
  levels := by decide +kernel
  tariffs t g h := by
    have e : start.tariffs[(0 : TariffIndex)].contents = some (gen 70 .nearestEven 0) ∧
        start.tariffs[(1 : TariffIndex)].contents = some (gen 71 .nearestEven 0) := by decide +kernel
    have ht : ∀ t : TariffIndex, t = 0 ∨ t = 1 := by decide
    unfold Generation.inRange Schedule.inRange PerClass.within
    rcases ht t with rfl | rfl
    · rw [e.1] at h; cases h; decide +kernel
    · rw [e.2] at h; cases h; decide +kernel
  lossCount := by decide +kernel
  counter := by decide +kernel
  grace := by decide +kernel
  aging := by decide +kernel

theorem staged_visits : ∀ v : VisitSlot, v ≠ 0 → staged.visits[v] = Visit.free := by decide +kernel

/-- The last moment of an OPEN visit's 90 minutes: 5,399 of 5,400 seconds. -/
def lastSecond : State := { staged with visits := upd staged.visits 0 (fun r => { r with elapsed := 5399 }) }

theorem staged_tariffsInRange :
    ∀ (t : TariffIndex) (g : Generation), staged.tariffs[t].contents = some g → g.inRange := by
  intro t g h
  have e : ∀ t : TariffIndex, staged.tariffs[t].contents = start.tariffs[t].contents := by decide +kernel
  exact start_inRange.tariffs t g (e t ▸ h)

theorem staged_inRange : staged.InRange where
  accounts := by unfold Account.inRange; decide +kernel
  visits v := by
    by_cases h : v = 0
    · subst h; exact ⟨by decide +kernel, by decide +kernel, by decide +kernel, by decide +kernel, by decide +kernel,
        by decide +kernel⟩
    · rw [staged_visits v h]; exact visitInRange_free
  segments v g h := by
    by_cases hv : v = 0
    · subst hv
      have e : staged.visits[(0 : VisitSlot)].segments = [newSegment 12 (account 40117 .b 60 10 25000 3000)] := by
        decide +kernel
      rw [e, List.mem_singleton] at h; subst h
      unfold Segment.inRange Tally.inRange; decide +kernel
    · rw [staged_visits v hv] at h; cases h
  lanes := by unfold LanePort.countersInRange; decide +kernel
  levels := by decide +kernel
  tariffs := staged_tariffsInRange
  lossCount := by decide +kernel
  counter := by decide +kernel
  grace := by decide +kernel
  aging := by decide +kernel

theorem start_accountSlots : (∀ a : AccountSlot, start.accounts[a].number ≠ 0 → a = 12 ∨ a = 30) ∧
    start.accounts[(12 : AccountSlot)].number ≠ start.accounts[(30 : AccountSlot)].number := by decide +kernel

theorem start_namesUnique : start.NamesUnique where
  visits v w h := absurd ((by decide +kernel : ∀ v : VisitSlot, start.visits[v].state = .free) v) h
  accounts a b h hab := by
    obtain ⟨e, d⟩ := start_accountSlots
    rcases e a h with rfl | rfl <;> rcases e b (hab ▸ h) with rfl | rfl
    · rfl
    · exact absurd hab d
    · exact absurd hab.symm d
    · rfl

theorem staged_tagsSound : staged.TagsSound where
  bindings := staged_bindingsSound
  whole l := by
    by_cases h1 : l = 1
    · subst h1
      obtain ⟨hq, hc⟩ := staged_lane1
      refine ⟨?_, ?_, ?_, ?_⟩
      · rw [hq]; unfold chained; decide +kernel
      · intro c h
        rw [hc] at h; cases h
        exact ⟨_, _, _, hq, rfl, rfl, rfl⟩
      · rw [hq]; intro e he f hf _ _ _ _ _
        simp only [List.mem_singleton] at he hf
        rw [he, hf]
      · intro c h e he _ _ _
        rw [hc] at h; cases h
        rw [hq] at he; simp only [List.mem_singleton] at he
        rw [he]; rfl
    · obtain ⟨hq, hc⟩ := staged_otherLanes l h1
      refine ⟨?_, ?_, ?_, ?_⟩
      · rw [hq]; trivial
      · intro c h; rw [hc] at h; cases h
      · intro e he; rw [hq] at he; cases he
      · intro c h; rw [hc] at h; cases h
  queued l e he t ht := by
    by_cases h1 : l = 1
    · subst h1
      rw [staged_lane1.1] at he; simp only [List.mem_singleton] at he
      subst he; cases ht
      unfold State.names; decide +kernel
    · rw [(staged_otherLanes l h1).1] at he; cases he
  staged l c h := by
    by_cases h1 : l = 1
    · subst h1
      rw [staged_lane1.2] at h; cases h
      unfold State.names; decide +kernel
    · rw [(staged_otherLanes l h1).2] at h; cases h
  segments := by decide +kernel
  tagged := by decide +kernel

theorem staged_stacksNumbered : ∀ l : Lane, staged.lanes[l].StacksNumbered := fun l => by
  refine ⟨staged_tagsSound.whole l, ?_⟩
  by_cases h1 : l = 1
  · subst h1
    obtain ⟨hq, hc⟩ := staged_lane1
    refine ⟨2, ?_, fun c h => ?_, fun h => ?_⟩
    · rw [hq]; simp [numbered, crateRead]
    · rw [hc] at h; cases h; decide
    · rw [hc] at h; cases h
  · obtain ⟨hq, hc⟩ := staged_otherLanes l h1
    refine ⟨0, ?_, fun c h => ?_, fun _ e rest h => ?_⟩
    · rw [hq]; rfl
    · rw [hc] at h; cases h
    · rw [hq] at h; cases h

theorem witness_CapacitiesKept :
    (waiting staged .grant).WithinCapacity ∧ (∃ t, step (waiting staged .grant) = .next t) ∧
    (waiting settling .settlement).SettleWaitExact ∧ (∃ t, step (waiting settling .settlement) = .next t) ∧
    ∀ l : Lane, (waiting staged .grant).lanes[l].StacksNumbered :=
  ⟨{ staged_withinCapacity with }, next_of_some (by decide +kernel), settling_settleWaitExact,
    next_of_some (by decide +kernel), staged_stacksNumbered⟩

/-- A state as its events left it: a record on the line, begun with attention clear, and a response behind it. -/
def onLine : State :=
  { sending .first with
    trunkTx := .sending .settlements .first ((((sending .first).oldest .settlements).getD (.item (.notice 0 []))).firstFrame
      false) }

theorem onLine_transmitterSound : onLine.TransmitterSound where
  idle h := nomatch h
  sending q part f h := by
    cases h
    exact ⟨_, false, rfl, nofun, fun _ => ⟨nofun, rfl⟩, nofun⟩

theorem witness_AttentionKept :
    (waiting start .trunkFrameError).attentionTrue ∧ (∃ t, step (waiting start .trunkFrameError) = .next t) ∧
    (waiting onLine .firstFrameCompletion).TransmitterSound ∧
    (∃ t, step (waiting onLine .firstFrameCompletion) = .next t) ∧ start.TransmitterSound :=
  ⟨start_attentionTrue, next_of_some (by decide +kernel), { onLine_transmitterSound with },
    next_of_some (by decide +kernel), ⟨fun _ => ⟨rfl, rfl, rfl⟩, nofun⟩⟩

theorem witness_UseCountsKept :
    (waiting staged .grant).UseCountsExact ∧ ∃ t, step (waiting staged .grant) = .next t :=
  ⟨{ staged_useCountsExact with }, next_of_some (by decide +kernel)⟩

theorem witness_TariffsKept :
    (waiting staged (.cancelVisit 0 1050)).TariffsSound ∧
      ∃ t, step (waiting staged (.cancelVisit 0 1050)) = .next t :=
  ⟨{ staged_tariffsSound with }, next_of_some (by decide +kernel)⟩

theorem witness_BindingsKept :
    (waiting staged (.closeVisit 0 1050)).BindingsSound ∧
      (∀ l : Lane, (waiting staged (.closeVisit 0 1050)).lanes[l].holdSound) ∧
      ∃ t, step (waiting staged (.closeVisit 0 1050)) = .next t :=
  ⟨{ staged_bindingsSound with }, staged_holdSound, next_of_some (by decide +kernel)⟩

theorem witness_SettleWaitKept :
    (waiting settling .settlement).SettleWaitExact ∧ ∃ t, step (waiting settling .settlement) = .next t :=
  ⟨settling_settleWaitExact, next_of_some (by decide +kernel)⟩

theorem witness_RangesKept :
    (waiting start (.issueContainers 0 40117 1 65535)).InRange ∧
      (∃ t, step (waiting start (.issueContainers 0 40117 1 65535)) = .next t) ∧
    (waiting start (.openVisit 0 40117 0x0A 255)).InRange ∧
      (waiting start (.openVisit 0 40117 0x0A 255)).NamesUnique ∧
      (∃ t, step (waiting start (.openVisit 0 40117 0x0A 255)) = .next t) ∧
    staged.TariffsSound ∧ staged.UseCountsExact ∧ staged.WithinCapacity ∧ staged.TagsSound ∧ staged.InRange ∧
    ∀ l : Lane, staged.lanes[l].StacksNumbered :=
  ⟨{ start_inRange with }, next_of_some (by decide +kernel), { start_inRange with }, { start_namesUnique with },
    next_of_some (by decide +kernel), staged_tariffsSound, staged_useCountsExact, staged_withinCapacity,
    staged_tagsSound, staged_inRange, staged_stacksNumbered⟩

theorem witness_TaggedCountsKept :
    (waiting staged .grant).TagsSound ∧ ∃ t, step (waiting staged .grant) = .next t :=
  ⟨{ staged_tagsSound with
      bindings := { staged_bindingsSound with } }, next_of_some (by decide +kernel)⟩

theorem witness_SoundStatesNeverStop :
    staged.TagsSound ∧ staged.TariffsSound ∧ staged.SettleWaitExact := by
  refine ⟨staged_tagsSound, staged_tariffsSound, List.nodup_nil, fun t => ⟨fun h => ?_, fun h => ?_⟩⟩
  · cases h
  · exact absurd h.1 (staged_noneSettling t.slot)

/-! ## Witnesses: requests -/

theorem room_of {s : State} (h : s.responses.length < 4) : s.room := h

/-- The boundary of a queue with room: three responses waiting. -/
theorem witness_room : (crowded 3).room ∧ start.room ∧ loaded.room ∧ staged.room ∧ settling.room ∧ typed.room ∧
    load42.room ∧ (closing 5).room := by unfold State.room; decide +kernel

theorem named1050 : loaded.Named 0 1050 ∧ staged.Named 0 1050 ∧ (closing 5).Named 0 1050 ∧
    settling.Named 0 1050 := by unfold State.Named lowest; decide +kernel

theorem accountAt12 : start.AccountAt 12 40117 ∧ loaded.AccountAt 12 40117 ∧ loaded.AccountAt 30 52006 := by
  unfold State.AccountAt lowest; decide +kernel

theorem start_numbers : ∀ a : AccountSlot, start.accounts[a].number = 0 ∨ start.accounts[a].number = 40117 ∨
    start.accounts[a].number = 52006 := by decide +kernel

theorem loaded_numbers : ∀ a : AccountSlot, loaded.accounts[a].number = 0 ∨
    loaded.accounts[a].number = 40117 ∧ a = 12 ∨ loaded.accounts[a].number = 52006 := by decide +kernel

theorem start_none {n : Nat} (h : n ≠ 0 ∧ n ≠ 40117 ∧ n ≠ 52006) :
    ∀ a : AccountSlot, start.accounts[a].number ≠ n := by
  intro a e; have := start_numbers a; omega

theorem witness_VisitLookup :
    loaded.room ∧ (0x3F#8).toNat < 64 ∧ 1 ≤ 16777215 ∧ 65535 < 65536 ∧ 1 ≤ 65535 ∧
    (∀ v : VisitSlot, loaded.visits[v].state = .free ∨ loaded.visits[v].number ≠ 65535) ∧
    (∀ v : VisitSlot, loaded.visits[v].state = .free ∨ loaded.visits[v].number ≠ 1) := by
  unfold State.room; decide +kernel

/-- Every record of the Visit Table held, by visits that wait for settlement. -/
def full : State := { start with visits := Vector.replicate 24 { Visit.free with state := .settling, number := 9 } }

theorem witness_OpenVisitExamined :
    State.reset.room ∧ State.reset.NoneActive ∧ ¬ full.NoneActive ∧
    (∀ v : VisitSlot, full.visits[v].state ≠ .free) ∧
    ¬ start.NoneActive ∧ (∃ v : VisitSlot, start.visits[v].state = .free) ∧
    loaded.accounts[(12 : AccountSlot)].number = 40117 ∧
    lowest (fun m => names 0x3F m ∧ start.lanes[m].state = .disabled) 0 ∧ (0x40#8).toNat = 64 := by
  unfold State.room State.NoneActive lowest names; decide +kernel

theorem witness_OpenVisitExamined_noEntry : ∀ a : AccountSlot, start.accounts[a].number ≠ 16777215 :=
  start_none (by decide)

theorem witness_OpenVisitExamined_laneHeld :
    (∀ m : Lane, names 0x0A m → loaded.lanes[m].state ≠ .disabled) ∧
    lowest (fun m => names 0x0A m ∧ loaded.lanes[m].Bound) 1 ∧ loaded.lanes[(1 : Lane)].state = .bound tag1050 ∧
    loaded.visits[tag1050.slot].state ≠ .free := by
  refine ⟨by unfold names; decide +kernel, ⟨⟨by unfold names; decide +kernel, tag1050, by decide +kernel⟩, ?_⟩,
    by decide +kernel, by decide +kernel⟩
  have e : ∀ j : Lane, j < 1 → (0x0A : Byte).getLsbD j.val = false := by decide
  intro j hj hn
  have := e j hj
  unfold names at hn
  rw [this] at hn; cases hn.1

theorem witness_OpenVisitOpens :
    start.room ∧ (0x0A#8).toNat < 64 ∧ 1 ≤ 241 ∧ start.tariffs[(0 : TariffIndex)] = .active (gen 70 .nearestEven 0) 0 ∧
    start.OneActive 0 ∧ lowest (fun w => start.visits[w].state = .free) 0 ∧
    (∀ l : Lane, names 0x0A l → start.lanes[l].state = .idle) := by
  unfold State.room State.OneActive lowest names; decide +kernel

theorem witness_VisitNumberAssigned :
    ({ loaded with visitCounter := 65535 }).visitCounter ≤ 65535 ∧
    1 ≤ ({ loaded with visitCounter := 1 }).visitCounter ∧ ∃ v : VisitSlot, loaded.visits[v].state = .free := by
  decide +kernel

/-- `loaded` with lane 3 BOUND to a visit of slot 1. -/
def otherHeld : State :=
  { loaded with lanes := upd loaded.lanes 3 (fun p => { p with state := .bound ⟨1, 9⟩ }) }

theorem witness_BindAndReleaseLanes :
    (0x40#8).toNat = 64 ∧ (0x3F#8).toNat < 64 ∧ (closing 5).visits[(0 : VisitSlot)].state ≠ .opened ∧
    loaded.visits[(0 : VisitSlot)].state = .opened ∧
    lowest (fun m => names 0x3E m ∧ loaded.lanes[m].state = .disabled) 2 ∧
    (∀ l : Lane, names 0x0A l → loaded.lanes[l].state = .idle ∨ loaded.lanes[l].state = .bound ⟨0, 1050⟩) ∧
    (∀ l : Lane, names 0x00 l → loaded.lanes[l].state = .idle ∨ loaded.lanes[l].state = .bound ⟨0, 1050⟩) := by
  unfold lowest names; decide +kernel

theorem witness_BindAndReleaseLanes_laneHeld :
    otherHeld.Named 0 1050 ∧ otherHeld.visits[(0 : VisitSlot)].state = .opened ∧
    (∀ m : Lane, names 0x0A m → otherHeld.lanes[m].state ≠ .disabled) ∧
    lowest (fun m => names 0x0A m ∧ otherHeld.lanes[m].Bound ∧ otherHeld.lanes[m].state ≠ .bound ⟨0, 1050⟩) 3 := by
  refine ⟨by unfold State.Named lowest; decide +kernel, by decide +kernel, by unfold names; decide +kernel,
    ⟨by unfold names; decide, ⟨⟨1, 9⟩, by decide +kernel⟩, by decide +kernel⟩, ?_⟩
  have e : ∀ j : Lane, j < 3 → (0x0A : Byte).getLsbD j.val = false ∨ otherHeld.lanes[j].state = .bound ⟨0, 1050⟩ := by
    decide +kernel
  intro j hj hn
  unfold names at hn
  rcases e j hj with h | h
  · rw [h] at hn; cases hn.1
  · exact hn.2.2 h

/-- `loaded` with eight segments. -/
def eightSegments : State :=
  { loaded with visits := upd loaded.visits 0 (fun r =>
    { r with segments := List.replicate 8 (newSegment 12 (account 40117 .b 60 10 25000 3000)) }) }

theorem witness_NextSegmentAppends :
    eightSegments.room ∧ eightSegments.Named 0 1050 ∧ 8 ≤ eightSegments.visits[(0 : VisitSlot)].segments.length ∧
    (closing 5).visits[(0 : VisitSlot)].state ≠ .opened ∧ loaded.visits[(0 : VisitSlot)].state = .opened ∧
    loaded.visits[(0 : VisitSlot)].segments.length < 8 ∧
    loaded.AccountAt 30 52006 := by
  unfold State.room State.Named State.AccountAt lowest; decide +kernel

theorem witness_NextSegmentAppends_noEntry : ∀ a : AccountSlot, loaded.accounts[a].number ≠ 1 := by
  intro a e; have := loaded_numbers a; omega

theorem witness_CloseVisitCloses :
    staged.Named 0 1050 ∧ staged.visits[(0 : VisitSlot)].state = .opened ∧
    (closing 5).visits[(0 : VisitSlot)].state ≠ .opened ∧ settling.visits[(0 : VisitSlot)].state ≠ .opened := by
  unfold State.Named lowest; decide +kernel

theorem witness_CancelVisitVoids :
    settling.visits[(0 : VisitSlot)].state = .settling ∧ loaded.visits[(0 : VisitSlot)].state = .opened ∧
    (closing 5).visits[(0 : VisitSlot)].state = .closing ∧
    (∀ (a : AccountSlot) (f : Family),
      loaded.accounts[a].floats[f] + (takenOf a f loaded.visits[(0 : VisitSlot)].segments).sum ≤ 65535) := by
  decide +kernel

theorem witness_ReadRequestsReport :
    (∃ n, VisitKey.number 1050 = .number n ∧ loaded.Named 0 n) ∧
    loaded.visits[(23 : VisitSlot)].state = .free ∧ loaded.visits[(0 : VisitSlot)].state ≠ .free ∧
    loaded.visits[(0 : VisitSlot)].segments.length ≤ 1 ∧ 0 < loaded.visits[(0 : VisitSlot)].segments.length ∧
    23 < 24 ∧ 5 < 6 ∧ 65535 < 65536 ∧ staged.lanes[(0 : Lane)].context = none ∧
    staged.lanes[(1 : Lane)].context ≠ none ∧ ascending typed.types ∧
    typed.types[2]? = some ⟨520, 7, .keg 5 ⟨1500, 40, 600, 200⟩⟩ ∧ (∀ e ∈ typed.types, e.tagCode ≠ 65535) ∧
    (∀ j, (h : j < typed.types.length) → (j < 3 ↔ typed.types[j].tagCode < 65535)) ∧
    typed.types.length ≤ 3 ∧ 2 < typed.types.length ∧ State.reset.tariffs[(1 : TariffIndex)] = .empty ∧
    load42.tariffs[(0 : TariffIndex)].contents = some (gen 42 .nearestEven 1) ∧
    (∃ n, AccountKey.number 40117 = .number n ∧ start.AccountAt 12 n) ∧
    (∀ a : AccountSlot, start.accounts[a].number ≠ 16777215) := by
  refine ⟨⟨1050, rfl, named1050.1⟩, by decide +kernel, by decide +kernel, by decide +kernel, by decide +kernel,
    by decide, by decide, by decide, by decide +kernel, by decide +kernel, by unfold ascending; decide +kernel,
    by decide +kernel, by decide +kernel, by decide +kernel, by decide +kernel, by decide +kernel,
    by decide +kernel, by decide +kernel, ⟨40117, rfl, accountAt12.1⟩, start_none (by decide)⟩

theorem witness_ConfigureLaneSets :
    5 < 6 ∧ 3 < 4 ∧ start.lanes[(0 : Lane)].state = .disabled ∧ start.lanes[(0 : Lane)].queue = [] ∧
    start.lanes[(0 : Lane)].staged = [] ∧ start.lanes[(0 : Lane)].kind = .crate ∧
    start.lanes[(3 : Lane)].kind = .keg ∧ start.lanes[(3 : Lane)].state = .idle ∧
    start.lanes[(3 : Lane)].queue = [] ∧ start.lanes[(3 : Lane)].staged = [] ∧
    (closing 5).lanes[(1 : Lane)].queue ≠ [] ∧ (closing 5).lanes[(1 : Lane)].state = .idle := by decide +kernel

theorem witness_ConfigureLaneSets_bound :
    loaded.lanes[(3 : Lane)].Bound ∧ ¬ (closing 5).lanes[(1 : Lane)].Bound := by
  refine ⟨⟨tag1050, by decide +kernel⟩, fun ⟨t, h⟩ => ?_⟩
  have e : (closing 5).lanes[(1 : Lane)].state = .idle := by decide +kernel
  rw [e] at h; cases h

theorem witness_LaneResetEmpties :
    5 < 6 ∧ (5 : Lane).val = 5 ∧ (closing 5).visits[(0 : VisitSlot)].state = .closing ∧
    0 < (closing 5).lanes[(1 : Lane)].chosenCount (Choice.ofVisit ((closing 5).visitTag 0)) ∧
    (closing 5).visits[(0 : VisitSlot)].tagged -
      (closing 5).lanes[(1 : Lane)].chosenCount (Choice.ofVisit ((closing 5).visitTag 0)) = 0 ∧
    staged.visits[(0 : VisitSlot)].state ≠ .free ∧ staged.visits[(23 : VisitSlot)].state = .free := by decide +kernel

/-- A table of 64 types, tag codes 1 to 64. -/
def fullTypes : State :=
  { start with types := (List.range 64).map (fun n => ⟨n + 1, 0, .pool 1⟩) }

theorem witness_TypeEdits :
    fullTypes.room ∧ ascending fullTypes.types ∧ 64 ≤ fullTypes.types.length ∧
    (∀ e ∈ fullTypes.types, e.tagCode ≠ 65535) ∧ ascending typed.types ∧ 0 < typed.types.length ∧
    typed.types[0]?.map (fun e => e.tagCode) = some 310 ∧ (∀ y ∈ typed.types, y.tagCode ≠ 65535) ∧
    typed.types.length < 64 ∧ ¬ (15 < 15) ∧ ¬ (20000 < 20000) ∧ (1#24) ≠ 0 := by
  unfold State.room ascending; decide +kernel

/-- The load slot RETIRING beside an ACTIVE slot 1. -/
def busyLoad : State := { start with
  tariffs := #v[.retiring (gen 70 .nearestEven 0) 24, .active (gen 71 .nearestEven 0) 0] }

theorem witness_TariffWritesLoad :
    busyLoad.room ∧ (∃ o, busyLoad.OneActive o ∧ (0 : TariffIndex) = otherTariff o) ∧
    busyLoad.tariffs[(0 : TariffIndex)] = .retiring (gen 70 .nearestEven 0) 24 ∧
    State.reset.NoneActive ∧ State.reset.tariffs[(0 : TariffIndex)] = .empty ∧
    (∃ o, start.OneActive o ∧ (1 : TariffIndex) = otherTariff o) ∧
    start.tariffs[(1 : TariffIndex)] = .pending (gen 71 .nearestEven 0) ∧ (7#8).toNat < 8 ∧ 65535 < 65536 ∧
    (15 : Fin 16).val = 15 ∧ 10000 ≤ 10000 ∧ 100 ≤ 100 := by
  unfold State.room State.OneActive State.NoneActive; decide +kernel

theorem witness_PromoteAndDiscard :
    65535 < 65536 ∧ (∀ t : TariffIndex, busyLoad.tariffs[t].state ≠ .pending) ∧
    load42.tariffs[(0 : TariffIndex)] = .pending (gen 42 .nearestEven 1) ∧
    load42.tariffs[otherTariff 0].state ≠ .active ∧ (gen 42 .nearestEven 1).header.generation ≠ 0 ∧
    (gen 42 .nearestEven 1).checkValue = 13328 ∧ (gen 0 .up 7).header.generation = 0 ∧
    start.tariffs[otherTariff 1] = .active (gen 70 .nearestEven 0) 0 ∧
    start.tariffs[otherTariff 1].generation ≠ (gen 71 .nearestEven 0).header.generation ∧
    ({ start with tariffs := #v[.active (gen 70 .nearestEven 0) 0, .pending (gen 70 .down 0)] }).tariffs[
      otherTariff (1 : TariffIndex)].generation = (gen 70 .down 0).header.generation := by decide +kernel

theorem witness_AccountEdits :
    255 < 256 ∧ 16777215 < 16777216 ∧ lowest (fun b => b ≠ (0 : AccountSlot) ∧ start.accounts[b].number = 40117) 12 ∧
    loaded.accounts[(12 : AccountSlot)].number ≠ 0 ∧ loaded.accounts[(12 : AccountSlot)].number ≠ 16777215 ∧
    0 < loaded.accounts[(12 : AccountSlot)].useCount ∧ start.accounts[(255 : AccountSlot)].number = 0 ∧
    start.accounts[(12 : AccountSlot)].useCount = 0 ∧ start.accounts[(12 : AccountSlot)].held = 0 ∧
    0 < ({ start with accounts := upd start.accounts 12 (fun r => { r with held := 1 }) }).accounts[
      (12 : AccountSlot)].held := by unfold lowest; decide +kernel

theorem witness_AccountEdits_free : ∀ b : AccountSlot, b ≠ 12 → loaded.accounts[b].number ≠ 16777215 := by
  intro b _ e; have := loaded_numbers b; omega

theorem witness_FloatRequests :
    7 < 8 ∧ 65535 < 65536 ∧ (∀ a : AccountSlot, start.accounts[a].number ≠ 1) ∧ start.AccountAt 12 40117 ∧
    (7 : Family).val = 7 ∧ start.accounts[(12 : AccountSlot)].floats[(1 : Family)] + 65475 ≤ 65535 ∧
    65535 < start.accounts[(12 : AccountSlot)].floats[(1 : Family)] + 65476 :=
  ⟨by decide, by decide, start_none (by decide), accountAt12.1, by decide, by decide +kernel, by decide +kernel⟩

theorem witness_FreezeRunAndDayClose :
    start.room ∧ 255 < 256 ∧ 256 < 257 ∧ 1 < 2 ∧ (255 ≤ 255 ∧ 1 ≤ 256 ∧ 256 ≤ 256 ∧ 1 ≤ 1) :=
  ⟨witness_room.2.1, by decide, by decide, by decide, by decide⟩

theorem witness_ReleaseHeldPays :
    4294967295 < 4294967296 ∧
    start.accounts[(12 : AccountSlot)].frozen = false ∧ start.settlementQueue.length < 8 ∧
    ({ start with accounts := upd start.accounts 12 (fun r => { r with frozen := true }) }).accounts[
      (12 : AccountSlot)].frozen = true ∧
    8 ≤ ({ start with settlementQueue := List.replicate 8 (.release 1 0 0) }).settlementQueue.length := by
  decide +kernel

theorem witness_ReleaseHeldPays_noEntry : ∀ a : AccountSlot, start.accounts[a].number ≠ 16777215 :=
  start_none (by decide)

theorem witness_IdentifyAnswers : (crowded 3).room := witness_room.1

theorem witness_ReadStatusClears : (crowded 3).room := witness_room.1

theorem witness_MasksAndParameters :
    128 ≤ (0x80#8).toNat ∧ 1024 ≤ (0x400#16).toNat ∧ (0x7F#8).toNat < 128 ∧
    (0x3FF#16).toNat < 1024 ∧ (0#16).toNat < 1024 := by decide

theorem witness_PartResetCancels : staged.room ∧ staged.BindingsSound ∧
    (closing 5).visits[(0 : VisitSlot)].state = .closing ∧
    ({ staged with tariffs := #v[.retiring (gen 70 .nearestEven 0) 1, .empty] }).tariffs[(0 : TariffIndex)] =
      .retiring (gen 70 .nearestEven 0) 1 :=
  ⟨witness_room.2.2.2.1, staged_bindingsSound, by decide +kernel, rfl⟩

/-- R174: the old FLOAT_CLAMP goes, and a RETIRING slot whose last pin goes latches TARIFF_RETIRED. -/
theorem test_partReset_flags : (nextOf (exec (.partReset 1) { staged with
    tariffs := #v[.retiring (gen 70 .nearestEven 0) 1, .active (gen 71 .nearestEven 0) 0]
    partFlags := PartFlag.floatClamp.bit })).map (fun t => (t.partFlags, t.tariffs[(0 : TariffIndex)])) =
    some (PartFlag.tariffRetired.bit, .empty) := by decide +kernel

/-! ## Witnesses: arrivals, grants, timers, settlement -/

/-- `loaded` with lanes 1 and 3 filled: n entries on each. -/
def filled (n : Nat) : State :=
  { loaded with lanes := upd (upd loaded.lanes 1 (fun p =>
    { p with queue := List.replicate n ⟨310, .sound, .crate 1, none, none⟩ })) 3 (fun p =>
    { p with queue := List.replicate n ⟨520, .sound, .keg 1, none, none⟩ }) }

theorem witness_SingleReadArrives :
    start.lanes[(0 : Lane)].state = .disabled ∧ start.lanes[(1 : Lane)].state ≠ .disabled ∧
    ReadKind.keg ≠ start.lanes[(1 : Lane)].kind ∧ 48 ≤ (filled 48).lanes[(3 : Lane)].queue.length ∧
    (filled 47).lanes[(3 : Lane)].queue.length < 48 ∧ ReadKind.keg = (filled 47).lanes[(3 : Lane)].kind ∧
    start.lanes[(1 : Lane)].state = .idle ∧ (filled 47).lanes[(3 : Lane)].state = .bound tag1050 ∧
    (filled 47).names tag1050 := by unfold State.names; decide +kernel

theorem witness_StackFrameArrives :
    start.lanes[(0 : Lane)].state = .disabled ∧ start.lanes[(3 : Lane)].kind = .keg ∧
    16 < (List.replicate 17 (⟨310, .sound, 1⟩ : CrateRead)).length ∧
    (∃ c, staged.lanes[(1 : Lane)].context = some c ∧ c.stack = (4#8).toNat) ∧
    48 < (filled 33).lanes[(1 : Lane)].queue.length + 16 ∧ (filled 32).lanes[(1 : Lane)].queue.length + 16 ≤ 48 ∧
    (∀ e ∈ (filled 32).lanes[(1 : Lane)].queue, e.member = none) ∧
    (filled 32).lanes[(1 : Lane)].context = none ∧ (filled 32).lanes[(1 : Lane)].kind = .crate ∧
    (filled 32).lanes[(1 : Lane)].state = .bound tag1050 ∧ (filled 32).names tag1050 ∧
    start.lanes[(1 : Lane)].state = .idle :=
  ⟨by decide +kernel, by decide +kernel, by decide, ⟨_, staged_lane1.2, rfl⟩, by decide +kernel, by decide +kernel,
    by decide +kernel, by decide +kernel, by decide +kernel, by decide +kernel,
    by unfold State.names; decide +kernel, by decide +kernel⟩

theorem witness_StackCancelWithdraws :
    start.lanes[(0 : Lane)].state = .disabled ∧ start.lanes[(1 : Lane)].state ≠ .disabled ∧
    start.lanes[(1 : Lane)].queue = [] ∧ start.lanes[(1 : Lane)].context = none ∧
    staged.lanes[(1 : Lane)].state ≠ .disabled ∧
    (∃ c, staged.lanes[(1 : Lane)].context = some c ∧ c.stack = (4#8).toNat ∧ some tag1050 = some c.tag) ∧
    (∀ e ∈ staged.lanes[(1 : Lane)].queue, e.tag = some tag1050) ∧ staged.names tag1050 ∧
    (∃ e ∈ (filled 1).lanes[(1 : Lane)].queue, e.tag = none) :=
  ⟨by decide +kernel, by decide +kernel, by decide +kernel, by decide +kernel, by decide +kernel,
    ⟨_, staged_lane1.2, rfl, rfl⟩, by decide +kernel, by unfold State.names; decide +kernel, by decide +kernel⟩

theorem witness_NoticesAndErrors :
    start.lanes[(0 : Lane)].state = .disabled ∧ start.lanes[(1 : Lane)].state ≠ .disabled ∧
    32 < (List.replicate 33 (0#8)).length ∧ (List.replicate 32 (0#8)).length ≤ 32 ∧
    ({ start with items := List.replicate 31 (.notice 0 []) }).items.length < 32 ∧
    32 ≤ ({ start with items := List.replicate 32 (.notice 0 []) }).items.length := by decide +kernel

theorem witness_DownstreamFrameOffered :
    (framed 1 0x50 0 []).address.toNat = 1 ∧ (framed 6 0x50 0 []).address.toNat = 6 ∧
    (framed 0x7F 0x50 0 []).address = 0x7F#8 ∧ 6 < (framed 7 0x50 0 []).address.toNat ∧
    (framed 7 0x50 0 []).address ≠ 0x7F#8 ∧ (framed 0 0x41 0 []).address = 0 ∧
    (framed 0 0x41 0 []).kind ≠ 0x40#8 := by decide +kernel

theorem loaded_granted : loaded.Granted 3 := by unfold State.Granted State.standing State.distance; decide +kernel

theorem staged_granted : staged.Granted 1 := by unfold State.Granted State.standing State.distance; decide +kernel

theorem witness_GrantChoosesLane :
    (∀ l : Lane, start.lanes[l].queue = []) ∧ loaded.Granted 3 ∧
    loaded.lanes[(3 : Lane)].queue = kegRead 1290 :: [kegRead 1215] ∧ ∃ t, exec .grant loaded = .next t :=
  ⟨by decide +kernel, loaded_granted, by decide +kernel, next_of_some (by decide +kernel)⟩

theorem witness_GrantOrphan :
    (filled 1).Granted 3 ∧ (filled 1).lanes[(3 : Lane)].queue = ⟨520, .sound, .keg 1, none, none⟩ :: [] ∧
    (⟨520, .sound, .keg 1, none, none⟩ : ReadEntry).tag = none :=
  ⟨by unfold State.Granted State.standing State.distance; decide +kernel, by decide +kernel, rfl⟩

theorem witness_GrantSingle :
    loaded.Granted 3 ∧ loaded.lanes[(3 : Lane)].queue = kegRead 1290 :: [kegRead 1215] ∧
    (kegRead 1290).tag = some tag1050 ∧ (kegRead 1290).member = none ∧ loaded.names tag1050 ∧
    loaded.visits[tag1050.slot].pin = some ⟨0, 70⟩ ∧
    loaded.tariffs[(0 : TariffIndex)].contents = some (gen 70 .nearestEven 0) ∧
    0 + 1 = loaded.visits[tag1050.slot].segments.length ∧
    loaded.visits[tag1050.slot].segments[0]? = some (newSegment 12 (account 40117 .b 60 10 25000 3000)) :=
  ⟨loaded_granted, by decide +kernel, rfl, rfl, by unfold State.names; decide +kernel, by decide +kernel,
    by decide +kernel, by decide +kernel, by decide +kernel⟩

/-- `loaded` with the kegs granted: position 1 of stack 4 is next, the Stack Context empty. -/
def beforeStack : State :=
  { loaded with lanes := upd loaded.lanes 3 (fun p => { p with queue := [] }) }

theorem witness_GrantStack_first :
    beforeStack.Granted 1 ∧ (crateRead 1 false .sound 0x0FFFFF).member = some ⟨4, 1, false⟩ ∧
    beforeStack.lanes[(1 : Lane)].queue =
      crateRead 1 false .sound 0x0FFFFF :: [crateRead 2 false .sound 0x01FFFF, crateRead 3 true .damaged 0x0FFFFF] ∧
    beforeStack.names tag1050 ∧ beforeStack.visits[tag1050.slot].pin = some ⟨0, 70⟩ ∧
    beforeStack.tariffs[(0 : TariffIndex)].contents = some (gen 70 .nearestEven 0) ∧
    beforeStack.lanes[(1 : Lane)].context = none ∧ 0 + 1 = beforeStack.visits[tag1050.slot].segments.length ∧
    beforeStack.visits[tag1050.slot].segments[0]? = some (newSegment 12 (account 40117 .b 60 10 25000 3000)) :=
  ⟨by unfold State.Granted State.standing State.distance; decide +kernel, rfl, by decide +kernel,
    by unfold State.names; decide +kernel, by decide +kernel, by decide +kernel, by decide +kernel,
    by decide +kernel, by decide +kernel⟩

theorem witness_GrantStack :
    staged.Granted 1 ∧ staged.lanes[(1 : Lane)].queue = crateRead 3 true .damaged 0x0FFFFF :: [] ∧
    (crateRead 3 true .damaged 0x0FFFFF).tag = some tag1050 ∧
    (crateRead 3 true .damaged 0x0FFFFF).member = some ⟨4, 3, true⟩ ∧ staged.names tag1050 ∧
    staged.visits[tag1050.slot].pin = some ⟨0, 70⟩ ∧
    staged.tariffs[(0 : TariffIndex)].contents = some (gen 70 .nearestEven 0) ∧
    (∃ old, staged.lanes[(1 : Lane)].context = some ⟨4, tag1050, 0, old⟩) ∧
    staged.visits[tag1050.slot].segments[0]? = some (newSegment 12 (account 40117 .b 60 10 25000 3000)) :=
  ⟨staged_granted, by decide +kernel, rfl, rfl, by unfold State.names; decide +kernel, by decide +kernel,
    by decide +kernel, ⟨_, staged_lane1.2⟩, by decide +kernel⟩

theorem witness_RoundingModes : 0 < 100 ∧ 2 * (5250 % 100) = 100 ∧ 2 * (5249 % 100) ≠ 100 := by decide

theorem witness_PricingStages :
    crateType.body.kind ≠ (ReadBody.keg 1).kind ∧ crateType.body.kind = (ReadBody.crate 1).kind ∧
    (gen 70 .nearestEven 0).schedules[(0 : Fin 16)].defined = false ∧
    (gen 70 .nearestEven 0).schedules[crateType.schedule].defined = true ∧
    (150 * 35) % 100 ≠ 0 ∧ kegType.body = .keg 4 ⟨1200, 30, 500, 150⟩ ∧ 1200 + 500 < 1701 ∧ 1700 ≤ 1200 + 500 ∧
    1049 + 150 < 1200 ∧ 1200 ≤ 1050 + 150 := by decide +kernel

theorem witness_CreditBounds :
    (gen 65535 .up 7).inRange ∧
    (price none (gen 70 .up 0) .a (kegRead 0)).result.listed = false ∧
    (price (some kegType) (gen 70 .up 0) .a (kegRead 20000)).result.diverted = true ∧
    (kegRead 20000).body.kind = .keg := by
  unfold Generation.inRange Schedule.inRange PerClass.within; decide +kernel

/-- A priced item of family 1. -/
def item (credit : Nat) : CommitItem := ⟨310, .sound, ⟨true, some 1, some 2, 20, credit, 0, false⟩, none⟩

/-- A segment at the top of G, with twelve lines, none for 310. -/
def topSegment : Segment :=
  { newSegment 12 Account.empty with
    gross := 2147483647, lines := (List.range 12).map (fun n => ⟨n + 1, none, ⟨0, 0, 0, 0, 0⟩⟩) }

theorem witness_CommitPassage :
    (item 310).priced.listed = true ∧ (item 310).priced.diverted = false ∧
    (true = true ↔ ∀ f, (item 310).priced.family = some f → 0 < (account 40117 .b 60 10 25000 3000).floats[f]) ∧
    (false = true ↔ ∀ f, (item 310).priced.family = some f → 0 < Account.empty.floats[f]) ∧
    2147483647 < topSegment.gross + (item 1).priced.credit ∧ ¬ 2147483647 < topSegment.gross + (item 0).priced.credit ∧
    (4#3).getLsbD 2 = true ∧ (3#3).getLsbD 2 = false ∧ (∀ x ∈ topSegment.lines, x.tagCode ≠ (item 1).tagCode) ∧
    12 ≤ topSegment.lines.length ∧ (topSegment.lines.drop 1).length < 12 := by decide +kernel

theorem witness_TimerEvents :
    ¬ (loaded.visits[(0 : VisitSlot)].state = .opened ∧
      loaded.visits[(0 : VisitSlot)].openLimit ≤ loaded.visits[(0 : VisitSlot)].elapsed) ∧
    (∀ v : VisitSlot, (loaded.visits[v].ticked loaded.graceSeconds).state = loaded.visits[v].state) ∧
    (lastSecond.counted 0).visits[(0 : VisitSlot)].openLimit ≤ (lastSecond.counted 0).visits[(0 : VisitSlot)].elapsed ∧
    ((closing 1).counted 0).visits[(0 : VisitSlot)].grace = 0 ∧
    5400 ≤ ({ staged.visits[(0 : VisitSlot)] with elapsed := 5400 } : Visit).elapsed ∧
    staged.visits[(0 : VisitSlot)].openLimit = 5400 ∧
    ¬ ((closing 1).visits[(0 : VisitSlot)].state = .closing ∧ (closing 1).visits[(0 : VisitSlot)].grace = 0) ∧
    (closing 0).visits[(0 : VisitSlot)].state = .closing ∧ (closing 0).visits[(0 : VisitSlot)].grace = 0 ∧
    0 < (closing 0).lanes[(1 : Lane)].chosenCount (Choice.ofVisit ((closing 0).visitTag 0)) ∧
    (closing 0).lanes[(3 : Lane)].chosenCount (Choice.ofVisit ((closing 0).visitTag 0)) = 0 := by decide +kernel

/-- R16, R173: in the tick that completes the 90 minutes the visit expires and its lanes pass to IDLE. -/
theorem test_tick_expires : (nextOf (exec .tick lastSecond)).map (fun t =>
    (t.visits[(0 : VisitSlot)].state, t.visits[(0 : VisitSlot)].elapsed, t.lanes[(3 : Lane)].state, t.partFlags)) =
    some (.closing, 5400, .idle, PartFlag.visitExpired.bit) := by decide +kernel

theorem witness_SettlementSettlesHead :
    start.settleWait = [] ∧ settling.settleWait = tag1050 :: [] ∧
    8 - ({ settling with settlementQueue := List.replicate 7 (.release 1 0 0) }).settlementQueue.length <
      settling.visits[tag1050.slot].segments.length ∧
    settling.visits[tag1050.slot].state = .settling ∧ settling.visits[tag1050.slot].number = tag1050.number ∧
    settling.visits[tag1050.slot].pin = some ⟨0, 70⟩ ∧
    settling.tariffs[(0 : TariffIndex)].contents = some (gen 70 .nearestEven 0) ∧
    settling.visits[tag1050.slot].segments.length ≤
      8 - ({ settling with settlementQueue := List.replicate 6 (.release 1 0 0) }).settlementQueue.length := by
  decide +kernel

theorem witness_SettlementAmounts :
    (gen 70 .up 0).header.fees.within 10000 ∧ Account.empty.held ≤ 4294967295 ∧ Account.empty.frozen = false ∧
    Account.empty.ceiling ≤ Account.empty.paidToday ∧
    (account 40117 .b 0 0 25000 3000).paidToday < (account 40117 .b 0 0 25000 3000).ceiling := by
  unfold PerClass.within; decide +kernel

theorem witness_FramesComplete :
    start.trunkTx = .idle ∧ (sending .first).trunkTx = .sending .settlements .first (framed 0 0x43 0 []) ∧
    (sending .second).trunkTx = .sending .settlements .second (framed 0 0x43 0 []) ∧
    ((sending .first).oldest .settlements).isSome = true ∧
    (∀ n x k es, Detail.visitCancelled 1 .opened 0 (List.replicate 8 ⟨1, 0, 0, 0, 0, 0⟩) = .visitCancelled n x k es →
      es.length ≤ 8) ∧
    (Detail.visitCancelled 1 .opened 0 (List.replicate 8 ⟨1, 0, 0, 0, 0, 0⟩)).bytes.length = 142 := by
  refine ⟨by decide +kernel, by decide +kernel, by decide +kernel, by decide +kernel, fun _ _ _ _ h => ?_,
    by decide +kernel⟩
  cases h; decide

/-- R166, R185: Identify's detail is the three codes in 2 bytes each, then at most nine fields of 4 bytes. -/
theorem test_identity_bytes : (Detail.bytes (.identity 1826 624 1 capacities)).take 6 = [0x07, 0x22, 0x02, 0x70, 0, 1] := by
  rfl

/-- R185: a number in 1, 2, 3 and 4 bytes, most significant byte first. -/
theorem test_beBytes : beBytes 1 24 = be8 24 ∧ beBytes 2 256 = [1, 0] ∧ beBytes 3 0x010203 = [1, 2, 3] ∧
    beBytes 4 64 = [0, 0, 0, 64] := by decide

end Sys2Proof.Tests
end

/-! ## Tables, flags and the lanes' hold output -/

namespace Sys2Proof.Machine

theorem ofFn_get {α : Type} {n : Nat} (f : Fin n → α) (i : Fin n) : (Vector.ofFn f)[i] = f i := by simp

theorem vector_ext {α : Type} {n : Nat} {v w : Vector α n} (h : ∀ i : Fin n, v[i] = w[i]) : v = w :=
  Vector.ext fun i hi => h ⟨i, hi⟩

theorem upd_eq_ofFn {α : Type} {n : Nat} (v : Vector α n) (i : Fin n) (f : α → α) :
    upd v i f = Vector.ofFn (fun j => if j = i then f v[i] else v[j]) :=
  vector_ext fun j => by rw [upd_get, ofFn_get]

theorem upd_congr {α : Type} {n : Nat} {v : Vector α n} {i : Fin n} {f g : α → α} (h : f v[i] = g v[i]) :
    upd v i f = upd v i g := by
  rw [upd_eq_ofFn, upd_eq_ofFn, h]

theorem upd_id {α : Type} {n : Nat} {v : Vector α n} {i : Fin n} {f : α → α} (h : f v[i] = v[i]) :
    upd v i f = v :=
  vector_ext fun j => by
    rw [upd_get]
    split
    · next e => rw [h, e]
    · rfl

theorem upd_upd {α : Type} {n : Nat} (v : Vector α n) (i : Fin n) (f g : α → α) :
    upd (upd v i f) i g = upd v i (fun x => g (f x)) :=
  vector_ext fun j => by simp only [upd_get, if_true]; split <;> rfl

theorem PartFlag.bit_place (f g : PartFlag) : f.bit.getLsbD g.place = decide (f = g) := by
  revert f g
  have h : ∀ f ∈ [PartFlag.itemLoss, .visitExpired, .heldOverflow, .floatClamp, .tariffRetired,
      .requestOverrun, .trunkFrameError], ∀ g ∈ [PartFlag.itemLoss, .visitExpired, .heldOverflow,
      .floatClamp, .tariffRetired, .requestOverrun, .trunkFrameError],
      f.bit.getLsbD g.place = decide (f = g) := by decide
  intro f g
  exact h f (by cases f <;> simp) g (by cases g <;> simp)

/-- A latched flag is the one flag that latching sets. -/
theorem or_bit_place (flags : PartFlags) (f g : PartFlag) :
    (flags ||| f.bit).getLsbD g.place = (flags.getLsbD g.place || decide (f = g)) := by
  rw [BitVec.getLsbD_or, PartFlag.bit_place]

theorem LanePort.enabled_iff (p : LanePort) : p.enabled = true ↔ p.state ≠ .disabled := by
  simp [LanePort.enabled]

theorem LanePort.enabled_false (p : LanePort) : p.enabled = false ↔ p.state = .disabled := by
  simp [LanePort.enabled]

/-- R35 by free entries is R35 by queued reads. -/
theorem LanePort.holdNow_eq (p : LanePort) : p.holdNow = p.holdFor p.queue.length := by
  have free : p.freeEntries = 48 - p.queue.length := rfl
  unfold LanePort.holdNow LanePort.holdFor
  by_cases d : p.state = .disabled
  · simp [LanePort.enabled, d]
  · have e : p.enabled = true := p.enabled_iff.2 d
    simp only [e, d, free, Bool.not_true, Bool.false_eq_true, if_false]
    by_cases h1 : 33 ≤ p.queue.length
    · rw [if_pos h1, if_pos (by omega)]
    · rw [if_neg h1, if_neg (by omega)]
      by_cases h2 : p.queue.length ≤ 24
      · rw [if_pos h2, if_pos (by omega)]
      · rw [if_neg h2, if_neg (by omega)]

theorem LanePort.rehold_eq (p : LanePort) : p.rehold = { p with hold := p.holdFor p.queue.length } := by
  rw [LanePort.rehold, LanePort.holdNow_eq]

theorem LanePort.without_eq (p : LanePort) (c : Choice) :
    p.without c = { p with
      queue := p.queue.filter (fun e => !c.queued e)
      context := p.context.filter (fun x => !c.staged x)
      hold := p.holdFor (p.queue.filter (fun e => !c.queued e)).length
      passCount := if (p.queue.filter (fun e => !c.queued e)).isEmpty then 0 else p.passCount } := by
  unfold LanePort.without LanePort.afterRemoval
  rw [LanePort.holdNow_eq]
  rfl

/-- A lane whose hold output R35 has just set stands as R35 bounds it. -/
theorem LanePort.holdSound_of_holdFor {p q : LanePort} (hs : q.state = .disabled ↔ p.state = .disabled)
    (h : q.hold = p.holdFor q.queue.length) : q.holdSound := by
  unfold LanePort.holdFor at h
  refine ⟨fun d => ?_, fun d => ⟨fun hl => ?_, fun hl => ?_⟩⟩
  · rw [h, if_pos (hs.1 d)]
  · rw [h, if_neg (fun e => d (hs.2 e)), if_pos hl]
  · rw [h, if_neg (fun e => d (hs.2 e)), if_neg (by omega), if_pos hl]

/-! ## Item records -/

/-- Item records are the one thing that differs: they join the queue or are counted as lost, and no flag but
ITEM_LOSS is touched (R93). -/
structure State.Records (s t : State) (rs : List ItemRecord) : Prop where
  recorded : s.Recorded t rs
  flags : ∀ f : PartFlag, f ≠ .itemLoss → t.partFlag f = s.partFlag f

theorem State.Records.none {s t : State} (hi : t.items = s.items) (hn : t.lossCount = s.lossCount)
    (hf : t.partFlags = s.partFlags) : s.Records t [] := by
  have h : ∀ f, t.partFlag f = s.partFlag f := fun f => by rw [State.partFlag, State.partFlag, hf]
  exact ⟨⟨by simp [hi], fun _ => ⟨hn, h _⟩, fun lt => absurd lt (by simp)⟩, fun f _ => h f⟩

/-- `Records` speaks of the queue, the loss count and the flags alone. -/
theorem State.Records.congr {s t s' t' : State} {rs : List ItemRecord} (h : s.Records t rs)
    (hs : s'.items = s.items ∧ s'.lossCount = s.lossCount ∧ s'.partFlags = s.partFlags)
    (ht : t'.items = t.items ∧ t'.lossCount = t.lossCount ∧ t'.partFlags = t.partFlags) :
    s'.Records t' rs := by
  obtain ⟨recorded, flags⟩ := h
  unfold State.Recorded State.partFlag at recorded
  unfold State.partFlag at flags
  refine ⟨?_, ?_⟩
  · unfold State.Recorded State.partFlag
    rw [hs.1, hs.2.1, hs.2.2, ht.1, ht.2.1, ht.2.2]
    exact recorded
  · unfold State.partFlag
    rw [hs.2.2, ht.2.2]
    exact flags

/-- Records offered in two parts are the records offered in one. -/
theorem State.Records.append {s t u : State} {as bs : List ItemRecord} (h : s.Records t as)
    (h' : t.Records u bs) : s.Records u (as ++ bs) := by
  obtain ⟨⟨items, fits, lost⟩, flags⟩ := h
  obtain ⟨⟨items', fits', lost'⟩, flags'⟩ := h'
  have room : 32 - t.items.length = (32 - s.items.length) - as.length := by
    rw [items]; simp only [List.length_append, List.length_map, List.length_take]; omega
  rw [room] at items' fits' lost'
  refine ⟨⟨?_, fun le => ?_, fun lt => ?_⟩, fun f hf => (flags' f hf).trans (flags f hf)⟩
  · rw [items', items, List.take_append, List.map_append, List.append_assoc]
  · rw [List.length_append] at le
    obtain ⟨n, l⟩ := fits (by omega)
    obtain ⟨n', l'⟩ := fits' (by omega)
    exact ⟨n'.trans n, l'.trans l⟩
  · rw [List.length_append] at lt ⊢
    by_cases ha : as.length ≤ 32 - s.items.length
    · obtain ⟨n, -⟩ := fits ha
      obtain ⟨n', l'⟩ := lost' (by omega)
      exact ⟨by rw [n', n]; congr 1; omega, l'⟩
    · obtain ⟨n, l⟩ := lost (by omega)
      by_cases hb : bs = []
      · obtain ⟨n', l'⟩ := fits' (by simp [hb])
        exact ⟨by rw [n', n, hb]; simp, l'.trans l⟩
      · have : 0 < bs.length := List.length_pos_iff.2 hb
        obtain ⟨n', l'⟩ := lost' (by omega)
        exact ⟨by rw [n', n]; omega, l'⟩

theorem State.Recorded.items_length {s t : State} {rs : List ItemRecord} (h : s.Recorded t rs)
    (hs : s.items.length ≤ 32) : t.items.length ≤ 32 := by
  rw [h.1]; simp only [List.length_append, List.length_map, List.length_take]; omega

theorem State.Recorded.lossCount_le {s t : State} {rs : List ItemRecord} (h : s.Recorded t rs)
    (hs : s.lossCount ≤ 65535) : t.lossCount ≤ 65535 := by
  obtain ⟨-, fits, lost⟩ := h
  by_cases hr : rs.length ≤ 32 - s.items.length
  · rw [(fits hr).1]; exact hs
  · rw [(lost (by omega)).1]; omega

variable (s : State)

theorem State.offerRecord_records (r : ItemRecord) :
    ∃ i n f, s.offerRecord r = { s with items := i, lossCount := n, partFlags := f } ∧
      s.Records (s.offerRecord r) (if s.lanes[r.lane].reporting then [r] else []) := by
  unfold State.offerRecord
  split
  · rcases s.placeItem_cases (.item r) with ⟨h, e⟩ | ⟨h, e⟩
    · refine ⟨_, _, _, e, ⟨⟨?_, fun _ => ?_, fun lt => ?_⟩, fun f _ => ?_⟩⟩
      · rw [e, List.take_of_length_le (by simp; omega)]; rfl
      · rw [e]; exact ⟨rfl, rfl⟩
      · simp at lt; omega
      · rw [e]; rfl
    · refine ⟨_, _, _, e, ⟨⟨?_, fun le => ?_, fun _ => ?_⟩, fun f hf => ?_⟩⟩
      · rw [e]; simp [show 32 - s.items.length = 0 by omega]
      · simp at le; omega
      · rw [e]
        refine ⟨?_, ?_⟩
        · simp [satAdd, show 32 - s.items.length = 0 by omega]
        · simp only [State.partFlag, or_bit_place, decide_true, Bool.or_true]
      · rw [e]
        simp only [State.partFlag, or_bit_place, Ne.symm hf, decide_false, Bool.or_false]
  · exact ⟨_, _, _, rfl, .none rfl rfl rfl⟩

theorem State.offerRecords_records (l : Lane) (rs : List ItemRecord) (hl : ∀ r ∈ rs, r.lane = l) :
    ∃ i n f, s.offerRecords rs = { s with items := i, lossCount := n, partFlags := f } ∧
      s.Records (s.offerRecords rs) (if s.lanes[l].reporting then rs else []) := by
  induction rs generalizing s with
  | nil => exact ⟨_, _, _, rfl, by simpa using .none rfl rfl rfl⟩
  | cons r rs ih =>
    obtain ⟨i, n, f, e, h⟩ := s.offerRecord_records r
    obtain ⟨i', n', f', e', h'⟩ := ih (s.offerRecord r) (fun x hx => hl x (List.mem_cons_of_mem _ hx))
    have e'' : s.offerRecords (r :: rs) = (s.offerRecord r).offerRecords rs := rfl
    refine ⟨i', n', f', by rw [e'', e', e], ?_⟩
    obtain rfl : r.lane = l := hl r List.mem_cons_self
    have keep : (s.offerRecord r).lanes[r.lane] = s.lanes[r.lane] := by rw [e]
    rw [keep] at h'
    rw [e'']
    have := h.append h'
    cases hb : s.lanes[r.lane].reporting <;> simpa [-Fin.getElem_fin, hb] using this

theorem State.removalRecords_lane (l : Lane) (o : ItemOutcome) (c : Choice) :
    ∀ r ∈ s.removalRecords l o c, r.lane = l := by
  intro r hr
  unfold State.removalRecords at hr
  rcases List.mem_append.1 hr with h | h
  · split at h
    · split at h
      · obtain ⟨i, -, rfl⟩ := List.mem_map.1 h; rfl
      · cases h
    · cases h
  · obtain ⟨e, -, rfl⟩ := List.mem_map.1 h; rfl

/-- The records of a lane's items speak of its queue, its context and the visits' current segments alone. -/
theorem State.removalRecords_congr {s t : State} {l : Lane} (o : ItemOutcome) (c : Choice)
    (hq : t.lanes[l].queue = s.lanes[l].queue) (hc : t.lanes[l].context = s.lanes[l].context)
    (hv : ∀ v : VisitSlot, t.visits[v].current = s.visits[v].current) :
    t.removalRecords l o c = s.removalRecords l o c := by
  unfold State.removalRecords
  rw [hq, hc]
  congr 2
  funext e
  unfold State.queuedRecord
  cases e.tag with
  | none => rfl
  | some t => simp only [hv]

theorem State.removeItems_records (l : Lane) (o : ItemOutcome) (c : Choice) :
    ∃ i n f, s.removeItems l o c =
        { s with lanes := upd s.lanes l (fun p => p.without c), items := i, lossCount := n, partFlags := f } ∧
      s.Records (s.removeItems l o c)
        (if s.lanes[l].reporting then s.removalRecords l o c else []) := by
  obtain ⟨i, n, f, e, ⟨recorded, flags⟩⟩ :=
    s.offerRecords_records l _ (s.removalRecords_lane l o c)
  exact ⟨i, n, f, by rw [State.removeItems, e]; rfl, ⟨recorded, flags⟩⟩

/-- Lane by lane, the chosen items leave each lane of a list, each with its record. -/
theorem foldl_lanes_records {F : State → Lane → State} {g : LanePort → LanePort} {o : ItemOutcome}
    {c : Choice}
    (one : ∀ s l, ∃ i n f, F s l =
        { s with lanes := upd s.lanes l g, items := i, lossCount := n, partFlags := f } ∧
      s.Records (F s l) (if s.lanes[l].reporting then s.removalRecords l o c else []))
    (ls : List Lane) (nd : ls.Nodup) :
    ∃ i n f, ls.foldl F s = { s with
        lanes := Vector.ofFn (fun l => if l ∈ ls then g s.lanes[l] else s.lanes[l])
        items := i, lossCount := n, partFlags := f } ∧
      s.Records (ls.foldl F s)
        (ls.flatMap (fun l => if s.lanes[l].reporting then s.removalRecords l o c else [])) := by
  induction ls generalizing s with
  | nil =>
    refine ⟨s.items, s.lossCount, s.partFlags, ?_, .none rfl rfl rfl⟩
    have : Vector.ofFn (fun l : Lane => if l ∈ ([] : List Lane) then g s.lanes[l] else s.lanes[l]) = s.lanes :=
      vector_ext fun l => by simp
    rw [this]; rfl
  | cons l ls ih =>
    obtain ⟨i, n, f, e, h⟩ := one s l
    obtain ⟨i', n', f', e', h'⟩ := ih (F s l) nd.tail
    have hl : l ∉ ls := (List.nodup_cons.1 nd).1
    have other : ∀ m, m ≠ l → (F s l).lanes[m] = s.lanes[m] := fun m hm => by
      rw [e]; exact upd_other _ _ _ _ hm
    have ne : ∀ m ∈ ls, m ≠ l := fun m hm h => hl (h ▸ hm)
    refine ⟨i', n', f', ?_, ?_⟩
    · rw [List.foldl_cons, e', e]
      simp only [upd_get, List.mem_cons]
      congr 1
      refine vector_ext fun m => ?_
      rw [ofFn_get, ofFn_get]
      by_cases hm : m = l
      · subst hm; simp [-Fin.getElem_fin, hl]
      · simp [-Fin.getElem_fin, hm]
    · rw [List.foldl_cons, List.flatMap_cons]
      have same : ls.flatMap (fun m => if (F s l).lanes[m].reporting then (F s l).removalRecords m o c else []) =
          ls.flatMap (fun m => if s.lanes[m].reporting then s.removalRecords m o c else []) := by
        refine List.flatMap_congr fun m hm => ?_
        rw [other m (ne m hm), State.removalRecords_congr (s := s) (t := F s l) o c (by rw [other m (ne m hm)])
          (by rw [other m (ne m hm)]) (fun v => by rw [e])]
      rw [← same]
      exact h.append h'

theorem allLanes_nodup : allLanes.Nodup := by decide

theorem updAll_eq_ofFn {α β : Type} {n : Nat} (v : Vector α n) (f : α → β) :
    updAll v f = Vector.ofFn (fun i => f v[i]) := rfl

/-- The same over all six lanes. -/
theorem foldl_allLanes_records {F : State → Lane → State} {g : LanePort → LanePort} {o : ItemOutcome}
    {c : Choice}
    (one : ∀ s l, ∃ i n f, F s l =
        { s with lanes := upd s.lanes l g, items := i, lossCount := n, partFlags := f } ∧
      s.Records (F s l) (if s.lanes[l].reporting then s.removalRecords l o c else [])) :
    ∃ i n f, allLanes.foldl F s =
        { s with lanes := updAll s.lanes g, items := i, lossCount := n, partFlags := f } ∧
      s.Records (allLanes.foldl F s) (s.reported o c) := by
  obtain ⟨i, n, f, e, h⟩ := foldl_lanes_records s one allLanes allLanes_nodup
  simp only [mem_allLanes, if_true] at e
  exact ⟨i, n, f, e, h⟩

/-- A visit's items leave every lane, each with its record (R20, R24). -/
theorem State.purgeVisit_records (o : ItemOutcome) (t : VisitTag) :
    ∃ i n f, s.purgeVisit o t = { s with
        lanes := updAll s.lanes (fun p => p.without (Choice.ofVisit t))
        items := i, lossCount := n, partFlags := f } ∧
      s.Records (s.purgeVisit o t) (s.reported o (Choice.ofVisit t)) :=
  foldl_allLanes_records s (fun s l => s.removeItems_records l o (Choice.ofVisit t))

/-! ## Grace abandonment -/

/-- A lane whose items of a visit are abandoned: removed, counted and flagged, if there are any (R20). -/
def LanePort.abandon (t : VisitTag) (p : LanePort) : LanePort :=
  if p.chosenCount (Choice.ofVisit t) = 0 then p
  else { (p.without (Choice.ofVisit t)).latch .stackAbandoned with
    abandoned := satAdd Config.top16 p.abandoned (p.chosenCount (Choice.ofVisit t)) }

theorem State.removalRecords_length (l : Lane) (o : ItemOutcome) (c : Choice) :
    (s.removalRecords l o c).length = s.lanes[l].chosenCount c := by
  unfold State.removalRecords LanePort.chosenCount LanePort.chosenStaged
  cases s.lanes[l].context with
  | none => simp
  | some x => by_cases h : c.staged x <;> simp [h]

theorem State.abandonOnLane_records (t : VisitTag) (l : Lane) :
    ∃ i n f, s.abandonOnLane t l = { s with
        lanes := upd s.lanes l (LanePort.abandon t), items := i, lossCount := n, partFlags := f } ∧
      s.Records (s.abandonOnLane t l)
        (if s.lanes[l].reporting then s.removalRecords l .abandoned (Choice.ofVisit t) else []) := by
  unfold State.abandonOnLane
  dsimp only
  by_cases h0 : s.lanes[l].chosenCount (Choice.ofVisit t) = 0
  · have none : s.removalRecords l .abandoned (Choice.ofVisit t) = [] :=
      List.eq_nil_of_length_eq_zero ((s.removalRecords_length l _ _).trans h0)
    have same : upd s.lanes l (LanePort.abandon t) = s.lanes := upd_id (by rw [LanePort.abandon, if_pos h0])
    rw [if_pos h0, none, same]
    exact ⟨_, _, _, rfl, by simpa using .none rfl rfl rfl⟩
  · obtain ⟨i, n, f, e, ⟨recorded, flags⟩⟩ := s.removeItems_records l .abandoned (Choice.ofVisit t)
    rw [if_neg h0]
    refine ⟨i, n, f, ?_, ⟨recorded, flags⟩⟩
    rw [e]
    simp only [State.modifyLane, upd_upd]
    congr 1
    refine upd_congr ?_
    rw [LanePort.abandon, if_neg h0]
    simp [LanePort.latch, LanePort.without_eq]

end Sys2Proof.Machine

/-! ## Tagged counts, drains and visits that leave OPEN -/

namespace Sys2Proof.Machine

variable (s : State)

theorem State.tagLive_iff (t : VisitTag) :
    s.tagLive t = true ↔ s.visits[t.slot].state ≠ .free ∧ s.visits[t.slot].number = t.number := by
  simp [State.tagLive]

theorem State.tagLive_of_names {t : VisitTag} (h : s.names t) : s.tagLive t = true := by
  obtain ⟨live, number⟩ := h
  refine s.tagLive_iff t |>.2 ⟨fun e => ?_, number⟩
  rw [e] at live; rcases live with h | h <;> cases h

theorem State.drained_iff (v : VisitSlot) :
    s.drained v = true ↔ s.visits[v].state = .closing ∧ s.visits[v].tagged = 0 := by
  simp [State.drained]

theorem State.lowerTagged_live {t : VisitTag} (h : s.tagLive t = true) (n : Nat) :
    s.lowerTagged t n = s.modifyVisit t.slot (fun r => { r with tagged := r.tagged - n }) := by
  rw [State.lowerTagged, if_pos h]

theorem State.raiseTagged_live {t : VisitTag} (h : s.tagLive t = true) (n : Nat) :
    s.raiseTagged (some t) n = s.modifyVisit t.slot (fun r => { r with tagged := r.tagged + n }) := by
  rw [State.raiseTagged, if_pos h]

/-- Items leave the tagged count of a live visit, which may complete its drain (R6, R19, R22). -/
theorem State.drainTagged_names {t : VisitTag} (h : s.names t) (n : Nat) :
    s.drainTagged t n = { s with
      visits := upd s.visits t.slot (fun r => r.drainedTo (r.tagged - n))
      settleWait := s.waitDrained t (s.visits[t.slot].tagged - n) } := by
  have tag : s.visitTag t.slot = t := by rw [State.visitTag, h.2]
  unfold State.drainTagged
  rw [s.lowerTagged_live (s.tagLive_of_names h)]
  unfold State.completeDrain
  by_cases hd : s.visits[t.slot].state = .closing ∧ s.visits[t.slot].tagged - n = 0
  · have drained : (s.modifyVisit t.slot (fun r => { r with tagged := r.tagged - n })).drained t.slot = true := by
      rw [State.drained_iff]; simpa only [State.modifyVisit_visits, upd_same] using hd
    rw [if_pos drained]
    simp only [State.enterSettling, State.modifyVisit, State.setSettleWait, upd_upd, State.waitDrained,
      State.visitTag, upd_same, if_pos hd]
    rw [upd_congr (g := fun r => r.drainedTo (r.tagged - n)) (by rw [Visit.drainedTo, if_pos hd, hd.2]), ← tag]
    rfl
  · have drained : ¬ (s.modifyVisit t.slot (fun r => { r with tagged := r.tagged - n })).drained t.slot = true := by
      rw [State.drained_iff]; simpa only [State.modifyVisit_visits, upd_same] using hd
    rw [if_neg drained]
    simp only [State.modifyVisit, State.waitDrained, if_neg hd]
    rw [upd_congr (g := fun r => r.drainedTo (r.tagged - n)) (by rw [Visit.drainedTo, if_neg hd])]

theorem State.giveUpLanes_eq (v : VisitSlot) :
    s.giveUpLanes v = { s with
      lanes := s.lanesWithout s.visits[v].laneSet
      visits := upd s.visits v (fun r => { r with laneSet := 0 }) } := rfl

/-- A visit leaves OPEN, and SETTLING follows at once when nothing is tagged (R15, R22). -/
theorem State.leaveOpen_eq (v : VisitSlot) (c : CloseCause) :
    s.leaveOpen v c = { s with
      lanes := s.lanesWithout s.visits[v].laneSet
      visits := upd s.visits v (fun r => r.left c s.graceSeconds)
      settleWait := s.waitAfter v s.visits[v].tagged } := by
  unfold State.leaveOpen State.completeDrain
  rw [State.giveUpLanes_eq]
  simp only [State.modifyVisit, upd_upd]
  by_cases h0 : s.visits[v].tagged = 0
  · rw [if_pos ((State.drained_iff _ v).2 ⟨by rw [upd_same], by rw [upd_same]; exact h0⟩)]
    simp only [State.enterSettling, State.modifyVisit, State.setSettleWait, upd_upd, State.waitAfter, if_pos h0,
      State.visitTag, upd_same]
    rw [upd_congr (g := fun r => r.left c s.graceSeconds) (by simp only [Visit.left, if_pos h0])]
  · rw [if_neg (fun h => h0 (by simpa only [upd_same] using ((State.drained_iff _ v).1 h).2))]
    simp only [State.waitAfter, if_neg h0]
    rw [upd_congr (g := fun r => r.left c s.graceSeconds) (by simp only [Visit.left, if_neg h0])]

theorem allVisits_nodup : allVisits.Nodup := List.nodup_finRange 24

/-- Visits enter SETTLING one after another, in the order of a list (R22). -/
theorem State.foldl_enterSettling (vs : List VisitSlot) (nd : vs.Nodup) :
    vs.foldl State.enterSettling s = { s with
      visits := Vector.ofFn (fun v =>
        if v ∈ vs then { s.visits[v] with state := .settling, grace := 0 } else s.visits[v])
      settleWait := s.settleWait ++ vs.map s.visitTag } := by
  induction vs generalizing s with
  | nil =>
    have same : Vector.ofFn (fun v : VisitSlot => s.visits[v]) = s.visits := vector_ext fun v => ofFn_get _ v
    simp only [List.foldl_nil, List.map_nil, List.append_nil, List.not_mem_nil, if_false, same]
  | cons v vs ih =>
    have hv : v ∉ vs := (List.nodup_cons.1 nd).1
    have tags : vs.map (s.enterSettling v).visitTag = vs.map s.visitTag := by
      refine List.map_congr_left fun w hw => ?_
      rw [State.enterSettling_eq]
      simp only [State.visitTag, upd_other _ _ _ _ (fun e : w = v => hv (e ▸ hw))]
    have visits : ∀ w, (if w ∈ vs then { (s.enterSettling v).visits[w] with state := .settling, grace := 0 }
        else (s.enterSettling v).visits[w]) =
        if w ∈ v :: vs then { s.visits[w] with state := .settling, grace := 0 } else s.visits[w] := fun w => by
      rw [State.enterSettling_eq]
      by_cases hw : w = v
      · subst hw; simp only [hv, if_false, List.mem_cons_self, if_true, upd_same]
      · simp only [List.mem_cons, hw, false_or, upd_other _ _ _ _ hw]
    rw [List.foldl_cons, ih _ nd.tail, tags, funext visits, State.enterSettling_eq]
    simp only [List.map_cons, List.append_assoc, List.singleton_append]

/-! ## Lane Reset -/

/-- A visit whose tagged count falls by its items on a lane (R6, R53). -/
def State.loweredOn (s : State) (l : Lane) (v : VisitSlot) : Visit :=
  if s.visits[v].state = .free then s.visits[v]
  else { s.visits[v] with tagged := s.visits[v].tagged - s.taggedOn l v }

theorem State.loweredOn_state (l : Lane) (v : VisitSlot) : (s.loweredOn l v).state = s.visits[v].state := by
  unfold State.loweredOn; split <;> rfl

theorem State.loweredOn_number (l : Lane) (v : VisitSlot) : (s.loweredOn l v).number = s.visits[v].number := by
  unfold State.loweredOn; split <;> rfl

/-- The step of `lowerForLane` at one visit that stands as it did. -/
theorem State.lowerTagged_on {t : State} {l : Lane} {v : VisitSlot} (same : t.visits[v] = s.visits[v]) :
    t.lowerTagged (s.visitTag v) (s.taggedOn l v) =
      { t with visits := upd t.visits v (fun _ => s.loweredOn l v) } := by
  unfold State.lowerTagged State.loweredOn
  by_cases hf : s.visits[v].state = .free
  · have dead : ¬ t.tagLive (s.visitTag v) = true := fun h => ((t.tagLive_iff _).1 h).1 (same ▸ hf)
    rw [if_neg dead]
    simp only [if_pos hf]
    rw [upd_id same.symm]
  · have live : t.tagLive (s.visitTag v) = true :=
      (t.tagLive_iff _).2 ⟨by rw [State.visitTag, same]; exact hf, by simp only [State.visitTag, same]⟩
    have lowered : upd t.visits v (fun r => { r with tagged := r.tagged - s.taggedOn l v }) =
        upd t.visits v (fun _ => { s.visits[v] with tagged := s.visits[v].tagged - s.taggedOn l v }) :=
      upd_congr (by simp only [same])
    rw [if_pos live, State.modifyVisit, if_neg hf, ← lowered]
    rfl

theorem State.foldl_lowerTagged (l : Lane) (vs : List VisitSlot) (nd : vs.Nodup) (t : State)
    (same : ∀ v ∈ vs, t.visits[v] = s.visits[v]) :
    vs.foldl (fun t v => t.lowerTagged (s.visitTag v) (s.taggedOn l v)) t =
      { t with visits := Vector.ofFn (fun v => if v ∈ vs then s.loweredOn l v else t.visits[v]) } := by
  induction vs generalizing t with
  | nil =>
    have same : Vector.ofFn (fun v : VisitSlot => t.visits[v]) = t.visits := vector_ext fun v => ofFn_get _ v
    simp only [List.foldl_nil, List.not_mem_nil, if_false, same]
  | cons v vs ih =>
    have hv : v ∉ vs := (List.nodup_cons.1 nd).1
    have visits : ∀ w, (if w ∈ vs then s.loweredOn l w else (upd t.visits v (fun _ => s.loweredOn l v))[w]) =
        if w ∈ v :: vs then s.loweredOn l w else t.visits[w] := fun w => by
      by_cases hw : w = v
      · subst hw; simp only [hv, if_false, upd_same, List.mem_cons_self, if_true]
      · simp only [List.mem_cons, hw, false_or, upd_other _ _ _ _ hw]
    rw [List.foldl_cons, s.lowerTagged_on (same v List.mem_cons_self), ih nd.tail _ (fun w hw => by
      rw [upd_other _ _ _ _ (fun e : w = v => hv (e ▸ hw))]; exact same w (List.mem_cons_of_mem _ hw)),
      funext visits]

theorem State.lowerForLane_eq (l : Lane) :
    s.lowerForLane l = { s with visits := Vector.ofFn (s.loweredOn l) } := by
  rw [State.lowerForLane, s.foldl_lowerTagged l allVisits allVisits_nodup s (fun _ _ => rfl)]
  simp only [mem_allVisits, if_true]

theorem insertByRank_perm (i : Nat) (v : VisitSlot) (vs : List VisitSlot) :
    (insertByRank i v vs).Perm (v :: vs) := by
  induction vs with
  | nil => exact List.Perm.refl _
  | cons u us ih =>
    unfold insertByRank
    split
    · exact List.Perm.refl _
    · exact (ih.cons u).trans (List.Perm.swap v u us)

/-- The open order of R53 lists the same visits. -/
theorem orderByRank_perm (i : Nat) (vs : List VisitSlot) : (orderByRank i vs).Perm vs := by
  induction vs with
  | nil => exact List.Perm.refl _
  | cons v vs ih => exact (insertByRank_perm i v _).trans (ih.cons v)

theorem State.mem_drainedByReset (l : Lane) (v : VisitSlot) :
    v ∈ s.drainedByReset l ↔ s.visits[v].state = .closing ∧ 0 < s.taggedOn l v ∧
      s.visits[v].tagged ≤ s.taggedOn l v := by
  unfold State.drainedByReset
  rw [List.mem_filter, State.lowerForLane_eq]
  simp only [mem_allVisits, true_and, Bool.and_eq_true, decide_eq_true_eq, State.drained_iff, ofFn_get,
    State.loweredOn_state]
  constructor
  · rintro ⟨on, closing, zero⟩
    refine ⟨closing, on, ?_⟩
    simp only [State.loweredOn, closing, reduceCtorEq, if_false] at zero
    omega
  · rintro ⟨closing, on, le⟩
    refine ⟨on, closing, ?_⟩
    simp only [State.loweredOn, closing, reduceCtorEq, if_false]
    omega

theorem LanePort.cleared_eq (p : LanePort) : p.cleared = { p with
    queue := [], context := none, txQueue := p.txQueue.take 1, hold := decide (p.state = .disabled)
    accepted := 0, frameErrors := 0, overruns := 0, orphans := 0, abandoned := 0, downLosses := 0
    flags := 0, passCount := 0 } := by
  unfold LanePort.cleared
  rw [LanePort.rehold_eq]
  simp only [LanePort.dropUnstarted, LanePort.holdFor, List.length_nil]
  by_cases h : p.state = .disabled <;> simp [h]

/-- The order in which the drains of a Lane Reset end (log 5). -/
def State.resetOrder (s : State) (l : Lane) : List VisitSlot := orderByRank s.freeIndex (s.drainedByReset l)

theorem State.resetOrder_nodup (l : Lane) : (s.resetOrder l).Nodup :=
  (orderByRank_perm _ _).nodup_iff.2 (allVisits_nodup.filter _)

theorem State.mem_resetOrder (l : Lane) (v : VisitSlot) :
    v ∈ s.resetOrder l ↔ s.visits[v].state = .closing ∧ 0 < s.taggedOn l v ∧
      s.visits[v].tagged ≤ s.taggedOn l v :=
  (orderByRank_perm _ _).mem_iff.trans (s.mem_drainedByReset l v)

/-- The effect of a Lane Reset (R53). -/
theorem State.resetLane_eq (l : Lane) :
    ∃ fi, s.resetLane l = { s with
      lanes := upd s.lanes l LanePort.cleared
      visits := Vector.ofFn (fun v => if v ∈ s.resetOrder l then
        { s.loweredOn l v with state := .settling, grace := 0 } else s.loweredOn l v)
      settleWait := s.settleWait ++ (s.resetOrder l).map s.visitTag
      freeIndex := fi } := by
  have tags : ((s.lowerForLane l).modifyLane l LanePort.cleared).visitTag = s.visitTag := funext fun v => by
    rw [State.lowerForLane_eq]
    simp only [State.visitTag, State.modifyLane_visits, ofFn_get, State.loweredOn_number]
  have drains := ((s.lowerForLane l).modifyLane l LanePort.cleared).foldl_enterSettling (s.resetOrder l)
    (s.resetOrder_nodup l)
  rw [tags, State.lowerForLane_eq] at drains
  simp only [State.modifyLane, ofFn_get, State.resetOrder] at drains
  refine ⟨if 1 < (s.drainedByReset l).length then s.freeIndex + 1 else s.freeIndex, ?_⟩
  unfold State.resetLane
  rw [State.lowerForLane_eq]
  simp only [State.modifyLane, drains, State.setFreeIndex, State.resetOrder]
  rfl

end Sys2Proof.Machine

/-! ## Floats given back, use counts and pins -/

namespace Sys2Proof.Machine

variable (s : State)

/-- A part flag is latched when a condition holds, and no other flag is touched. -/
def State.Latches (s t : State) (f : PartFlag) (P : Prop) : Prop :=
  ∀ g : PartFlag, t.partFlag g = true ↔ s.partFlag g = true ∨ g = f ∧ P

theorem State.Latches.refl {s t : State} (f : PartFlag) (h : t.partFlags = s.partFlags) :
    s.Latches t f False := fun g => by simp [State.partFlag, h]

theorem State.Latches.trans {s t u : State} {f : PartFlag} {P Q : Prop} (h : s.Latches t f P)
    (h' : t.Latches u f Q) : s.Latches u f (P ∨ Q) := fun g => by
  rw [h' g, h g, or_assoc, ← and_or_left]

theorem State.Latches.congr {s t : State} {f : PartFlag} {P Q : Prop} (h : s.Latches t f P) (e : P ↔ Q) :
    s.Latches t f Q := fun g => by rw [h g, e]

theorem State.latches_latchPart (f : PartFlag) : s.Latches (s.latchPart f) f True := fun g => by
  simp only [State.latchPart_eq, State.partFlag, or_bit_place, Bool.or_eq_true, decide_eq_true_eq, and_true]
  exact or_congr_right eq_comm

theorem State.latches_latchPartIf (f : PartFlag) (b : Bool) : s.Latches (s.latchPartIf f b) f (b = true) := by
  cases b
  · exact (State.Latches.refl f rfl).congr (by simp)
  · exact (s.latches_latchPart f).congr (by simp)

/-! ## Floats -/

theorem givenBack_eq (n : Nat) (xs : List Nat) :
    givenBack n xs = if xs = [] then n else min 65535 (n + xs.sum) := by
  induction xs generalizing n with
  | nil => rfl
  | cons x xs ih =>
    have step : givenBack n (x :: xs) = givenBack (min 65535 (n + x)) xs := rfl
    rw [step, ih, if_neg (List.cons_ne_nil _ _), List.sum_cons]
    by_cases h : xs = []
    · subst h; simp
    · rw [if_neg h]; omega

theorem givenBack_append (n : Nat) (xs ys : List Nat) :
    givenBack n (xs ++ ys) = givenBack (givenBack n xs) ys := by
  rw [givenBack, List.foldl_append]; rfl

/-- Amounts given back in two parts pass the top in one of them just when they pass it together. -/
theorem passesTop_append (n : Nat) (xs ys : List Nat) :
    (xs ≠ [] ∧ 65535 < n + xs.sum) ∨ (ys ≠ [] ∧ 65535 < givenBack n xs + ys.sum) ↔
      xs ++ ys ≠ [] ∧ 65535 < n + (xs ++ ys).sum := by
  rw [givenBack_eq, List.sum_append]
  by_cases hx : xs = []
  · subst hx; simp
  · have hxy : xs ++ ys ≠ [] := by simp [hx]
    simp only [hx, hxy, if_false, ne_eq, not_false_eq_true, true_and]
    by_cases hy : ys = []
    · subst hy; simp
    · simp only [hy, not_false_eq_true, true_and]; omega

theorem takenOf_append (a : AccountSlot) (f : Family) (gs hs : List Segment) :
    takenOf a f (gs ++ hs) = takenOf a f gs ++ takenOf a f hs := by
  simp [takenOf]

theorem takenOf_singleton (a : AccountSlot) (f : Family) (g : Segment) :
    takenOf a f [g] = if g.accountSlot = a then [g.floatTaken[f]] else [] := by
  by_cases h : g.accountSlot = a <;> simp [takenOf, h]

/-- An account's floats after the float that segments took of it is given back (R25). -/
def Account.withFloat (r : Account) (a : AccountSlot) (gs : List Segment) : Account :=
  { r with floats := Vector.ofFn (fun f => givenBack r.floats[f] (takenOf a f gs)) }

theorem Account.withFloat_nil (r : Account) (a : AccountSlot) : r.withFloat a [] = r := by
  have : Vector.ofFn (fun f : Family => r.floats[f]) = r.floats := vector_ext fun f => ofFn_get _ f
  simp only [Account.withFloat, takenOf, List.filter_nil, List.map_nil, givenBack, List.foldl_nil, this]

theorem Account.withFloat_append (r : Account) (a : AccountSlot) (gs hs : List Segment) :
    (r.withFloat a gs).withFloat a hs = r.withFloat a (gs ++ hs) := by
  simp only [Account.withFloat, ofFn_get, takenOf_append, givenBack_append]

/-- Some float of an account passes its top as float taken is given back (R25, R135). -/
def State.Clamps (s : State) (gs : List Segment) : Prop :=
  ∃ (a : AccountSlot) (f : Family), takenOf a f gs ≠ [] ∧
    65535 < s.accounts[a].floats[f] + (takenOf a f gs).sum

theorem State.not_clamps_nil : ¬ s.Clamps [] := by
  rintro ⟨a, f, h, -⟩; exact h rfl

theorem State.clamps_append {s t : State} {gs : List Segment} (hs : List Segment)
    (h : ∀ (a : AccountSlot) (f : Family),
      t.accounts[a].floats[f] = givenBack s.accounts[a].floats[f] (takenOf a f gs)) :
    s.Clamps gs ∨ t.Clamps hs ↔ s.Clamps (gs ++ hs) := by
  simp only [State.Clamps, h, takenOf_append, ← passesTop_append, exists_or]

theorem State.addFloat_eq (a : AccountSlot) (f : Family) (n : Nat) :
    ∃ flags, s.addFloat a f n = { s with
        accounts := upd s.accounts a (fun r =>
          { r with floats := upd r.floats f (fun _ => satAdd 65535 s.accounts[a].floats[f] n) })
        partFlags := flags } ∧
      s.Latches (s.addFloat a f n) .floatClamp (65535 < s.accounts[a].floats[f] + n) := by
  obtain ⟨flags, e⟩ := s.addFloat_frame a f n
  refine ⟨flags, e, ?_⟩
  have := (s.setFloatValue a f (satAdd Config.top16 (s.float a f) n)).latches_latchPartIf .floatClamp
    (Config.top16 < s.float a f + n)
  exact State.Latches.congr (s := s) this (by rw [decide_eq_true_eq]; rfl)

theorem allFamilies_nodup : allFamilies.Nodup := by decide

/-- Float given back family by family (R25). -/
theorem State.foldl_addFloat (a : AccountSlot) (taken : Vector Nat 8) (fs : List Family) (nd : fs.Nodup) :
    ∃ flags, fs.foldl (fun s f => s.addFloat a f taken[f]) s = { s with
        accounts := upd s.accounts a (fun r => { r with floats := Vector.ofFn (fun f =>
          if f ∈ fs then satAdd 65535 r.floats[f] taken[f] else r.floats[f]) })
        partFlags := flags } ∧
      s.Latches (fs.foldl (fun s f => s.addFloat a f taken[f]) s) .floatClamp
        (∃ f ∈ fs, 65535 < s.accounts[a].floats[f] + taken[f]) := by
  induction fs generalizing s with
  | nil =>
    have same : Vector.ofFn (fun f : Family => s.accounts[a].floats[f]) = s.accounts[a].floats :=
      vector_ext fun f => ofFn_get _ f
    refine ⟨s.partFlags, ?_, (State.Latches.refl _ rfl).congr (by simp)⟩
    rw [upd_id (by simp only [List.not_mem_nil, if_false, same])]
    rfl
  | cons f fs ih =>
    obtain ⟨x, e, l⟩ := s.addFloat_eq a f taken[f]
    obtain ⟨y, e', l'⟩ := ih (s.addFloat a f taken[f]) nd.tail
    have hf : f ∉ fs := (List.nodup_cons.1 nd).1
    have account : (s.addFloat a f taken[f]).accounts[a] = { s.accounts[a] with
        floats := upd s.accounts[a].floats f (fun _ => satAdd 65535 s.accounts[a].floats[f] taken[f]) } := by
      rw [e]; exact upd_same _ _ _
    refine ⟨y, ?_, ?_⟩
    · rw [List.foldl_cons, e', e]
      simp only [upd_upd]
      have floats : ∀ g, (if g ∈ fs then
            satAdd 65535 (upd s.accounts[a].floats f (fun _ => satAdd 65535 s.accounts[a].floats[f] taken[f]))[g] taken[g]
          else (upd s.accounts[a].floats f (fun _ => satAdd 65535 s.accounts[a].floats[f] taken[f]))[g]) =
          if g ∈ f :: fs then satAdd 65535 s.accounts[a].floats[g] taken[g] else s.accounts[a].floats[g] := fun g => by
        by_cases hg : g = f
        · subst hg; simp only [hf, if_false, upd_same, List.mem_cons_self, if_true]
        · simp only [List.mem_cons, hg, false_or, upd_other _ _ _ _ hg]
      have accounts : ∀ F : Account → Account, F s.accounts[a] = { s.accounts[a] with
          floats := Vector.ofFn (fun g =>
            if g ∈ f :: fs then satAdd 65535 s.accounts[a].floats[g] taken[g] else s.accounts[a].floats[g]) } →
          upd s.accounts a F = upd s.accounts a (fun r => { r with floats := Vector.ofFn (fun g =>
            if g ∈ f :: fs then satAdd 65535 r.floats[g] taken[g] else r.floats[g]) }) := fun F h => upd_congr h
      rw [accounts _ (by simp only [floats])]
    · rw [List.foldl_cons]
      refine (l.trans l').congr ?_
      have later : ∀ g ∈ fs, (s.addFloat a f taken[f]).accounts[a].floats[g] = s.accounts[a].floats[g] :=
        fun g hg => by rw [account]; exact upd_other _ _ _ _ (fun e => hf (e ▸ hg))
      have rest : (∃ g ∈ fs, 65535 < (s.addFloat a f taken[f]).accounts[a].floats[g] + taken[g]) ↔
          ∃ g ∈ fs, 65535 < s.accounts[a].floats[g] + taken[g] :=
        exists_congr fun g => and_congr_right fun hg => by rw [later g hg]
      rw [rest, List.exists_mem_cons_iff]

/-- One segment's float taken goes back (R25). -/
theorem State.addBackSegment_eq (g : Segment) :
    ∃ flags, s.addBackSegment g = { s with
        accounts := Vector.ofFn (fun a => s.accounts[a].withFloat a [g])
        partFlags := flags } ∧
      s.Latches (s.addBackSegment g) .floatClamp (s.Clamps [g]) := by
  obtain ⟨flags, e, l⟩ := s.foldl_addFloat g.accountSlot g.floatTaken allFamilies allFamilies_nodup
  refine ⟨flags, ?_, l.congr ?_⟩
  · rw [State.addBackSegment, e]
    have accounts : upd s.accounts g.accountSlot (fun r => { r with floats := Vector.ofFn (fun f =>
        if f ∈ allFamilies then satAdd 65535 r.floats[f] g.floatTaken[f] else r.floats[f]) }) =
        Vector.ofFn (fun a => s.accounts[a].withFloat a [g]) := vector_ext fun a => by
      rw [upd_get, ofFn_get]
      by_cases ha : a = g.accountSlot
      · subst ha
        simp only [Account.withFloat, takenOf_singleton, mem_allFamilies, if_true, givenBack, List.foldl_cons,
          List.foldl_nil, satAdd]
      · have : takenOf a = fun f => takenOf a f := rfl
        have none : ∀ f, takenOf a f [g] = [] := fun f => by rw [takenOf_singleton, if_neg (Ne.symm ha)]
        have same : Vector.ofFn (fun f : Family => s.accounts[a].floats[f]) = s.accounts[a].floats :=
          vector_ext fun f => ofFn_get _ f
        simp only [ha, if_false, Account.withFloat, none, givenBack, List.foldl_nil, same]
    rw [accounts]
  · constructor
    · rintro ⟨f, -, h⟩
      exact ⟨g.accountSlot, f, by simp [takenOf_singleton], by simpa [takenOf_singleton] using h⟩
    · rintro ⟨a, f, ne, h⟩
      rw [takenOf_singleton] at ne h
      by_cases ha : g.accountSlot = a
      · subst ha; exact ⟨f, mem_allFamilies f, by simpa using h⟩
      · exact absurd (if_neg ha) ne

/-- Float taken goes back segment by segment (R25). -/
theorem State.addBack_eq (gs : List Segment) :
    ∃ flags, s.addBack gs = { s with
        accounts := Vector.ofFn (fun a => s.accounts[a].withFloat a gs)
        partFlags := flags } ∧
      s.Latches (s.addBack gs) .floatClamp (s.Clamps gs) := by
  induction gs generalizing s with
  | nil =>
    have same : Vector.ofFn (fun a : AccountSlot => s.accounts[a]) = s.accounts := vector_ext fun a => ofFn_get _ a
    refine ⟨s.partFlags, ?_, (State.Latches.refl _ rfl).congr (by simpa using s.not_clamps_nil)⟩
    simp only [Account.withFloat_nil, same]
    rfl
  | cons g gs ih =>
    obtain ⟨x, e, l⟩ := s.addBackSegment_eq g
    obtain ⟨y, e', l'⟩ := ih (s.addBackSegment g)
    have step : s.addBack (g :: gs) = (s.addBackSegment g).addBack gs := rfl
    refine ⟨y, ?_, ?_⟩
    · rw [step, e', e]
      simp only [ofFn_get, Account.withFloat_append, List.singleton_append]
    · rw [step]
      refine (l.trans l').congr ?_
      rw [State.clamps_append gs (fun a f => ?_), List.singleton_append]
      rw [e]
      simp only [ofFn_get, Account.withFloat]

/-! ## Use counts -/

theorem State.dropUses_eq (gs : List Segment) :
    s.dropUses gs = { s with accounts := Vector.ofFn (fun a =>
      { s.accounts[a] with useCount := s.accounts[a].useCount - gs.countP (fun g => g.accountSlot == a) }) } := by
  induction gs generalizing s with
  | nil =>
    have same : Vector.ofFn (fun a : AccountSlot => s.accounts[a]) = s.accounts := vector_ext fun a => ofFn_get _ a
    simp only [List.countP_nil, Nat.sub_zero, same]
    rfl
  | cons g gs ih =>
    have step : s.dropUses (g :: gs) =
        (s.modifyAccount g.accountSlot (fun r => { r with useCount := r.useCount - 1 })).dropUses gs := rfl
    rw [step, ih]
    simp only [State.modifyAccount]
    have accounts : ∀ a : AccountSlot,
        ({ (upd s.accounts g.accountSlot (fun r => { r with useCount := r.useCount - 1 }))[a] with
          useCount := (upd s.accounts g.accountSlot (fun r => { r with useCount := r.useCount - 1 }))[a].useCount -
            gs.countP (fun g => g.accountSlot == a) } : Account) =
        { s.accounts[a] with
          useCount := s.accounts[a].useCount - (g :: gs).countP (fun g => g.accountSlot == a) } := fun a => by
      rw [upd_get, List.countP_cons]
      by_cases ha : a = g.accountSlot
      · subst ha; simp only [if_true, beq_self_eq_true, Account.mk.injEq, true_and]; omega
      · have : (g.accountSlot == a) = false := by simpa using Ne.symm ha
        simp only [ha, if_false, this, Bool.false_eq_true, Nat.add_zero]
    rw [funext accounts]

/-! ## Pins -/

/-- How many of a list of pins name a tariff slot. -/
def pinsOn (i : TariffIndex) (ps : List (Option Pin)) : Nat := ps.countP (fun p => p.any (fun p => p.slot == i))

theorem pinsOn_append (i : TariffIndex) (ps qs : List (Option Pin)) :
    pinsOn i (ps ++ qs) = pinsOn i ps + pinsOn i qs := List.countP_append

theorem pinsOn_some (i : TariffIndex) (p : Pin) : pinsOn i [some p] = if p.slot = i then 1 else 0 := by
  by_cases h : p.slot = i <;> simp [pinsOn, h]

theorem TariffSlot.released_zero (x : TariffSlot) : x.released 0 = x := by cases x <;> rfl

theorem TariffSlot.released_add (x : TariffSlot) (j k : Nat) : (x.released j).released k = x.released (j + k) := by
  cases x with
  | empty => rfl
  | pending g => rfl
  | active g n => simp only [TariffSlot.released, Nat.sub_sub]
  | retiring g n =>
    by_cases hj : j = 0
    · subst hj; rw [TariffSlot.released_zero, Nat.zero_add]
    · by_cases hn : n ≤ j
      · simp only [TariffSlot.released, hj, if_false, hn, if_true, show j + k ≠ 0 by omega,
          show n ≤ j + k by omega]
      · by_cases hk : k = 0
        · simp only [TariffSlot.released, hj, if_false, hn, hk, if_true, Nat.add_zero]
        · by_cases hnk : n ≤ j + k
          · simp only [TariffSlot.released, hj, if_false, hn, hk, show j + k ≠ 0 by omega, hnk, if_true,
              show n - j ≤ k by omega]
          · simp only [TariffSlot.released, hj, if_false, hn, hk, show j + k ≠ 0 by omega, hnk,
              show ¬ n - j ≤ k by omega, Nat.sub_sub]

/-- The last pin of a RETIRING slot is among a number of its pins released (R124). -/
def TariffSlot.RetiresAfter (x : TariffSlot) (k : Nat) : Prop :=
  ∃ (g : Generation) (n : Nat), x = .retiring g n ∧ 1 ≤ k ∧ n ≤ k

theorem TariffSlot.retiresAfter_add (x : TariffSlot) (j k : Nat) :
    x.RetiresAfter j ∨ (x.released j).RetiresAfter k ↔ x.RetiresAfter (j + k) := by
  unfold TariffSlot.RetiresAfter
  cases x with
  | empty => simp [TariffSlot.released]
  | pending g => simp [TariffSlot.released]
  | active g n => simp [TariffSlot.released]
  | retiring g n =>
    simp only [TariffSlot.retiring.injEq, TariffSlot.released]
    by_cases hj : j = 0
    · simp [hj]
    · by_cases hn : n ≤ j
      · simp only [hj, hn, if_false, if_true, reduceCtorEq, false_and, exists_false, or_false]
        constructor <;> rintro ⟨_, _, ⟨rfl, rfl⟩, _, _⟩ <;> exact ⟨_, _, ⟨rfl, rfl⟩, by omega, by omega⟩
      · simp only [hj, hn, if_false, TariffSlot.retiring.injEq]
        constructor
        · rintro (⟨_, _, ⟨rfl, rfl⟩, _, h⟩ | ⟨_, _, ⟨rfl, rfl⟩, h1, h2⟩)
          · exact absurd h hn
          · exact ⟨_, _, ⟨rfl, rfl⟩, by omega, by omega⟩
        · rintro ⟨_, _, ⟨rfl, rfl⟩, h1, h2⟩
          exact .inr ⟨_, _, ⟨rfl, rfl⟩, by omega, by omega⟩

/-- Releasing a list of pins empties a RETIRING slot (R124). -/
def State.Retires (s : State) (ps : List (Option Pin)) : Prop :=
  ∃ i : TariffIndex, s.tariffs[i].RetiresAfter (pinsOn i ps)

theorem State.not_retires_nil : ¬ s.Retires [] := by
  rintro ⟨i, g, n, -, h, -⟩; simp [pinsOn] at h

theorem State.retires_append {s t : State} {ps : List (Option Pin)} (qs : List (Option Pin))
    (h : ∀ i : TariffIndex, t.tariffs[i] = s.tariffs[i].released (pinsOn i ps)) :
    s.Retires ps ∨ t.Retires qs ↔ s.Retires (ps ++ qs) := by
  simp only [State.Retires, h, pinsOn_append, ← TariffSlot.retiresAfter_add, exists_or]

theorem State.released_none :
    Vector.ofFn (fun i : TariffIndex => s.tariffs[i].released (pinsOn i [none])) = s.tariffs :=
  vector_ext fun i => by rw [ofFn_get]; exact TariffSlot.released_zero _

theorem State.released_some (p : Pin) :
    Vector.ofFn (fun i : TariffIndex => s.tariffs[i].released (pinsOn i [some p])) =
      upd s.tariffs p.slot (fun x => x.released 1) := vector_ext fun i => by
  rw [ofFn_get, upd_get, pinsOn_some]
  by_cases hi : i = p.slot
  · subst hi; simp only [if_true]
  · simp only [hi, Ne.symm hi, if_false, TariffSlot.released_zero]

theorem State.retires_some (p : Pin) : s.Retires [some p] ↔ s.tariffs[p.slot].RetiresAfter 1 := by
  constructor
  · rintro ⟨i, g, n, e, h⟩
    rw [pinsOn_some] at h
    by_cases hi : p.slot = i
    · subst hi; exact ⟨g, n, e, by simpa using h⟩
    · simp [hi] at h
  · exact fun h => ⟨p.slot, by rw [pinsOn_some, if_pos rfl]; exact h⟩

theorem State.not_retires_none : ¬ s.Retires [none] := by
  simp [State.Retires, TariffSlot.RetiresAfter, pinsOn]

theorem State.unpin_eq (p : Option Pin) :
    ∃ flags, s.unpin p = { s with
        tariffs := Vector.ofFn (fun i => s.tariffs[i].released (pinsOn i [p]))
        partFlags := flags } ∧
      s.Latches (s.unpin p) .tariffRetired (s.Retires [p]) := by
  cases p with
  | none =>
    refine ⟨s.partFlags, by rw [s.released_none]; rfl, (State.Latches.refl _ rfl).congr ?_⟩
    simp [s.not_retires_none]
  | some p =>
    have retires := s.retires_some p
    have one : ∀ x, s.tariffs[p.slot].released 1 = x →
        upd s.tariffs p.slot (fun _ => x) = upd s.tariffs p.slot (fun x => x.released 1) := fun x h =>
      upd_congr h.symm
    rw [s.released_some]
    simp only [State.unpin]
    split
    · next g n e =>
      refine ⟨s.partFlags, by rw [State.setTariff, one _ (by rw [e]; rfl)], (State.Latches.refl _ rfl).congr ?_⟩
      simp [retires, TariffSlot.RetiresAfter, e, -Fin.getElem_fin]
    · next g n e =>
      split
      · next hn =>
        refine ⟨s.partFlags ||| PartFlag.tariffRetired.bit, ?_, ?_⟩
        · rw [State.latchPart_eq, State.setTariff, one .empty (by rw [e]; simp [TariffSlot.released, hn])]
        · refine State.Latches.congr (s := s) ((s.setTariff p.slot .empty).latches_latchPart .tariffRetired) ?_
          exact iff_of_true trivial (retires.2 ⟨g, n, e, le_rfl, hn⟩)
      · next hn =>
        refine ⟨s.partFlags, ?_, (State.Latches.refl _ rfl).congr ?_⟩
        · rw [State.setTariff, one _ (by rw [e]; simp [TariffSlot.released, hn])]
        · rw [retires]
          refine iff_of_false id ?_
          rintro ⟨g', n', e', -, h⟩
          rw [e] at e'; cases e'; exact hn h
    · next e =>
      refine ⟨s.partFlags, by rw [upd_id (by rw [e]; rfl)], (State.Latches.refl _ rfl).congr ?_⟩
      simp [retires, TariffSlot.RetiresAfter, e, -Fin.getElem_fin]
    · next g e =>
      refine ⟨s.partFlags, by rw [upd_id (by rw [e]; rfl)], (State.Latches.refl _ rfl).congr ?_⟩
      simp [retires, TariffSlot.RetiresAfter, e, -Fin.getElem_fin]

/-- A record returns to FREE: its use counts fall, and its pin is released (R23, R124, R130). -/
theorem State.freeVisit_eq (v : VisitSlot) :
    ∃ flags, s.freeVisit v = { s with
        accounts := Vector.ofFn (fun a =>
          { s.accounts[a] with useCount := s.accounts[a].useCount - s.visits[v].uses a })
        tariffs := Vector.ofFn (fun i => s.tariffs[i].released (pinsOn i [s.visits[v].pin]))
        visits := upd s.visits v (fun _ => Visit.free)
        partFlags := flags } ∧
      s.Latches (s.freeVisit v) .tariffRetired (s.Retires [s.visits[v].pin]) := by
  obtain ⟨flags, e, l⟩ := (s.dropUses s.visits[v].segments).unpin_eq s.visits[v].pin
  refine ⟨flags, ?_, ?_⟩
  · rw [State.freeVisit, e, State.dropUses_eq]; rfl
  · intro g
    have used : (s.dropUses s.visits[v].segments).partFlags = s.partFlags ∧
        (s.dropUses s.visits[v].segments).tariffs = s.tariffs := by rw [State.dropUses_eq]; exact ⟨rfl, rfl⟩
    have h := l g
    simp only [State.Retires, State.partFlag, used.1, used.2] at h
    exact h

end Sys2Proof.Machine

/-! ## Cancelled visits -/

namespace Sys2Proof.Machine

variable (s : State)

/-- An account after segments of cancelled visits: their float given back, their use counts gone (R25, R130). -/
def Account.voided (r : Account) (a : AccountSlot) (gs : List Segment) : Account :=
  { r.withFloat a gs with useCount := r.useCount - gs.countP (fun g => g.accountSlot == a) }

theorem Account.voided_append (r : Account) (a : AccountSlot) (gs hs : List Segment) :
    (r.voided a gs).voided a hs = r.voided a (gs ++ hs) := by
  simp only [Account.voided, Account.withFloat, ofFn_get, takenOf_append, givenBack_append, List.countP_append,
    Nat.sub_sub]

theorem Account.voided_nil (r : Account) (a : AccountSlot) : r.voided a [] = r := by
  rw [Account.voided, Account.withFloat_nil, List.countP_nil, Nat.sub_zero]

/-- The flags that cancelled visits latch: FLOAT_CLAMP and TARIFF_RETIRED (R124, R135). -/
def State.LatchesVoid (s t : State) (gs : List Segment) (ps : List (Option Pin)) : Prop :=
  ∀ g : PartFlag, t.partFlag g = true ↔
    s.partFlag g = true ∨ g = .floatClamp ∧ s.Clamps gs ∨ g = .tariffRetired ∧ s.Retires ps

/-- A visit's float goes back and its record returns to FREE (R23, R25). -/
theorem State.void_eq (v : VisitSlot) :
    ∃ flags, (s.addBack s.visits[v].segments).freeVisit v = { s with
        visits := upd s.visits v (fun _ => Visit.free)
        accounts := Vector.ofFn (fun a => s.accounts[a].voided a s.visits[v].segments)
        tariffs := Vector.ofFn (fun i => s.tariffs[i].released (pinsOn i [s.visits[v].pin]))
        partFlags := flags } ∧
      s.LatchesVoid ((s.addBack s.visits[v].segments).freeVisit v) s.visits[v].segments [s.visits[v].pin] := by
  obtain ⟨x, e, l⟩ := s.addBack_eq s.visits[v].segments
  generalize s.addBack s.visits[v].segments = u at e l
  subst e
  obtain ⟨y, e, l'⟩ := State.freeVisit_eq _ v
  refine ⟨y, e.trans ?_, fun g => ?_⟩
  · simp only [ofFn_get]
    rfl
  · rw [l' g, l g, or_assoc]
    simp only [State.Retires]

theorem State.LatchesVoid.append {s t u : State} {gs hs : List Segment} {ps qs : List (Option Pin)}
    (h : s.LatchesVoid t gs ps) (h' : t.LatchesVoid u hs qs)
    (ha : ∀ a : AccountSlot, t.accounts[a] = s.accounts[a].voided a gs)
    (ht : ∀ i : TariffIndex, t.tariffs[i] = s.tariffs[i].released (pinsOn i ps)) :
    s.LatchesVoid u (gs ++ hs) (ps ++ qs) := fun g => by
  rw [h' g, h g, ← State.retires_append qs ht,
    ← State.clamps_append hs (fun a f => by rw [ha]; simp only [Account.voided, Account.withFloat, ofFn_get])]
  tauto

theorem State.lanesWithout_get (set : LaneSet) (l : Lane) :
    (s.lanesWithout set)[l] = if inSet set l then s.lanes[l].unbound else s.lanes[l] := by
  rw [State.lanesWithout, ofFn_get]

/-- Step 3 of R174 at a visit that is cancelled. -/
def State.cancelOne (s : State) (v : VisitSlot) : State :=
  ((s.giveUpLanes v).addBack s.visits[v].segments).freeVisit v

/-- A lane is in the lane set of one of the visits listed. -/
def State.laneOfAny (s : State) (vs : List VisitSlot) (l : Lane) : Bool :=
  vs.any (fun v => inSet s.visits[v].laneSet l)

theorem State.cancelOne_eq (v : VisitSlot) :
    ∃ flags, s.cancelOne v = { s with
        lanes := s.lanesWithout s.visits[v].laneSet
        visits := upd s.visits v (fun _ => Visit.free)
        accounts := Vector.ofFn (fun a => s.accounts[a].voided a s.visits[v].segments)
        tariffs := Vector.ofFn (fun i => s.tariffs[i].released (pinsOn i [s.visits[v].pin]))
        partFlags := flags } ∧
      s.LatchesVoid (s.cancelOne v) s.visits[v].segments [s.visits[v].pin] := by
  obtain ⟨flags, e, l⟩ := (s.giveUpLanes v).void_eq v
  have segments : (s.giveUpLanes v).visits[v].segments = s.visits[v].segments := by
    rw [State.giveUpLanes_eq]; simp only [upd_same]
  have pin : (s.giveUpLanes v).visits[v].pin = s.visits[v].pin := by
    rw [State.giveUpLanes_eq]; simp only [upd_same]
  rw [segments, pin] at e l
  refine ⟨flags, ?_, l⟩
  rw [State.cancelOne, e, State.giveUpLanes_eq]
  simp only [upd_upd]

/-- Visits cancelled one after another (R174). -/
theorem State.foldl_cancelOne (vs : List VisitSlot) (nd : vs.Nodup) :
    ∃ flags, vs.foldl State.cancelOne s = { s with
        lanes := Vector.ofFn (fun l => if s.laneOfAny vs l then s.lanes[l].unbound else s.lanes[l])
        visits := Vector.ofFn (fun v => if v ∈ vs then Visit.free else s.visits[v])
        accounts := Vector.ofFn (fun a => s.accounts[a].voided a (vs.flatMap (fun v => s.visits[v].segments)))
        tariffs := Vector.ofFn (fun i => s.tariffs[i].released (pinsOn i (vs.map (fun v => s.visits[v].pin))))
        partFlags := flags } ∧
      s.LatchesVoid (vs.foldl State.cancelOne s) (vs.flatMap (fun v => s.visits[v].segments))
        (vs.map (fun v => s.visits[v].pin)) := by
  induction vs generalizing s with
  | nil =>
    have lanes : Vector.ofFn (fun l : Lane => s.lanes[l]) = s.lanes := vector_ext fun l => ofFn_get _ l
    have visits : Vector.ofFn (fun v : VisitSlot => s.visits[v]) = s.visits := vector_ext fun v => ofFn_get _ v
    have accounts : Vector.ofFn (fun a : AccountSlot => s.accounts[a]) = s.accounts := vector_ext fun a => ofFn_get _ a
    have tariffs : Vector.ofFn (fun i : TariffIndex => s.tariffs[i]) = s.tariffs := vector_ext fun i => ofFn_get _ i
    refine ⟨s.partFlags, ?_, fun g => ?_⟩
    · simp only [State.laneOfAny, List.any_nil, Bool.false_eq_true, if_false, List.not_mem_nil, List.flatMap_nil,
        Account.voided_nil, List.map_nil, pinsOn, List.countP_nil, TariffSlot.released_zero, lanes, visits,
        accounts, tariffs, List.foldl_nil]
    · simp only [List.foldl_nil, List.flatMap_nil, List.map_nil, s.not_clamps_nil, s.not_retires_nil, and_false,
        or_false]
  | cons v vs ih =>
    obtain ⟨x, e, l⟩ := s.cancelOne_eq v
    obtain ⟨y, e', l'⟩ := ih (s.cancelOne v) nd.tail
    have hv : v ∉ vs := (List.nodup_cons.1 nd).1
    have later : ∀ w ∈ vs, (s.cancelOne v).visits[w] = s.visits[w] := fun w hw => by
      rw [e]; exact upd_other _ _ _ _ (fun e => hv (e ▸ hw))
    have segments : vs.flatMap (fun w => (s.cancelOne v).visits[w].segments) =
        vs.flatMap (fun w => s.visits[w].segments) := List.flatMap_congr fun w hw => by rw [later w hw]
    have pins : vs.map (fun w => (s.cancelOne v).visits[w].pin) = vs.map (fun w => s.visits[w].pin) :=
      List.map_congr_left fun w hw => by rw [later w hw]
    have laneOf : ∀ l, (s.cancelOne v).laneOfAny vs l = s.laneOfAny vs l := fun l => by
      unfold State.laneOfAny
      rw [Bool.eq_iff_iff, List.any_eq_true, List.any_eq_true]
      exact exists_congr fun w => and_congr_right fun hw => by rw [later w hw]
    rw [segments, pins] at e' l'
    simp only [laneOf] at e'
    have accounts : ∀ a : AccountSlot, (s.cancelOne v).accounts[a] = s.accounts[a].voided a s.visits[v].segments :=
      fun a => by rw [e, ofFn_get]
    have tariffs : ∀ i : TariffIndex,
        (s.cancelOne v).tariffs[i] = s.tariffs[i].released (pinsOn i [s.visits[v].pin]) :=
      fun i => by rw [e, ofFn_get]
    refine ⟨y, ?_, ?_⟩
    · have lanes : ∀ m, (if s.laneOfAny vs m then (s.cancelOne v).lanes[m].unbound else (s.cancelOne v).lanes[m]) =
          if s.laneOfAny (v :: vs) m then s.lanes[m].unbound else s.lanes[m] := fun m => by
        rw [e]
        simp only [State.lanesWithout_get, State.laneOfAny, List.any_cons, Bool.or_eq_true]
        by_cases hm : inSet s.visits[v].laneSet m = true
        · simp only [hm, if_true, true_or, LanePort.unbound, ite_self]
        · simp only [hm, if_false, false_or, Bool.false_eq_true]
      have visits : ∀ w, (if w ∈ vs then Visit.free else (s.cancelOne v).visits[w]) =
          if w ∈ v :: vs then Visit.free else s.visits[w] := fun w => by
        rw [e]
        by_cases hw : w = v
        · subst hw; simp only [hv, if_false, upd_same, List.mem_cons_self, if_true]
        · simp only [List.mem_cons, hw, false_or, upd_other _ _ _ _ hw]
      rw [List.foldl_cons, e']
      simp only [lanes, visits, accounts, tariffs, Account.voided_append, TariffSlot.released_add]
      simp only [← pinsOn_append, List.singleton_append, List.flatMap_cons, List.map_cons]
      generalize s.cancelOne v = u at e
      subst e
      rfl
    · rw [List.foldl_cons]
      exact l.append l' accounts tariffs

/-- Step 3 of R174 cancels the OPEN and CLOSING visits, in ascending order. -/
theorem State.foldl_cancelForReset (vs : List VisitSlot) (nd : vs.Nodup) :
    vs.foldl State.cancelForReset s =
      (vs.filter (fun v => s.visits[v].cancellable)).foldl State.cancelOne s := by
  induction vs generalizing s with
  | nil => rfl
  | cons v vs ih =>
    have hv : v ∉ vs := (List.nodup_cons.1 nd).1
    rw [List.foldl_cons, State.cancelForReset, List.filter_cons]
    by_cases hc : s.visits[v].cancellable = true
    · rw [if_pos hc, if_pos hc, List.foldl_cons]
      have step : ((s.giveUpLanes v).addBack s.visits[v].segments).freeVisit v = s.cancelOne v := rfl
      rw [step, ih _ nd.tail]
      congr 1
      refine List.filter_congr fun w hw => ?_
      obtain ⟨x, e, -⟩ := s.cancelOne_eq v
      rw [e]
      simp only [upd_other _ _ _ _ (fun e : w = v => hv (e ▸ hw))]
    · rw [if_neg hc, if_neg hc, ih _ nd.tail]

theorem Visit.cancellable_iff (r : Visit) : r.cancellable = true ↔ r.state = .opened ∨ r.state = .closing := by
  simp [Visit.cancellable]

/-- The visits that a Part Reset cancels (R174). -/
def State.cancellables (s : State) : List VisitSlot := allVisits.filter (fun v => s.visits[v].cancellable)

theorem State.mem_cancellables (v : VisitSlot) :
    v ∈ s.cancellables ↔ s.visits[v].state = .opened ∨ s.visits[v].state = .closing := by
  rw [State.cancellables, List.mem_filter, Visit.cancellable_iff]
  simp only [mem_allVisits, true_and]

/-- A lane as a Part Reset leaves it, from the state it stands in when the cancellations are done (R56, R174). -/
def LanePort.partReset (p : LanePort) (state : LaneState) : LanePort :=
  { p with
    state := if state = .disabled then .disabled else .idle
    queue := [], context := none, txQueue := p.txQueue.take 1, flags := 0, passCount := 0
    hold := decide (state = .disabled) }

theorem LanePort.quiet_eq (p : LanePort) (st : LaneState) :
    LanePort.quiet { p with queue := [], context := none, flags := 0, state := st } = p.partReset st := by
  unfold LanePort.quiet LanePort.partReset
  rw [LanePort.rehold_eq]
  cases st <;> simp [LanePort.dropUnstarted, LanePort.holdFor]

theorem State.clearFlags_emptyLanes_eq : s.clearFlags.emptyLanes = { s with
    lanes := Vector.ofFn (fun l => { s.lanes[l] with queue := [], context := none, flags := 0 })
    partFlags := 0 } := by
  simp only [State.emptyLanes, State.clearFlags, State.mapLanes, State.setPartFlags, ofFn_get]

/-- The effect of a Part Reset (R174). -/
theorem State.resetPart_eq :
    ∃ flags, s.resetPart = { s with
        lanes := Vector.ofFn (fun l => s.lanes[l].partReset
          (if s.laneOfAny s.cancellables l then .idle else s.lanes[l].state))
        visits := Vector.ofFn (fun v => if v ∈ s.cancellables then Visit.free else s.visits[v])
        accounts := Vector.ofFn (fun a =>
          s.accounts[a].voided a (s.cancellables.flatMap (fun v => s.visits[v].segments)))
        tariffs := Vector.ofFn (fun i =>
          s.tariffs[i].released (pinsOn i (s.cancellables.map (fun v => s.visits[v].pin))))
        partFlags := flags
        items := s.items.take (s.inTransmission .items)
        responses := s.responses.take (s.inTransmission .responses) } ∧
      ∀ g : PartFlag, s.resetPart.partFlag g = true ↔
        g = .floatClamp ∧ s.Clamps (s.cancellables.flatMap (fun v => s.visits[v].segments)) ∨
        g = .tariffRetired ∧ s.Retires (s.cancellables.map (fun v => s.visits[v].pin)) := by
  have start := s.clearFlags_emptyLanes_eq
  obtain ⟨flags, e, l⟩ := (s.clearFlags.emptyLanes).foldl_cancelOne s.cancellables
    (allVisits_nodup.filter _)
  have fold : allVisits.foldl State.cancelForReset s.clearFlags.emptyLanes =
      s.cancellables.foldl State.cancelOne s.clearFlags.emptyLanes := by
    rw [State.foldl_cancelForReset _ _ allVisits_nodup]; rfl
  refine ⟨flags, ?_, fun g => ?_⟩
  · have laneOf : ∀ l, s.clearFlags.emptyLanes.laneOfAny s.cancellables l = s.laneOfAny s.cancellables l :=
      fun l => by rw [start]; rfl
    simp only [laneOf] at e
    unfold State.resetPart
    rw [fold, e]
    generalize s.clearFlags.emptyLanes = u at start
    subst start
    simp only [State.mapLanes, State.dropUnstartedMessages, State.setItems, State.setResponses, ofFn_get]
    have lanes : ∀ l : Lane, LanePort.quiet
        (if s.laneOfAny s.cancellables l then
          LanePort.unbound { s.lanes[l] with queue := [], context := none, flags := 0 }
        else { s.lanes[l] with queue := [], context := none, flags := 0 }) =
        s.lanes[l].partReset (if s.laneOfAny s.cancellables l then .idle else s.lanes[l].state) := fun l => by
      rw [← LanePort.quiet_eq]
      cases s.laneOfAny s.cancellables l <;> rfl
    simp only [lanes]
    rfl
  · have h := l g
    have none : State.partFlag s.clearFlags.emptyLanes g = false := by
      rw [start]; simp [State.partFlag]
    rw [none] at h
    simp only [Bool.false_eq_true, false_or] at h
    have same : s.resetPart.partFlags = (s.cancellables.foldl State.cancelOne s.clearFlags.emptyLanes).partFlags := by
      unfold State.resetPart
      rw [fold]; rfl
    rw [State.partFlag, same]
    rw [start] at h ⊢
    exact h

/-! ## Cancel Visit -/

/-- The lanes given up and the tagged items purged (R24). -/
theorem State.cancelPurge_eq (v : VisitSlot) :
    ∃ i n f, s.cancelPurge v = { s with
        lanes := updAll (s.lanesWithout s.visits[v].laneSet)
          (fun p => p.without (Choice.ofVisit (s.visitTag v)))
        visits := upd s.visits v (fun r => { r with laneSet := 0, tagged := 0 })
        items := i, lossCount := n, partFlags := f } ∧
      s.Records (s.cancelPurge v) (s.reported .cancelled (Choice.ofVisit (s.visitTag v))) := by
  obtain ⟨i, n, f, e, records⟩ := (s.giveUpLanes v).purgeVisit_records .cancelled (s.visitTag v)
  have lane : ∀ l : Lane, (s.giveUpLanes v).lanes[l].queue = s.lanes[l].queue ∧
      (s.giveUpLanes v).lanes[l].context = s.lanes[l].context ∧
      (s.giveUpLanes v).lanes[l].reporting = s.lanes[l].reporting := fun l => by
    rw [State.giveUpLanes_eq]
    simp only [State.lanesWithout_get]
    split <;> exact ⟨rfl, rfl, rfl⟩
  have current : ∀ w : VisitSlot, (s.giveUpLanes v).visits[w].current = s.visits[w].current := fun w => by
    rw [State.giveUpLanes_eq]
    simp only [upd_get]
    by_cases hw : w = v
    · subst hw; rw [if_pos rfl]; rfl
    · rw [if_neg hw]
  have reported : (s.giveUpLanes v).reported .cancelled (Choice.ofVisit (s.visitTag v)) =
      s.reported .cancelled (Choice.ofVisit (s.visitTag v)) := by
    unfold State.reported
    refine List.flatMap_congr fun l _ => ?_
    rw [(lane l).2.2, State.removalRecords_congr _ _ (lane l).1 (lane l).2.1 current]
  refine ⟨i, n, f, ?_, ?_⟩
  · rw [State.cancelPurge, e, State.giveUpLanes_eq]
    simp only [State.clearTagged, State.modifyVisit, upd_upd]
  · rw [← reported]
    refine records.congr ?_ ?_
    · rw [State.giveUpLanes_eq]; exact ⟨rfl, rfl, rfl⟩
    · simp only [State.cancelPurge, State.clearTagged, State.modifyVisit_items, State.modifyVisit_lossCount,
        State.modifyVisit_partFlags, and_self]

/-- The effect of a Cancel Visit (R24 to R26). -/
theorem State.cancelVisitAt_eq (v : VisitSlot) :
    ∃ i n f, s.cancelVisitAt v = { s with
        lanes := updAll (s.lanesWithout s.visits[v].laneSet)
          (fun p => p.without (Choice.ofVisit (s.visitTag v)))
        visits := upd s.visits v (fun _ => Visit.free)
        accounts := Vector.ofFn (fun a => s.accounts[a].voided a s.visits[v].segments)
        tariffs := Vector.ofFn (fun i => s.tariffs[i].released (pinsOn i [s.visits[v].pin]))
        items := i, lossCount := n, partFlags := f } ∧
      s.Recorded (s.cancelVisitAt v) (s.reported .cancelled (Choice.ofVisit (s.visitTag v))) ∧
      ∀ g : PartFlag, g ≠ .itemLoss → ((s.cancelVisitAt v).partFlag g = true ↔ s.partFlag g = true ∨
        g = .floatClamp ∧ s.Clamps s.visits[v].segments ∨ g = .tariffRetired ∧ s.Retires [s.visits[v].pin]) := by
  have whole : s.cancelVisitAt v = ((s.cancelPurge v).addBack s.visits[v].segments).freeVisit v := rfl
  obtain ⟨i, n, f, e, ⟨recorded, flags⟩⟩ := s.cancelPurge_eq v
  rw [whole]
  generalize s.cancelPurge v = u at e recorded flags ⊢
  have segments : u.visits[v].segments = s.visits[v].segments := by subst e; simp only [upd_same]
  have pin : u.visits[v].pin = s.visits[v].pin := by subst e; simp only [upd_same]
  obtain ⟨x, e', l⟩ := u.void_eq v
  rw [segments, pin] at e' l
  refine ⟨i, n, x, ?_, ?_, fun g hg => ?_⟩
  · rw [e']
    subst e
    simp only [upd_upd]
  · obtain ⟨items, fits, lost⟩ := recorded
    generalize (u.addBack s.visits[v].segments).freeVisit v = t at e' l
    have loss : t.partFlag .itemLoss = u.partFlag .itemLoss := by
      have h := l .itemLoss
      simp only [reduceCtorEq, false_and, or_false] at h
      exact Bool.eq_iff_iff.2 h
    have same : t.items = u.items ∧ t.lossCount = u.lossCount := by subst e'; exact ⟨rfl, rfl⟩
    exact ⟨by rw [same.1]; exact items, fun h => by rw [same.2, loss]; exact fits h,
      fun h => by rw [same.2, loss]; exact lost h⟩
  · have kept : u.accounts = s.accounts ∧ u.tariffs = s.tariffs := by subst e; exact ⟨rfl, rfl⟩
    rw [l g, flags g hg]
    simp only [State.Clamps, State.Retires, kept.1, kept.2]

end Sys2Proof.Machine

/-! ## The answers to requests, and the lookups they make -/

namespace Sys2Proof.Machine

variable {s : State}

/-! ### Answers -/

/-- A request refused on a Response Queue with room (R160, R163). -/
theorem State.serve_refuse (room : s.room) {tag code : Byte} {m : State → Answer} {c : ResponseCode} {d : Detail}
    (h : m s = refuse s c d) : Host.Outcome.next (s.serve tag code m) = s.refuses tag code c d := by
  rw [State.serve_room s tag code m room, h]
  rfl

/-- A request executed on a Response Queue with room (R160, R162). -/
theorem State.serve_accept (room : s.room) {tag code : Byte} {m : State → Answer} {t : State} {d : Detail}
    (h : m s = accept t d) : s.serve tag code m = (t.answered tag code .ok d).finish := by
  rw [State.serve_room s tag code m room, h]
  rfl

/-! ### The lowest place of a table -/

/-- A search in ascending order finds the lowest place where a property holds. -/
theorem find?_finRange_eq_some {n : Nat} {p : Fin n → Bool} {i : Fin n} :
    (List.finRange n).find? p = some i ↔ lowest (fun j => p j = true) i := by
  rw [List.find?_eq_some_iff_getElem, lowest]
  simp only [List.getElem_finRange, List.length_finRange, Bool.not_eq_true', Bool.not_eq_true]
  refine and_congr_right fun _ => ⟨?_, fun h => ⟨i, i.isLt, rfl, fun j hj => h _ hj⟩⟩
  rintro ⟨k, hk, rfl, before⟩ j hj
  exact before j hj

theorem find?_finRange_eq_none {n : Nat} {p : Fin n → Bool} :
    (List.finRange n).find? p = none ↔ ∀ j, p j = false := by
  simp [List.find?_eq_none]

theorem lowest_congr {n : Nat} {P Q : Fin n → Prop} (h : ∀ i, P i ↔ Q i) {i : Fin n} : lowest P i ↔ lowest Q i := by
  simp only [lowest, h]

/-- A property that holds somewhere holds at a lowest place. -/
theorem exists_lowest {n : Nat} {P : Fin n → Prop} (h : ∃ i, P i) : ∃ i, lowest P i := by
  classical
  obtain ⟨i, hi⟩ := h
  cases e : (List.finRange n).find? (fun j => decide (P j)) with
  | none => exact absurd hi (by simpa using find?_finRange_eq_none.1 e i)
  | some j => exact ⟨j, by simpa [lowest] using find?_finRange_eq_some.1 e⟩

theorem allLanes_eq : allLanes = List.finRange 6 := by decide

/-! ### Visits by number -/

theorem State.findVisit_eq_some {n : Nat} {v : VisitSlot} :
    s.findVisit n = some v ↔ lowest (fun w => s.visits[w].state ≠ .free ∧ s.visits[w].number = n) v := by
  rw [State.findVisit, allVisits, find?_finRange_eq_some]
  exact lowest_congr fun w => by simp [-Fin.getElem_fin]

theorem State.findVisit_eq_none {n : Nat} :
    s.findVisit n = none ↔ ∀ v : VisitSlot, s.visits[v].state = .free ∨ s.visits[v].number ≠ n := by
  rw [State.findVisit, allVisits, find?_finRange_eq_none]
  exact forall_congr' fun v => by simp [-Fin.getElem_fin, or_iff_not_imp_left]

theorem visitInRange_eq_false {n : Nat} (h : n = 0 ∨ 65535 < n) : visitInRange n = false := by
  simp only [visitInRange, Config.top16, Bool.and_eq_false_iff, decide_eq_false_iff_not]
  omega

theorem visitInRange_eq_true {n : Nat} (h : 1 ≤ n) (h' : n ≤ 65535) : visitInRange n = true := by
  simp only [visitInRange, Config.top16, Bool.and_eq_true, decide_eq_true_eq]
  omega

/-- A request that names no number in range (R2, R164). -/
theorem withVisit_malformed {n : Nat} (h : n = 0 ∨ 65535 < n) (absent : Detail) (k : VisitSlot → Answer) :
    withVisit s n absent k = refuse s .malformed .empty := by
  rw [withVisit, visitInRange_eq_false h]
  rfl

/-- A request that names a number no record holds (R2). -/
theorem withVisit_absent {n : Nat} (h : 1 ≤ n) (h' : n ≤ 65535)
    (none : ∀ v : VisitSlot, s.visits[v].state = .free ∨ s.visits[v].number ≠ n) (absent : Detail)
    (k : VisitSlot → Answer) : withVisit s n absent k = refuse s .noEntry absent := by
  rw [withVisit, visitInRange_eq_true h h', State.findVisit_eq_none.2 none]
  rfl

/-- A request that names a record (R2). -/
theorem withVisit_named {n : Nat} {v : VisitSlot} (h : s.Named v n) (absent : Detail) (k : VisitSlot → Answer) :
    withVisit s n absent k = k v := by
  obtain ⟨low, high, found⟩ := h
  rw [withVisit, visitInRange_eq_true low high, State.findVisit_eq_some.2 found]
  rfl

theorem State.Named.live {v : VisitSlot} {n : Nat} (h : s.Named v n) :
    s.visits[v].state ≠ .free ∧ s.visits[v].number = n := h.2.2.1

theorem State.Named.visitTag {v : VisitSlot} {n : Nat} (h : s.Named v n) : s.visitTag v = ⟨v, n⟩ := by
  rw [State.visitTag, h.live.2]

/-! ### Accounts by number -/

theorem accountInRange_eq_false {n : Nat} (h : n = 0 ∨ 16777215 < n) : accountInRange n = false := by
  simp only [accountInRange, Config.accountTop, Bool.and_eq_false_iff, decide_eq_false_iff_not]
  omega

theorem accountInRange_eq_true {n : Nat} (h : 1 ≤ n) (h' : n ≤ 16777215) : accountInRange n = true := by
  simp only [accountInRange, Config.accountTop, Bool.and_eq_true, decide_eq_true_eq]
  omega

theorem State.findAccount_eq_some {n : Nat} (hn : 1 ≤ n) {a : AccountSlot} :
    s.findAccount n = some a ↔ lowest (fun b => s.accounts[b].number = n) a := by
  rw [State.findAccount, allAccounts, find?_finRange_eq_some]
  have : n ≠ 0 := by omega
  exact lowest_congr fun w => by simp [-Fin.getElem_fin, this]

theorem State.findAccount_eq_none {n : Nat} (hn : 1 ≤ n) :
    s.findAccount n = none ↔ ∀ a : AccountSlot, s.accounts[a].number ≠ n := by
  rw [State.findAccount, allAccounts, find?_finRange_eq_none]
  have : n ≠ 0 := by omega
  exact forall_congr' fun a => by simp [-Fin.getElem_fin, this]

theorem State.AccountAt.number {a : AccountSlot} {n : Nat} (h : s.AccountAt a n) : s.accounts[a].number = n :=
  h.2.2.1

theorem withAccount_malformed {n : Nat} (h : n = 0 ∨ 16777215 < n) (k : AccountSlot → Answer) :
    withAccount s n k = refuse s .malformed .empty := by
  rw [withAccount, accountInRange_eq_false h]
  rfl

theorem withAccount_absent {n : Nat} (h : 1 ≤ n) (h' : n ≤ 16777215)
    (none : ∀ a : AccountSlot, s.accounts[a].number ≠ n) (k : AccountSlot → Answer) :
    withAccount s n k = refuse s .noEntry (.missing .account) := by
  rw [withAccount, accountInRange_eq_true h h', (State.findAccount_eq_none h).2 none]
  rfl

theorem withAccount_at {n : Nat} {a : AccountSlot} (h : s.AccountAt a n) (k : AccountSlot → Answer) :
    withAccount s n k = k a := by
  obtain ⟨low, high, found⟩ := h
  rw [withAccount, accountInRange_eq_true low high, (State.findAccount_eq_some low).2 found]
  rfl

/-! ### Tariff slots -/

theorem tariffIndex_cases (t : TariffIndex) : t = 0 ∨ t = 1 := by
  revert t; decide

/-- The search of R111 finds an ACTIVE slot when there is one. -/
theorem State.activeTariff_eq_none : s.activeTariff = none ↔ s.NoneActive := by
  rw [State.activeTariff, List.find?_eq_none, State.NoneActive]
  constructor
  · intro h o
    have := h o (by rcases tariffIndex_cases o with rfl | rfl <;> simp)
    simpa using this
  · intro h o _
    simpa using h o

theorem State.state_of_activeTariff {t : TariffIndex} (h : s.activeTariff = some t) :
    s.tariffs[t].state = .active := by
  have := List.find?_some h
  simpa using this

theorem State.activeTariff_of_oneActive {t : TariffIndex} (h : s.OneActive t) : s.activeTariff = some t := by
  cases e : s.activeTariff with
  | none => exact absurd ((h t).2 rfl) (State.activeTariff_eq_none.1 e t)
  | some o => rw [(h o).1 (State.state_of_activeTariff e)]

/-! ### Lane sets and lane claims -/

theorem laneSetOf_eq_some {lanes : Byte} (h : lanes.toNat < 64) : laneSetOf lanes = some (lanes.setWidth 6) := by
  rw [laneSetOf, if_pos h]

theorem laneSetOf_eq_none {lanes : Byte} (h : 64 ≤ lanes.toNat) : laneSetOf lanes = none := by
  rw [laneSetOf, if_neg (by omega)]

theorem inSet_setWidth (lanes : Byte) (l : Lane) : inSet (lanes.setWidth 6) l = lanes.getLsbD l.val := by
  rw [inSet, BitVec.getLsbD_setWidth, decide_eq_true l.isLt, Bool.true_and]

theorem laneOf_val (l : Lane) : laneOf l.val = some l := by
  rw [laneOf, dif_pos l.isLt]

theorem laneOf_eq_none {n : Nat} (h : 5 < n) : laneOf n = none := by
  rw [laneOf, dif_neg (by omega)]

theorem LanePort.heldByOther_iff (p : LanePort) (t : VisitTag) :
    p.heldByOther t = true ↔ p.Bound ∧ p.state ≠ .bound t := by
  unfold LanePort.heldByOther LanePort.Bound
  cases p.state <;> simp

/-- A claim that names a DISABLED lane fails for the lowest of them (R7). -/
theorem claimFailure_disabled {lanes : Byte} {t : VisitTag} {l : Lane}
    (h : lowest (fun m => names lanes m ∧ s.lanes[m].state = .disabled) l) :
    s.claimFailure t (lanes.setWidth 6) = some (.laneDisabled, l) := by
  have found : allLanes.find? (fun m => inSet (lanes.setWidth 6) m && !s.lanes[m].enabled) = some l := by
    rw [allLanes_eq, find?_finRange_eq_some]
    refine (lowest_congr fun m => ?_).1 h
    rw [Bool.and_eq_true, inSet_setWidth, Bool.not_eq_true', LanePort.enabled_false, names]
  rw [State.claimFailure, found]

/-- A claim whose lanes are all enabled finds the lowest lane that another visit holds (R7). -/
theorem claimFailure_enabled {lanes : Byte} {t : VisitTag}
    (enabled : ∀ m : Lane, names lanes m → s.lanes[m].state ≠ .disabled) :
    s.claimFailure t (lanes.setWidth 6) =
      (allLanes.find? (fun m => inSet (lanes.setWidth 6) m && s.lanes[m].heldByOther t)).map
        (fun l => (.laneHeld, l)) := by
  have none : allLanes.find? (fun m => inSet (lanes.setWidth 6) m && !s.lanes[m].enabled) = none := by
    rw [allLanes_eq, find?_finRange_eq_none]
    intro m
    rw [inSet_setWidth, Bool.and_eq_false_iff, Bool.not_eq_false', LanePort.enabled_iff]
    exact (Bool.eq_false_or_eq_true (lanes.getLsbD m.val)).symm.imp id (enabled m)
  rw [State.claimFailure, none]
  simp only
  cases allLanes.find? (fun m => inSet (lanes.setWidth 6) m && s.lanes[m].heldByOther t) <;> rfl

theorem claimFailure_held {lanes : Byte} {t : VisitTag} {l : Lane}
    (enabled : ∀ m : Lane, names lanes m → s.lanes[m].state ≠ .disabled)
    (h : lowest (fun m => names lanes m ∧ s.lanes[m].Bound ∧ s.lanes[m].state ≠ .bound t) l) :
    s.claimFailure t (lanes.setWidth 6) = some (.laneHeld, l) := by
  have found : allLanes.find? (fun m => inSet (lanes.setWidth 6) m && s.lanes[m].heldByOther t) = some l := by
    rw [allLanes_eq, find?_finRange_eq_some]
    refine (lowest_congr fun m => ?_).1 h
    rw [Bool.and_eq_true, inSet_setWidth, LanePort.heldByOther_iff, names]
  rw [claimFailure_enabled enabled, found]
  rfl

/-- A claim of lanes that are IDLE or the visit's own does not fail (R7). -/
theorem claimFailure_none {lanes : Byte} {t : VisitTag}
    (h : ∀ l : Lane, names lanes l → s.lanes[l].state = .idle ∨ s.lanes[l].state = .bound t) :
    s.claimFailure t (lanes.setWidth 6) = none := by
  have none : allLanes.find? (fun m => inSet (lanes.setWidth 6) m && s.lanes[m].heldByOther t) = none := by
    rw [allLanes_eq, find?_finRange_eq_none]
    intro m
    rw [Bool.eq_false_iff, Ne, Bool.and_eq_true, inSet_setWidth, LanePort.heldByOther_iff]
    rintro ⟨named, ⟨u, bound⟩, other⟩
    rcases h m named with idle | own
    · rw [idle] at bound; cases bound
    · exact other own
  rw [claimFailure_enabled fun m named => by
    rcases h m named with idle | own
    · rw [idle]; nofun
    · rw [own]; nofun]
  rw [none]
  rfl

/-- Lanes that are IDLE or the visit's own are all its own after the claim (R7). -/
theorem bindClaimed_eq {lanes : Byte} {v : VisitSlot}
    (h : ∀ l : Lane, names lanes l → s.lanes[l].state = .idle ∨ s.lanes[l].state = .bound (s.visitTag v)) :
    s.bindClaimed v (lanes.setWidth 6) = { s with
      lanes := Vector.ofFn (fun l =>
        if lanes.getLsbD l.val then { s.lanes[l] with state := .bound (s.visitTag v) } else s.lanes[l])
      visits := upd s.visits v (fun r => { r with laneSet := r.laneSet ||| lanes.setWidth 6 }) } := by
  have lane : ∀ l : Lane, (if inSet (lanes.setWidth 6) l && s.lanes[l].state == .idle then
        { s.lanes[l] with state := .bound (s.visitTag v) } else s.lanes[l]) =
      if lanes.getLsbD l.val then { s.lanes[l] with state := .bound (s.visitTag v) } else s.lanes[l] := by
    intro l
    rw [inSet_setWidth]
    by_cases named : lanes.getLsbD l.val = true
    · rw [named, Bool.true_and, if_pos rfl]
      rcases h l named with idle | own
      · rw [if_pos (by rw [idle]; rfl)]
      · rw [if_neg (by rw [own]; nofun), ← own]
    · rw [Bool.eq_false_iff.2 named, Bool.false_and]
  rw [State.bindClaimed]
  simp only [State.mapLanes, State.modifyVisit, lane]

end Sys2Proof.Machine

/-! ## Visits: numbers, opening, lanes, segments and closing -/

namespace Sys2Proof.Machine

/-! ### The number of a visit -/

/-- The k-th candidate number from a counter upward, wrapping from 65,535 to 1 (R3). -/
def numberAfter (counter k : Nat) : Nat := (counter - 1 + k) % 65535 + 1

theorem succNumber_numberAfter (c k : Nat) : succNumber (numberAfter c k) = numberAfter c (k + 1) := by
  unfold succNumber numberAfter
  split <;> omega

theorem numberAfter_injective {c j k : Nat} (hj : j < 24) (hk : k < 24) (h : numberAfter c j = numberAfter c k) : j = k := by
  unfold numberAfter at h
  omega

theorem State.numberHeld_iff (s : State) (n : Nat) :
    s.numberHeld n = true ↔ ∃ v : VisitSlot, s.visits[v].state ≠ .free ∧ s.visits[v].number = n := by
  simp [State.numberHeld, mem_allVisits, -Fin.getElem_fin]

/-- The search passes over held candidates alone, and stops at an unheld one unless its fuel ends (R3). -/
theorem State.unheldFrom_numberAfter (s : State) (c fuel j : Nat) : ∃ k, k ≤ fuel ∧
    s.unheldFrom fuel (numberAfter c j) = numberAfter c (j + k) ∧
    (k < fuel → s.numberHeld (numberAfter c (j + k)) = false) ∧
    ∀ i, i < k → s.numberHeld (numberAfter c (j + i)) = true := by
  induction fuel generalizing j with
  | zero => exact ⟨0, le_rfl, rfl, fun h => absurd h (lt_irrefl _), fun i hi => absurd hi (Nat.not_lt_zero i)⟩
  | succ fuel ih =>
    by_cases held : s.numberHeld (numberAfter c j) = true
    · obtain ⟨k, le, found, stops, passes⟩ := ih (j + 1)
      have shift : ∀ i, j + 1 + i = j + (i + 1) := fun i => by omega
      rw [shift] at found stops
      refine ⟨k + 1, by omega, ?_, fun h => stops (by omega), fun i hi => ?_⟩
      · rw [State.unheldFrom, if_pos held, succNumber_numberAfter, found]
      · cases i with
        | zero => exact held
        | succ i => rw [← shift]; exact passes i (by omega)
    · refine ⟨0, Nat.zero_le _, ?_, fun _ => Bool.eq_false_iff.2 held, fun i hi => absurd hi (Nat.not_lt_zero i)⟩
      rw [State.unheldFrom, if_neg held]
      rfl

/-- With a record FREE, the other 23 cannot hold 24 candidates (R3). -/
theorem State.exists_unheld_number (s : State) (c : Nat) (free : ∃ v : VisitSlot, s.visits[v].state = .free) :
    ∃ k, k < 24 ∧ s.numberHeld (numberAfter c k) = false := by
  by_contra none
  push Not at none
  have held : ∀ k : Fin 24, ∃ v : VisitSlot, s.visits[v].state ≠ .free ∧ s.visits[v].number = numberAfter c k :=
    fun k => (s.numberHeld_iff _).1 (by simpa using none k k.isLt)
  choose holder live number using held
  have injective : Function.Injective holder := fun j k h => by
    have same := number j
    rw [h, number k] at same
    exact Fin.ext (numberAfter_injective k.isLt j.isLt same).symm
  obtain ⟨v, hv⟩ := free
  obtain ⟨k, rfl⟩ := (Finite.injective_iff_surjective.1 injective) v
  exact live k hv

/-- Settles O25: 24 held candidates would leave no record FREE. -/
theorem visitNumberAssigned : Obligations.VisitNumberAssigned := by
  intro s low high free
  have start : s.visitCounter = numberAfter s.visitCounter 0 := by unfold numberAfter; omega
  obtain ⟨k, le, found, stops, passes⟩ := s.unheldFrom_numberAfter s.visitCounter 24 0
  rw [← start] at found
  simp only [Nat.zero_add] at found stops passes
  obtain ⟨j, hj, unheld⟩ := s.exists_unheld_number s.visitCounter free
  have lt : k < 24 := by
    by_contra h
    rw [passes j (by omega)] at unheld
    cases unheld
  refine ⟨k, lt, found, fun v live number => ?_, fun i hi => (s.numberHeld_iff _).1 (passes i hi)⟩
  have held := (s.numberHeld_iff (numberAfter s.visitCounter k)).2 ⟨v, live, by rw [number]; exact found⟩
  rw [stops lt] at held
  cases held

/-! ### The lookup of a visit -/

/-- Settles O22. -/
theorem visitLookup : Obligations.VisitLookup := by
  intro s tag lanes n account segment room set low high
  have bits := laneSetOf_eq_some set
  have account := accountInRange_eq_true low high
  refine ⟨fun out => ?_, fun one top none => ?_⟩
  · have refused := withVisit_malformed (s := s) out
    refine ⟨State.serve_refuse room ?_, State.serve_refuse room ?_, State.serve_refuse room ?_,
      State.serve_refuse room (refused _ _), State.serve_refuse room (refused _ _),
      State.serve_refuse room (refused _ _)⟩
    · rw [bindLanes, bits]; exact refused _ _
    · rw [releaseLanes, bits]; exact refused _ _
    · rw [nextSegment, account]; exact refused _ _
  · have refused := withVisit_absent one top none
    refine ⟨State.serve_refuse room ?_, State.serve_refuse room ?_, State.serve_refuse room ?_,
      State.serve_refuse room (refused _ _), State.serve_refuse room (refused _ _),
      State.serve_refuse room (refused _ _)⟩
    · rw [bindLanes, bits]; exact refused _ _
    · rw [releaseLanes, bits]; exact refused _ _
    · rw [nextSegment, account]; exact refused _ _

/-! ### Open Visit -/

theorem openVisit_malformed {s : State} {account minutes : Nat} {lanes : Byte}
    (h : account = 0 ∨ 16777215 < account ∨ 64 ≤ lanes.toNat ∨ minutes = 0) :
    openVisit account lanes minutes s = refuse s .malformed .empty := by
  rw [openVisit]
  by_cases set : lanes.toNat < 64
  · rw [laneSetOf_eq_some set]
    have out : (!accountInRange account || minutes == 0) = true := by
      rcases h with h | h | h | h
      · rw [accountInRange_eq_false (.inl h)]; rfl
      · rw [accountInRange_eq_false (.inr h)]; rfl
      · omega
      · rw [h]; simp
    simp only [out, if_true]
  · rw [laneSetOf_eq_none (by omega)]

section checks

variable {s : State} {account minutes : Nat} {lanes : Byte} (low : 1 ≤ account) (high : account ≤ 16777215)
  (set : lanes.toNat < 64) (minute : 1 ≤ minutes)

include low high set minute

theorem openVisit_noTariff (active : s.activeTariff = none) :
    openVisit account lanes minutes s = refuse s .noTariff .empty := by
  simp only [openVisit, laneSetOf_eq_some set, accountInRange_eq_true low high, active, Bool.not_true,
    Bool.false_or, beq_iff_eq, Nat.one_le_iff_ne_zero.1 minute, if_false]

variable {t : TariffIndex} (active : s.activeTariff = some t)

include active

theorem openVisit_visitsFull (slot : s.freeSlot = none) :
    openVisit account lanes minutes s = refuse s .visitsFull .empty := by
  simp only [openVisit, laneSetOf_eq_some set, accountInRange_eq_true low high, active, slot, Bool.not_true,
    Bool.false_or, beq_iff_eq, Nat.one_le_iff_ne_zero.1 minute, if_false]

variable {v : VisitSlot} (slot : s.freeSlot = some v)

include slot

theorem openVisit_noEntry (found : s.findAccount account = none) :
    openVisit account lanes minutes s = refuse s .noEntry (.missing .account) := by
  simp only [openVisit, laneSetOf_eq_some set, accountInRange_eq_true low high, active, slot, found, Bool.not_true,
    Bool.false_or, beq_iff_eq, Nat.one_le_iff_ne_zero.1 minute, if_false]

variable {a : AccountSlot} (found : s.findAccount account = some a)

include found

theorem openVisit_laneRefused {code : ResponseCode} {l : Lane}
    (claim : s.claimFailure ⟨v, s.nextNumber⟩ (lanes.setWidth 6) = some (code, l)) :
    openVisit account lanes minutes s = refuse s code (.lane l) := by
  simp only [openVisit, laneSetOf_eq_some set, accountInRange_eq_true low high, active, slot, found, claim,
    Bool.not_true, Bool.false_or, beq_iff_eq, Nat.one_le_iff_ne_zero.1 minute, if_false]

theorem openVisit_accepted (claim : s.claimFailure ⟨v, s.nextNumber⟩ (lanes.setWidth 6) = none) :
    openVisit account lanes minutes s = accept (s.openVisitAt v t a (lanes.setWidth 6) minutes)
      (.visitOpened s.nextNumber v s.tariffs[t].generation (appliedMinutes minutes) (lanes.setWidth 6)) := by
  simp only [openVisit, laneSetOf_eq_some set, accountInRange_eq_true low high, active, slot, found, claim,
    Bool.not_true, Bool.false_or, beq_iff_eq, Nat.one_le_iff_ne_zero.1 minute, if_false]

end checks

theorem State.freeSlot_eq_some {s : State} {v : VisitSlot} :
    s.freeSlot = some v ↔ lowest (fun w => s.visits[w].state = .free) v := by
  rw [State.freeSlot, allVisits, find?_finRange_eq_some]
  exact lowest_congr fun w => by simp [-Fin.getElem_fin]

theorem State.freeSlot_eq_none {s : State} :
    s.freeSlot = none ↔ ∀ v : VisitSlot, s.visits[v].state ≠ .free := by
  rw [State.freeSlot, allVisits, find?_finRange_eq_none]
  exact forall_congr' fun v => by simp [-Fin.getElem_fin]

/-- Settles O23: each check in turn, those before it passed. -/
theorem openVisitExamined : Obligations.OpenVisitExamined := by
  intro s tag lanes account minutes room
  refine ⟨fun out => State.serve_refuse room (openVisit_malformed out), fun low high set minute => ?_⟩
  have active : ¬ s.NoneActive → ∃ t, s.activeTariff = some t := fun h =>
    Option.ne_none_iff_exists'.1 fun e => h (State.activeTariff_eq_none.1 e)
  have slot : (∃ v : VisitSlot, s.visits[v].state = .free) → ∃ v, s.freeSlot = some v := fun h =>
    (exists_lowest h).imp fun _ => State.freeSlot_eq_some.2
  refine ⟨fun none => State.serve_refuse room ?_, fun some full => State.serve_refuse room ?_,
    fun some free absent => State.serve_refuse room ?_, fun some free held => ?_⟩
  · exact openVisit_noTariff low high set minute (State.activeTariff_eq_none.2 none)
  · obtain ⟨t, ht⟩ := active some
    exact openVisit_visitsFull low high set minute ht (State.freeSlot_eq_none.2 full)
  · obtain ⟨t, ht⟩ := active some
    obtain ⟨v, hv⟩ := slot free
    exact openVisit_noEntry low high set minute ht hv ((State.findAccount_eq_none low).2 absent)
  · obtain ⟨t, ht⟩ := active some
    obtain ⟨v, hv⟩ := slot free
    obtain ⟨a, ha⟩ := exists_lowest held
    have refused {code l} := openVisit_laneRefused (code := code) (l := l) low high set minute ht hv
      ((State.findAccount_eq_some low).2 ha)
    refine ⟨fun l disabled => State.serve_refuse room (refused (claimFailure_disabled disabled)),
      fun enabled l u first bound live => State.serve_refuse room (refused (claimFailure_held enabled ?_))⟩
    have other : s.lanes[l].state ≠ .bound ⟨v, s.nextNumber⟩ := fun own => by
      rw [bound, LaneState.bound.injEq] at own
      rw [own] at live
      exact live (State.freeSlot_eq_some.1 hv).1
    exact ⟨⟨first.1.1, first.1.2, other⟩, fun m hm h => first.2 m hm ⟨h.1, h.2.1⟩⟩

/-- The effect of a successful Open Visit, whose claimed lanes all become the visit's (R7, R9). -/
theorem openVisitAt_eq {s : State} {v : VisitSlot} (t : TariffIndex) (a : AccountSlot) {lanes : Byte}
    (minutes : Nat)
    (free : ∀ l : Lane, names lanes l → s.lanes[l].state = .idle ∨ s.lanes[l].state = .bound ⟨v, s.nextNumber⟩) :
    s.openVisitAt v t a (lanes.setWidth 6) minutes = { s with
      tariffs := upd s.tariffs t (fun _ => s.tariffs[t].addPin)
      visitCounter := succNumber s.nextNumber
      visits := upd s.visits v (fun _ =>
        { newVisit s.nextNumber (appliedMinutes minutes) ⟨t, s.tariffs[t].generation⟩ with
          laneSet := lanes.setWidth 6, segments := [newSegment a s.accounts[a]] })
      accounts := upd s.accounts a (fun r => { r with useCount := r.useCount + 1 })
      lanes := Vector.ofFn (fun l =>
        if lanes.getLsbD l.val then { s.lanes[l] with state := .bound ⟨v, s.nextNumber⟩ } else s.lanes[l]) } := by
  have start := State.addSegment_eq (((s.setTariff t s.tariffs[t].addPin).setVisitCounter
    (succNumber s.nextNumber)).modifyVisit v
      (fun _ => newVisit s.nextNumber (appliedMinutes minutes) ⟨t, s.tariffs[t].generation⟩)) v a
  rw [State.openVisitAt]
  generalize State.addSegment _ v a = u at start
  have tag : u.visitTag v = ⟨v, s.nextNumber⟩ := by
    rw [start, State.visitTag]
    simp only [State.modifyVisit, upd_same, newVisit]
  have kept : u.lanes = s.lanes := by rw [start]; rfl
  have alone : (0 : LaneSet) ||| lanes.setWidth 6 = lanes.setWidth 6 := BitVec.zero_or
  rw [bindClaimed_eq (by rw [tag, kept]; exact free), tag, kept, start]
  simp only [State.setTariff, State.setVisitCounter, State.modifyVisit, upd_upd, newVisit, List.nil_append, alone]

/-- Settles O24: no claim fails where every named lane is IDLE. -/
theorem openVisitOpens : Obligations.OpenVisitOpens := by
  intro s tag lanes account minutes t g pins v a room set minute active one free found idle
  have named := fun (u : VisitTag) (l : Lane) (h : names lanes l) =>
    (.inl (idle l h) : s.lanes[l].state = .idle ∨ s.lanes[l].state = .bound u)
  have accepted := openVisit_accepted found.1 found.2.1 set minute (State.activeTariff_of_oneActive one)
    (State.freeSlot_eq_some.2 free) ((State.findAccount_eq_some found.1).2 found.2.2)
    (claimFailure_none (named _))
  refine congrArg Host.Outcome.next ((State.serve_accept room accepted).trans ?_)
  have generation : s.tariffs[t].generation = g.header.generation := by rw [active]; rfl
  have pinned : s.tariffs[t].addPin = .active g (pins + 1) := by rw [active]; rfl
  rw [openVisitAt_eq t a minutes (named _), generation, pinned, newSegment, found.number]
  rfl

/-! ### Lanes, segments and closing -/

/-- Settles O26. -/
theorem bindAndReleaseLanes : Obligations.BindAndReleaseLanes := by
  intro s tag lanes n room
  refine ⟨fun out => ?_, fun set v named => ?_⟩
  · have bits := laneSetOf_eq_none out
    refine ⟨State.serve_refuse room ?_, State.serve_refuse room ?_⟩
    · rw [bindLanes, bits]
    · rw [releaseLanes, bits]
  · have bits := laneSetOf_eq_some set
    refine ⟨fun closed => ⟨State.serve_refuse room ?_, State.serve_refuse room ?_⟩, fun opened =>
      ⟨fun l disabled => State.serve_refuse room ?_, fun enabled l held => State.serve_refuse room ?_,
        fun free => ?_, ?_⟩⟩
    · simp only [bindLanes, bits, withVisit_named named, whenOpen, if_neg closed]
    · simp only [releaseLanes, bits, withVisit_named named, whenOpen, if_neg closed]
    · simp only [bindLanes, bits, withVisit_named named, whenOpen, if_pos opened, claimFailure_disabled disabled]
    · rw [← named.visitTag] at held
      simp only [bindLanes, bits, withVisit_named named, whenOpen, if_pos opened, claimFailure_held enabled held]
    · rw [← named.visitTag] at free
      have accepted : bindLanes n lanes s = accept (s.bindClaimed v (lanes.setWidth 6))
          (.laneSet (s.visits[v].laneSet ||| lanes.setWidth 6)) := by
        simp only [bindLanes, bits, withVisit_named named, whenOpen, if_pos opened, claimFailure_none free]
      refine congrArg Host.Outcome.next ((State.serve_accept room accepted).trans ?_)
      rw [bindClaimed_eq free, named.visitTag]
      rfl
    · have accepted : releaseLanes n lanes s = accept
          ((s.unbindLanes (s.visits[v].laneSet &&& lanes.setWidth 6)).modifyVisit v
            (fun r => { r with laneSet := r.laneSet &&& ~~~(lanes.setWidth 6) }))
          (.laneSet (s.visits[v].laneSet &&& ~~~(lanes.setWidth 6))) := by
        simp only [releaseLanes, bits, withVisit_named named, whenOpen, if_pos opened]
      refine congrArg Host.Outcome.next ((State.serve_accept room accepted).trans ?_)
      have both : ∀ l : Lane, inSet (s.visits[v].laneSet &&& lanes.setWidth 6) l =
          (lanes.getLsbD l.val && s.visits[v].laneSet.getLsbD l.val) := fun l => by
        rw [← inSet_setWidth, inSet, BitVec.getLsbD_and, Bool.and_comm]
        rfl
      simp only [State.unbindLanes, State.mapLanes, State.modifyVisit, State.answered, both]
      rfl

/-- Settles O27. -/
theorem nextSegmentAppends : Obligations.NextSegmentAppends := by
  intro s tag n account v room
  refine ⟨fun out => State.serve_refuse room ?_, fun low high named => ?_⟩
  · have refused : accountInRange account = false := accountInRange_eq_false out
    rw [nextSegment, refused]
    rfl
  · have examined := accountInRange_eq_true low high
    refine ⟨fun closed => State.serve_refuse room ?_, fun opened full => State.serve_refuse room ?_,
      fun opened space absent => State.serve_refuse room ?_, fun opened space a found => ?_⟩
    · simp only [nextSegment, examined, Bool.not_true, Bool.false_eq_true, if_false, withVisit_named named, whenOpen,
        if_neg closed]
    · simp only [nextSegment, examined, Bool.not_true, Bool.false_eq_true, if_false, withVisit_named named, whenOpen,
        if_pos opened, if_pos full]
    · simp only [nextSegment, examined, Bool.not_true, Bool.false_eq_true, if_false, withVisit_named named, whenOpen,
        if_pos opened, if_neg (Nat.not_le.2 space), (State.findAccount_eq_none low).2 absent]
    · have accepted : nextSegment n account s = accept (s.addSegment v a)
          (.segmentAdded s.visits[v].segments.length (s.visits[v].segments.length + 1)) := by
        simp only [nextSegment, examined, Bool.not_true, Bool.false_eq_true, if_false, withVisit_named named,
          whenOpen, if_pos opened, if_neg (Nat.not_le.2 space), (State.findAccount_eq_some low).2 found.2.2]
      refine congrArg Host.Outcome.next ((State.serve_accept room accepted).trans ?_)
      rw [State.addSegment_eq, newSegment, found.number]
      rfl

/-- Settles O28. -/
theorem closeVisitCloses : Obligations.CloseVisitCloses := by
  intro s tag n v room named
  refine ⟨fun closed => State.serve_refuse room ?_, fun opened => ?_⟩
  · simp only [closeVisit, withVisit_named named, whenOpen, if_neg closed]
  · have after : (s.leaveOpen v .requested).visits[v].state =
        if s.visits[v].tagged = 0 then .settling else .closing := by
      rw [State.leaveOpen_eq]
      simp only [upd_same, Visit.left]
    have accepted : closeVisit n s = accept (s.leaveOpen v .requested)
        (.visitClosed (if s.visits[v].tagged = 0 then .settling else .closing) s.visits[v].tagged
          s.graceSeconds) := by
      simp only [closeVisit, withVisit_named named, whenOpen, if_pos opened, after]
    refine congrArg Host.Outcome.next ((State.serve_accept room accepted).trans ?_)
    rw [State.leaveOpen_eq]
    rfl

end Sys2Proof.Machine

/-! ## Cancel Visit, Lane Reset, Part Reset and Stack Cancel -/

namespace Sys2Proof.Machine

/-! ### Cancel Visit -/

/-- The void summary takes its counts from the segments, whatever the accounts hold (R26). -/
theorem State.voidSummary_counts (s : State) (gs : List Segment) :
    (s.voidSummary gs).map (fun e => (e.account, e.committed, e.unlisted, e.diverted, e.excess)) =
      gs.map (fun g => (g.accountNumber, g.committed, g.unlisted, g.diverted, g.excess)) := by
  induction gs generalizing s with
  | nil => rfl
  | cons g gs ih => rw [State.voidSummary, List.map_cons, List.map_cons, ih]; rfl

/-- Where no float passes its top, a segment's whole float taken is returned (R25, R26). -/
theorem State.voidSummary_returned (s : State) (gs : List Segment)
    (fits : ∀ (a : AccountSlot) (f : Family), s.accounts[a].floats[f] + (takenOf a f gs).sum ≤ 65535) :
    (s.voidSummary gs).map (fun e => e.returned) = gs.map (fun g => (allFamilies.map (fun f => g.floatTaken[f])).sum) := by
  induction gs generalizing s with
  | nil => rfl
  | cons g gs ih =>
    have split : ∀ (a : AccountSlot) (f : Family),
        (takenOf a f (g :: gs)).sum = (takenOf a f [g]).sum + (takenOf a f gs).sum := fun a f => by
      rw [← List.singleton_append, takenOf_append, List.sum_append]
    have returned : s.returnable g = (allFamilies.map (fun f => g.floatTaken[f])).sum := by
      refine congrArg List.sum (List.map_congr_left fun f _ => ?_)
      have := fits g.accountSlot f
      rw [split, takenOf_singleton, if_pos rfl, List.sum_singleton] at this
      simp only [satAdd, Config.top16, State.float]
      omega
    have rest : ∀ (a : AccountSlot) (f : Family),
        (s.addBackSegment g).accounts[a].floats[f] + (takenOf a f gs).sum ≤ 65535 := fun a f => by
      obtain ⟨flags, e, -⟩ := s.addBackSegment_eq g
      have := fits a f
      rw [split] at this
      rw [e]
      simp only [ofFn_get, Account.withFloat, givenBack_eq]
      split
      · next none => rw [none] at this; simpa using this
      · omega
    rw [State.voidSummary, List.map_cons, List.map_cons, ih _ rest, State.voidEntry, returned]

theorem cancelVisit_accepted {s : State} {n : Nat} {v : VisitSlot} (named : s.Named v n)
    (live : s.visits[v].state = .opened ∨ s.visits[v].state = .closing) :
    cancelVisit n s = accept (s.cancelVisitAt v) (.visitCancelled n s.visits[v].state (s.taggedItems ⟨v, n⟩)
      ((s.cancelPurge v).voidSummary s.visits[v].segments)) := by
  have state : s.visits[v].state ≠ .settling := by rcases live with e | e <;> rw [e] <;> nofun
  rw [cancelVisit, withVisit_named named, if_neg state, named.visitTag, named.live.2]

/-- Settles O29. -/
theorem cancelVisitVoids : Obligations.CancelVisitVoids := by
  intro s tag n v room named
  refine ⟨fun settling => State.serve_refuse room ?_, fun live => ?_⟩
  · rw [cancelVisit, withVisit_named named, if_pos settling]
  · have served := State.serve_accept (tag := tag) (code := 0x06) room (cancelVisit_accepted named live)
    obtain ⟨i, n', f, e, recorded, flags⟩ := s.cancelVisitAt_eq v
    obtain ⟨i', n'', f', purged, -⟩ := s.cancelPurge_eq v
    rw [named.visitTag] at e recorded
    refine ⟨_, (s.cancelPurge v).voidSummary s.visits[v].segments, congrArg Host.Outcome.next served, ?_⟩
    have accounts : (s.cancelPurge v).accounts = s.accounts := by rw [purged]
    generalize s.cancelPurge v = u at accounts ⊢
    generalize s.cancelVisitAt v = w at e recorded flags ⊢
    refine ⟨?_, fun l => ?_, fun a => ?_, fun a f => ?_, ?_, ?_, ?_, fun f h1 h2 h3 => ?_,
      u.voidSummary_counts _, fun fits => u.voidSummary_returned _ (by rw [accounts]; exact fits)⟩
    · subst e
      rw [State.finish_eq]
      simp only [State.answered]
      cases s.visits[v].pin with
      | none => simp only [s.released_none]
      | some p => simp only [s.released_some]
    · subst e
      simp only [State.finish_lanes, State.answered, updAll_eq_ofFn, ofFn_get, s.lanesWithout_get, LanePort.without_eq]
      split <;> rfl
    · subst e
      simp only [State.finish_accounts, State.answered, ofFn_get]
      rfl
    · subst e
      simp only [State.finish_accounts, State.answered, ofFn_get, Account.voided, Account.withFloat]
    · simpa only [State.Recorded, State.partFlag, State.finish_items, State.finish_lossCount,
        State.finish_partFlags, State.answered] using recorded
    · simpa [State.partFlag, State.finish_partFlags, State.answered, State.Clamps] using flags .floatClamp nofun
    · rw [State.partFlag, State.finish_partFlags]
      refine (flags .tariffRetired nofun).trans (or_congr_right ?_)
      cases s.visits[v].pin with
      | none => simp [s.not_retires_none]
      | some p => simp [s.retires_some, TariffSlot.RetiresAfter, -Fin.getElem_fin]
    · rw [State.partFlag, State.finish_partFlags]
      refine Bool.eq_iff_iff.2 ((flags f h1).trans (or_iff_left ?_))
      rintro (⟨e, -⟩ | ⟨e, -⟩)
      · exact h2 e
      · exact h3 e

/-! ### Lane Reset -/

/-- Settles O32. -/
theorem laneResetEmpties : Obligations.LaneResetEmpties := by
  intro s tag lane room
  refine ⟨fun out => State.serve_refuse room (by rw [laneReset, laneOf_eq_none out]), ?_⟩
  rintro l rfl
  have accepted : laneReset l.val s = accept (s.resetLane l)
      (.itemsRemoved (s.lanes[l].queue.length + s.lanes[l].staged.length)) := by rw [laneReset, laneOf_val]
  have served := State.serve_accept (tag := tag) (code := 0x11) room accepted
  obtain ⟨fi, e⟩ := s.resetLane_eq l
  refine ⟨_, congrArg Host.Outcome.next served, ?_, fun v => ?_, s.resetOrder l, ?_, s.resetOrder_nodup l,
    s.mem_resetOrder l⟩
  · rw [e, State.finish_eq]
    simp only [State.answered, funext LanePort.cleared_eq]
  · rw [e]
    simp only [State.finish_visits, State.answered, ofFn_get, s.mem_resetOrder, State.loweredOn, State.taggedOn]
    refine ⟨fun free => ?_, fun live stays => ?_, fun closing on zero => ?_⟩
    · rw [if_neg (by rw [free]; nofun), if_pos free]
    · rw [if_neg (fun h => stays ⟨h.1, h.2.1, by omega⟩), if_neg live]
    · rw [if_pos ⟨closing, on, by omega⟩, if_neg (by rw [closing]; nofun), zero]
  · rw [e, State.finish_settleWait]
    rfl

/-! ### Part Reset -/

theorem toList_eq_map {α : Type} {n : Nat} (v : Vector α n) : v.toList = (List.finRange n).map (fun i => v[i]) :=
  List.ext_getElem (by simp) fun i h h' => by simp

/-- A lane that a cancelled visit gives up was enabled (R7, R31). -/
theorem State.BindingsSound.laneOfAny_enabled {s : State} (h : s.BindingsSound) {vs : List VisitSlot} {l : Lane}
    (hl : s.laneOfAny vs l = true) : s.lanes[l].state ≠ .disabled := by
  obtain ⟨v, -, set⟩ := List.any_eq_true.1 hl
  rw [h.bound v l set]
  nofun

theorem partReset_accepted (s : State) : partReset s = accept s.resetPart (.partReset s.cancellables.length
    (allVisits.countP (fun v => s.visits[v].state == .settling))
    ((allLanes.map (fun l => s.lanes[l].queue.length + s.lanes[l].staged.length)).sum)
    (s.items.length - s.inTransmission .items) (s.responses.length - s.inTransmission .responses)) := by
  rw [partReset, toList_eq_map, toList_eq_map, List.countP_map, List.countP_map, List.map_map, allLanes_eq,
    State.cancellables, ← List.countP_eq_length_filter]
  rfl

/-- Settles O43. -/
theorem partResetCancels : Obligations.PartResetCancels := by
  intro s tag room bindings cancelled hc
  obtain rfl : cancelled = s.cancellables := hc
  have served := State.serve_accept (tag := tag) (code := 0x3C) room (partReset_accepted s)
  obtain ⟨flags, e, latched⟩ := s.resetPart_eq
  have pins : ∀ i, pinsOn i (s.cancellables.map (fun v => s.visits[v].pin)) =
      s.cancellables.countP (fun v => s.visits[v].pin.any (fun p => p.slot == i)) := fun i => List.countP_map
  refine ⟨_, congrArg Host.Outcome.next served, ?_⟩
  generalize s.resetPart = w at e latched
  refine ⟨?_, fun v => ?_, fun l => ?_, fun a => ?_, fun a f => ?_, fun i => ?_, ?_, ?_, fun f h1 h2 => ?_⟩
  · subst e
    simp only [State.finish_lanes, State.finish_visits, State.finish_accounts, State.finish_tariffs,
      State.finish_partFlags]
    rfl
  · subst e
    simp only [State.finish_visits, State.answered, ofFn_get]
  · subst e
    simp only [State.finish_lanes, State.answered, ofFn_get, LanePort.partReset]
    by_cases hl : s.laneOfAny s.cancellables l = true
    · simp only [hl, if_true, bindings.laneOfAny_enabled hl, reduceCtorEq, if_false]
    · simp only [hl, if_false, Bool.false_eq_true]
  · subst e
    simp only [State.finish_accounts, State.answered, ofFn_get, Account.voided, List.countP_flatMap]
    rfl
  · subst e
    simp only [State.finish_accounts, State.answered, ofFn_get, Account.voided, Account.withFloat]
  · subst e
    simp only [State.finish_tariffs, State.answered, ofFn_get, pins]
  · rw [State.partFlag, State.finish_partFlags]
    exact (latched .floatClamp).trans (by simp [State.Clamps])
  · rw [State.partFlag, State.finish_partFlags]
    exact (latched .tariffRetired).trans (by
      simp only [State.Retires, TariffSlot.RetiresAfter, pins, reduceCtorEq, false_and, false_or, true_and])
  · rw [State.partFlag, State.finish_partFlags]
    refine Bool.eq_false_iff.2 fun h => ?_
    rcases (latched f).1 h with ⟨e, -⟩ | ⟨e, -⟩
    · exact h1 e
    · exact h2 e

/-! ### Stack Cancel -/

theorem ReadEntry.ofStack_iff (e : ReadEntry) (n : Nat) :
    e.ofStack n = true ↔ ∃ m, e.member = some m ∧ m.stack = n := by
  unfold ReadEntry.ofStack
  cases e.member <;> simp

theorem LanePort.stackPending_iff (p : LanePort) (n : Nat) : p.stackPending n = true ↔
    (∃ e ∈ p.queue, ∃ m, e.member = some m ∧ m.stack = n) ∨ ∃ c, p.context = some c ∧ c.stack = n := by
  simp only [LanePort.stackPending, Bool.or_eq_true, List.any_eq_true, ReadEntry.ofStack_iff, Option.any_eq_true,
    beq_iff_eq]

/-- A pending stack is withdrawn under the tag that its items share (R38, R39). -/
theorem LanePort.stackTag_eq {p : LanePort} {n : Nat} {tag : Option VisitTag} (pending : p.stackPending n = true)
    (queued : ∀ e ∈ p.queue, ∀ m, e.member = some m → m.stack = n → e.tag = tag)
    (staged : ∀ c, p.context = some c → c.stack = n → tag = some c.tag) : p.stackTag n = tag := by
  unfold LanePort.stackTag
  split
  · next c hc =>
    obtain ⟨hc, hn⟩ := Option.filter_eq_some_iff.1 hc
    exact (staged c hc (by simpa using hn)).symm
  · next none =>
    cases found : p.queue.find? (fun e => e.ofStack n) with
    | some e =>
      obtain ⟨m, hm, hs⟩ := (e.ofStack_iff n).1 (List.find?_some found)
      exact queued e (List.mem_of_find?_eq_some found) m hm hs
    | none =>
      rcases (p.stackPending_iff n).1 pending with ⟨e, he, hm⟩ | ⟨c, hc, hs⟩
      · exact absurd ((e.ofStack_iff n).2 hm) (List.find?_eq_none.1 found e he)
      · rw [hc, Option.filter_eq_none_iff] at none
        exact absurd (by simpa using hs) (none c rfl)

/-- Settles O46. -/
theorem stackCancelWithdraws : Obligations.StackCancelWithdraws := by
  intro s l number
  have arrives : exec (.stackCancel l number) s = .next (s.cancelArrival l number) := rfl
  refine ⟨fun disabled => ?_, fun enabled free => ?_, fun enabled pending tag queued staged live => ?_⟩
  · rw [arrives, State.cancelArrival, (LanePort.enabled_false _).2 disabled]
    rfl
  · have free : ¬ s.lanes[l].stackPending number.toNat = true := fun h =>
      free ((s.lanes[l].stackPending_iff number.toNat).1 h)
    rw [arrives, State.cancelArrival, (LanePort.enabled_iff _).2 enabled, if_neg free]
    rfl
  · have pending := (s.lanes[l].stackPending_iff number.toNat).2 pending
    have withdraws : exec (.stackCancel l number) s = .next (s.withdrawStack l number.toNat).finish := by
      rw [arrives, State.cancelArrival, (LanePort.enabled_iff _).2 enabled, if_pos pending]
      rfl
    obtain ⟨i, n, f, e, ⟨recorded, flags⟩⟩ := s.removeItems_records l .cancelled (Choice.ofStack number.toNat)
    have without := funext fun p : LanePort => p.without_eq (Choice.ofStack number.toNat)
    refine ⟨_, withdraws, ?_⟩
    rw [State.withdrawStack, LanePort.stackTag_eq pending queued staged]
    generalize s.removeItems l .cancelled (Choice.ofStack number.toNat) = w at e recorded flags ⊢
    cases tag with
    | none =>
      simp only
      refine ⟨?_, ?_, fun g hg => ?_⟩
      · subst e
        rw [State.finish_eq, without]
        rfl
      · simpa only [State.Recorded, State.partFlag, State.finish_items, State.finish_lossCount,
          State.finish_partFlags] using recorded
      · rw [State.partFlag, State.finish_partFlags]; exact flags g hg
    | some u =>
      have names : w.names u := by rw [e]; exact live u rfl
      simp only [w.drainTagged_names names]
      refine ⟨?_, ?_, fun g hg => ?_⟩
      · subst e
        rw [State.finish_eq, without]
        rfl
      · simpa only [State.Recorded, State.partFlag, State.finish_items, State.finish_lossCount,
          State.finish_partFlags] using recorded
      · rw [State.partFlag, State.finish_partFlags]; exact flags g hg

end Sys2Proof.Machine

/-! ## Expiries and the tick -/

namespace Sys2Proof.Machine

theorem Visit.openDue_iff (r : Visit) : r.openDue = true ↔ r.state = .opened ∧ r.openLimit ≤ r.elapsed := by
  simp [Visit.openDue]

theorem Visit.graceDue_iff (r : Visit) : r.graceDue = true ↔ r.state = .closing ∧ r.grace = 0 := by
  simp [Visit.graceDue]

/-! ### Counting a visit's timer -/

theorem Visit.count_state (r : Visit) : r.count.state = r.state := by
  unfold Visit.count
  split <;> rfl

theorem Visit.count_number (r : Visit) : r.count.number = r.number := by
  unfold Visit.count
  split <;> rfl

/-- A visit whose count reaches the open limit has left OPEN when the tick is over (R14 to R16). -/
theorem Visit.ticked_of_openDue {r : Visit} (h : r.count.openDue = true) (g : Nat) :
    r.state = .opened ∧ r.ticked g = r.count.left .expired g := by
  obtain ⟨state, due⟩ := r.count.openDue_iff.1 h
  rw [r.count_state] at state
  simp only [Visit.count, state] at due
  refine ⟨state, ?_⟩
  simp only [Visit.ticked, Visit.count, state, if_pos due]

/-- A visit whose grace runs out is SETTLING when the tick is over (R18, R20). -/
theorem Visit.ticked_of_graceDue {r : Visit} (h : r.count.graceDue = true) (g : Nat) :
    r.state = .closing ∧ r.ticked g = { r.count with tagged := 0, state := .settling, grace := 0 } := by
  obtain ⟨state, due⟩ := r.count.graceDue_iff.1 h
  rw [r.count_state] at state
  simp only [Visit.count, state] at due
  refine ⟨state, ?_⟩
  simp only [Visit.ticked, Visit.count, state, if_pos (show r.grace ≤ 1 by omega)]

/-- A visit that its count does not make due is counted and no more (R14, R18). -/
theorem Visit.ticked_of_not_due {r : Visit} (open_ : ¬ r.count.openDue = true)
    (grace : ¬ r.count.graceDue = true) (g : Nat) : r.ticked g = r.count := by
  rw [Visit.openDue_iff] at open_
  rw [Visit.graceDue_iff] at grace
  unfold Visit.ticked Visit.count at *
  cases h : r.state with
  | opened =>
    simp only [h, true_and] at open_ ⊢
    rw [if_neg open_]
  | closing =>
    simp only [h, true_and] at grace ⊢
    rw [if_neg (by omega)]
  | free => rfl
  | settling => rfl

variable (s : State)

theorem State.counted_visits (v : VisitSlot) : (s.counted v).visits = upd s.visits v Visit.count := rfl

theorem State.counted_visitTag (v w : VisitSlot) : (s.counted v).visitTag w = s.visitTag w := by
  simp only [State.visitTag, State.counted_visits, upd_get]
  split
  · next e => subst e; rw [Visit.count_number]
  · rfl

/-! ### Expiries -/

/-- Open-time expiry (R15, R16). -/
theorem State.expireOpen_eq (v : VisitSlot) : s.expireOpen v = State.finish { s with
    lanes := s.lanesWithout s.visits[v].laneSet
    visits := upd s.visits v (fun r => r.left .expired s.graceSeconds)
    settleWait := s.waitAfter v s.visits[v].tagged
    partFlags := s.partFlags ||| 0x02#7 } := by
  rw [State.expireOpen, State.leaveOpen_eq]
  rfl

/-- Grace expiry (R20). -/
theorem State.expireGrace_eq (v : VisitSlot) :
    ∃ i n f, s.expireGrace v = State.finish { s with
        lanes := updAll s.lanes (LanePort.abandon (s.visitTag v))
        visits := upd s.visits v (fun r => { r with tagged := 0, state := .settling, grace := 0 })
        settleWait := s.settleWait ++ [s.visitTag v]
        items := i, lossCount := n, partFlags := f } ∧
      s.Records (s.expireGrace v) (s.reported .abandoned (Choice.ofVisit (s.visitTag v))) := by
  obtain ⟨i, n, f, e, records⟩ :=
    foldl_allLanes_records s (fun t l => t.abandonOnLane_records (s.visitTag v) l)
  have whole : s.expireGrace v =
      (((allLanes.foldl (State.abandonOnLane (s.visitTag v)) s).clearTagged v).enterSettling v).finish := rfl
  rw [whole]
  generalize allLanes.foldl (State.abandonOnLane (s.visitTag v)) s = u at e records ⊢
  refine ⟨i, n, f, ?_, records.congr ⟨rfl, rfl, rfl⟩ ?_⟩
  · subst e
    simp only [State.clearTagged, State.enterSettling, State.modifyVisit, State.setSettleWait, upd_upd,
      State.visitTag, upd_same]
  · rw [State.finish_items, State.finish_lossCount, State.finish_partFlags]
    exact ⟨rfl, rfl, rfl⟩

/-! ### The tick, visit by visit -/

/-- A state after the tick at the visits of a list (R173). -/
structure State.TickedAt (s t : State) (vs : List VisitSlot) : Prop where
  frame : t = { s with
    visits := t.visits, lanes := t.lanes, items := t.items, lossCount := t.lossCount
    partFlags := t.partFlags, attention := t.attention, trunkTx := t.trunkTx, settleWait := t.settleWait }
  wait : t.settleWait = s.settleWait ++ (vs.filter (fun v => s.visits[v].state != .settling &&
    (s.visits[v].ticked s.graceSeconds).state == .settling)).map s.visitTag
  visits : ∀ v : VisitSlot,
    t.visits[v] = if v ∈ vs then s.visits[v].ticked s.graceSeconds else s.visits[v]
  calm : (∀ v ∈ vs, (s.visits[v].ticked s.graceSeconds).state = s.visits[v].state) → t = { s with visits := t.visits }
  expired : t.partFlag .visitExpired = true ↔ s.partFlag .visitExpired = true ∨
    ∃ v ∈ vs, s.visits[v].state = .opened ∧ (s.visits[v].ticked s.graceSeconds).state ≠ .opened

theorem State.tickVisit_eq (v : VisitSlot) : s.tickVisit v =
    if s.visits[v].count.openDue then (s.counted v).expireOpen v
    else if s.visits[v].count.graceDue then (s.counted v).expireGrace v else s.counted v := by
  have visit : (s.modifyVisit v Visit.count).visits[v] = s.visits[v].count := upd_same _ _ _
  rw [State.tickVisit, visit]
  rfl

/-- The visit of one tick joins the settle-wait list when the tick takes it to SETTLING (R22). -/
theorem State.tickWait (v : VisitSlot) {P : VisitSlot → Bool} {Q : Prop} [Decidable Q] (h : P v = true ↔ Q) :
    s.settleWait ++ ([v].filter P).map s.visitTag = if Q then s.settleWait ++ [s.visitTag v] else s.settleWait := by
  by_cases q : Q
  · rw [if_pos q, List.filter_cons_of_pos (h.2 q)]; rfl
  · rw [if_neg q, List.filter_cons_of_neg (fun e => q (h.1 e))]; exact List.append_nil _

theorem State.tickVisit_tickedAt (v : VisitSlot) : s.TickedAt (s.tickVisit v) [v] := by
  have visit : (s.counted v).visits[v] = s.visits[v].count := upd_same _ _ _
  have only {P : VisitSlot → Prop} : (∃ w ∈ [v], P w) ↔ P v := by simp
  rw [State.tickVisit_eq]
  by_cases due : s.visits[v].count.openDue = true
  · obtain ⟨opened, ticked⟩ := Visit.ticked_of_openDue due s.graceSeconds
    have settles : (s.visits[v].ticked s.graceSeconds).state =
        if s.visits[v].count.tagged = 0 then .settling else .closing := by rw [ticked]; rfl
    rw [if_pos due, State.expireOpen_eq]
    refine ⟨?_, ?_, fun w => ?_, fun calm => ?_, ?_⟩
    · rw [State.finish_eq]
      rfl
    · rw [s.tickWait v (Q := s.visits[v].count.tagged = 0)
        (by rw [settles, opened]; split <;> simp [*, -Fin.getElem_fin]), State.finish_settleWait, visit]
      simp only [State.waitAfter, State.counted_visitTag]
      rfl
    · simp only [State.finish_visits, State.counted_visits, upd_upd, upd_get, List.mem_singleton]
      split
      · next e => subst e; exact ticked.symm
      · rfl
    · have := calm v (List.mem_singleton_self v)
      rw [settles, opened] at this
      split at this <;> cases this
    · rw [State.partFlag, State.finish_partFlags, only]
      refine iff_of_true ?_ (.inr ⟨opened, ?_⟩)
      · exact (or_bit_place s.partFlags .visitExpired .visitExpired).trans (by simp)
      · rw [settles]; split <;> nofun
  · by_cases grace : s.visits[v].count.graceDue = true
    · obtain ⟨closing, ticked⟩ := Visit.ticked_of_graceDue grace s.graceSeconds
      obtain ⟨i, n, f, e, records⟩ := (s.counted v).expireGrace_eq v
      rw [if_neg due, if_pos grace]
      refine ⟨?_, ?_, fun w => ?_, fun calm => ?_, ?_⟩
      · rw [e, State.finish_eq]
        rfl
      · rw [s.tickWait v (Q := True) (by rw [ticked, closing]; simp), if_pos trivial, e, State.finish_settleWait,
          State.counted_visitTag]
        rfl
      · rw [e]
        simp only [State.finish_visits, State.counted_visits, upd_upd, upd_get, List.mem_singleton]
        split
        · next e => subst e; exact ticked.symm
        · rfl
      · have := calm v (List.mem_singleton_self v)
        rw [ticked, closing] at this
        cases this
      · rw [records.flags .visitExpired nofun, only, closing]
        exact (or_iff_left (fun h => nomatch h.1)).symm
    · have ticked := Visit.ticked_of_not_due due grace s.graceSeconds
      rw [if_neg due, if_neg grace]
      refine ⟨rfl, ?_, fun w => ?_, fun _ => rfl, ?_⟩
      · rw [s.tickWait v (Q := False) (by rw [ticked, Visit.count_state]; simp), if_neg id]
        rfl
      · simp only [State.counted_visits, upd_get, List.mem_singleton]
        split
        · next e => subst e; exact ticked.symm
        · rfl
      · rw [only, ticked, Visit.count_state]
        exact (or_iff_left (fun h => h.2 h.1)).symm

theorem State.TickedAt.nil : s.TickedAt s [] where
  frame := rfl
  wait := (List.append_nil _).symm
  visits v := by rw [if_neg List.not_mem_nil]
  calm _ := rfl
  expired := by simp

/-- The tick at one visit after another. -/
theorem State.TickedAt.append {s t u : State} {vs ws : List VisitSlot} (h : s.TickedAt t vs) (h' : t.TickedAt u ws)
    (apart : ∀ v ∈ ws, v ∉ vs) : s.TickedAt u (vs ++ ws) := by
  have grace : t.graceSeconds = s.graceSeconds := by rw [h.frame]
  have later : ∀ v ∈ ws, t.visits[v] = s.visits[v] := fun v hv => by rw [h.visits, if_neg (apart v hv)]
  have tags : ∀ v ∈ ws, t.visitTag v = s.visitTag v := fun v hv => by rw [State.visitTag, later v hv, State.visitTag]
  refine ⟨?_, ?_, fun v => ?_, fun calm => ?_, ?_⟩
  · refine h'.frame.trans ?_
    rw [h.frame]
  · have same : ws.filter (fun v => t.visits[v].state != .settling &&
          (t.visits[v].ticked t.graceSeconds).state == .settling) =
        ws.filter (fun v => s.visits[v].state != .settling &&
          (s.visits[v].ticked s.graceSeconds).state == .settling) :=
      List.filter_congr fun v hv => by rw [later v hv, grace]
    rw [h'.wait, h.wait, same, List.filter_append, List.map_append, List.append_assoc,
      List.map_congr_left fun v hv => tags v (List.mem_of_mem_filter hv)]
  · rw [h'.visits, grace]
    by_cases hw : v ∈ ws
    · rw [if_pos hw, if_pos (List.mem_append_right _ hw), later v hw]
    · rw [if_neg hw, h.visits]
      simp only [List.mem_append, hw, or_false]
  · have first := h.calm fun v hv => calm v (List.mem_append_left _ hv)
    have second := h'.calm fun v hv => by rw [later v hv, grace]; exact calm v (List.mem_append_right _ hv)
    refine second.trans ?_
    rw [first]
  · rw [h'.expired, h.expired, or_assoc]
    refine or_congr_right ?_
    have same : (∃ v ∈ ws, t.visits[v].state = .opened ∧ (t.visits[v].ticked t.graceSeconds).state ≠ .opened) ↔
        ∃ v ∈ ws, s.visits[v].state = .opened ∧ (s.visits[v].ticked s.graceSeconds).state ≠ .opened :=
      exists_congr fun v => and_congr_right fun hv => by rw [later v hv, grace]
    rw [same]
    simp only [List.mem_append, or_and_right, exists_or]

theorem State.foldl_tickVisit (vs : List VisitSlot) (nd : vs.Nodup) : s.TickedAt (vs.foldl State.tickVisit s) vs := by
  induction vs generalizing s with
  | nil => exact .nil s
  | cons v vs ih =>
    obtain ⟨hv, nd⟩ := List.nodup_cons.1 nd
    exact (s.tickVisit_tickedAt v).append (ih _ nd) fun w hw e => hv (List.mem_singleton.1 e ▸ hw)

/-- The states that the tick passes through, visit by visit. -/
def State.tickTo (s : State) (k : Nat) : State := (allVisits.take k).foldl State.tickVisit s

theorem State.tickTo_succ (v : VisitSlot) : s.tickTo (v.val + 1) = (s.tickTo v.val).tickVisit v := by
  have next : allVisits.take (v.val + 1) = allVisits.take v.val ++ [v] := by
    rw [List.take_succ_eq_append_getElem (by simp [allVisits])]
    simp [allVisits]
  rw [State.tickTo, next, List.foldl_append]
  rfl

theorem State.tickTo_last : s.tickTo 24 = allVisits.foldl State.tickVisit s := by
  rw [State.tickTo, List.take_of_length_le (by simp [allVisits])]

theorem execOpenTimeExpiry_due {v : VisitSlot} (h : s.visits[v].openDue = true) :
    exec (.openTimeExpiry v) s = .next (s.expireOpen v) := congrArg Host.Outcome.next (if_pos h)

theorem execGraceExpiry_due {v : VisitSlot} (h : s.visits[v].graceDue = true) :
    exec (.graceExpiry v) s = .next (s.expireGrace v) := congrArg Host.Outcome.next (if_pos h)

/-- The lanes that a grace expiry leaves (R20). -/
theorem LanePort.abandon_eq (p : LanePort) (t : VisitTag) (h : 0 < p.chosenCount (Choice.ofVisit t)) :
    p.abandon t = { p with
      queue := p.queue.filter (fun e => e.tag != some t)
      context := p.context.filter (fun c => c.tag != t)
      hold := p.holdFor (p.queue.filter (fun e => e.tag != some t)).length
      passCount := if (p.queue.filter (fun e => e.tag != some t)).isEmpty then 0 else p.passCount
      abandoned := min 65535 (p.abandoned + p.chosenCount (Choice.ofVisit t))
      flags := p.flags ||| 0x100#10 } := by
  rw [LanePort.abandon, if_neg (by omega), LanePort.without_eq]
  rfl

/-- Settles O57: the tick is a fold of `tickVisit`, and an expiry is what `tickVisit` does to a visit counted due. -/
theorem timerEvents : Obligations.TimerEvents := by
  intro s
  refine ⟨⟨_, rfl, ?_⟩, ⟨s.tickTo, rfl, by rw [s.tickTo_last]; rfl, fun v => ?_⟩, fun v => ⟨fun early => ?_,
    fun opened due => ?_, fun early => ?_, fun closing due => ?_⟩⟩
  · obtain ⟨frame, wait, visits, calm, expired⟩ := s.foldl_tickVisit allVisits allVisits_nodup
    refine ⟨?_, fun v => ?_, fun still => calm fun v _ => still v, ?_⟩
    · rw [← wait]; exact frame
    · rw [visits, if_pos (mem_allVisits v)]
    · simpa only [mem_allVisits, true_and] using expired
  · have tick : s.tickTo (v.val + 1) = if ((s.tickTo v.val).counted v).visits[v].openDue then
          ((s.tickTo v.val).counted v).expireOpen v
        else if ((s.tickTo v.val).counted v).visits[v].graceDue then ((s.tickTo v.val).counted v).expireGrace v
        else (s.tickTo v.val).counted v := s.tickTo_succ v
    rw [tick]
    refine ⟨fun up => ?_, fun up => ?_, fun notOpen notGrace => ?_⟩
    · have due := (Visit.openDue_iff _).2 up
      rw [if_pos due, execOpenTimeExpiry_due _ due]
    · have due := (Visit.graceDue_iff _).2 up
      have notOpen : ¬ ((s.tickTo v.val).counted v).visits[v].openDue = true := fun h =>
        nomatch up.1.symm.trans ((Visit.openDue_iff _).1 h).1
      rw [if_neg notOpen, if_pos due, execGraceExpiry_due _ due]
    · rw [if_neg fun h => notOpen ((Visit.openDue_iff _).1 h), if_neg fun h => notGrace ((Visit.graceDue_iff _).1 h)]
  · exact congrArg Host.Outcome.next (if_neg fun h => early ((Visit.openDue_iff _).1 h))
  · rw [execOpenTimeExpiry_due s ((Visit.openDue_iff _).2 ⟨opened, due⟩), State.expireOpen_eq]
  · exact congrArg Host.Outcome.next (if_neg fun h => early ((Visit.graceDue_iff _).1 h))
  · obtain ⟨i, n, f, e, ⟨recorded, flags⟩⟩ := s.expireGrace_eq v
    refine ⟨_, execGraceExpiry_due s ((Visit.graceDue_iff _).2 ⟨closing, due⟩), ?_, fun l => ⟨fun none => ?_,
      fun some => ?_⟩, recorded, flags⟩
    · rw [e]
      simp only [State.finish_lanes, State.finish_items, State.finish_lossCount, State.finish_partFlags]
    · rw [e, State.finish_lanes]
      simp only [updAll_eq_ofFn, ofFn_get]
      rw [LanePort.abandon, if_pos none]
    · rw [e, State.finish_lanes]
      simp only [updAll_eq_ofFn, ofFn_get]
      exact LanePort.abandon_eq _ _ some

end Sys2Proof.Machine

/-! ## Stacks in a lane: what keeps them whole and numbered (R38, R39, R42) -/

namespace Sys2Proof.Machine

/-! ### Chained queues -/

theorem chained_cons (e : ReadEntry) (q : List ReadEntry) :
    chained (e :: q) ↔ (e.unfinished = true → ∃ f rest, q = f :: rest ∧ e.goesOn f) ∧ chained q := by
  cases q with
  | nil => simp [chained]
  | cons f rest => simp [chained]

theorem chained_append {q r : List ReadEntry} (hq : chained q) (hr : chained r) : chained (q ++ r) := by
  induction q with
  | nil => exact hr
  | cons e q ih =>
    obtain ⟨goes, hq⟩ := (chained_cons e q).1 hq
    rw [List.cons_append, chained_cons]
    refine ⟨fun hu => ?_, ih hq⟩
    obtain ⟨f, rest, rfl, h⟩ := goes hu
    exact ⟨f, rest ++ r, rfl, h⟩

/-- A selection of reads that takes a stack whole or not at all. -/
def WholeStacks (keep : ReadEntry → Bool) : Prop :=
  ∀ e f, e.unfinished = true → e.goesOn f → keep f = keep e

theorem chained_filter {keep : ReadEntry → Bool} (hk : WholeStacks keep) {q : List ReadEntry}
    (hq : chained q) : chained (q.filter keep) := by
  induction q with
  | nil => exact hq
  | cons e q ih =>
    obtain ⟨goes, hq⟩ := (chained_cons e q).1 hq
    by_cases he : keep e = true
    · rw [List.filter_cons_of_pos he, chained_cons]
      refine ⟨fun hu => ?_, ih hq⟩
      obtain ⟨f, rest, rfl, h⟩ := goes hu
      exact ⟨f, rest.filter keep, List.filter_cons_of_pos ((hk e f hu h).trans he), h⟩
    · rw [List.filter_cons_of_neg he]
      exact ih hq

/-! ### Numbered queues -/

theorem ReadEntry.unfinished_iff (e : ReadEntry) :
    e.unfinished = true ↔ ∃ m, e.member = some m ∧ m.last = false := by
  unfold ReadEntry.unfinished
  cases e.member <;> simp

/-- How many reads of its stack have gone before the read that follows one at position `n + 1` (R38). -/
def ReadEntry.gone (e : ReadEntry) (n : Nat) : Nat := if e.unfinished then n + 1 else 0

/-- The head of a numbered queue: an unstacked read, or a read at the next position. -/
theorem numbered_cons (n : Nat) (e : ReadEntry) (q : List ReadEntry) :
    numbered n (e :: q) ↔ (e.member = none → n = 0) ∧
      (∀ m, e.member = some m → m.position = n + 1 ∧ n < 16) ∧ numbered (e.gone n) q := by
  unfold ReadEntry.gone ReadEntry.unfinished
  rw [numbered]
  cases e.member with
  | none => simp
  | some m => cases hl : m.last <;> simp [hl, and_assoc]

theorem numbered_append {q r : List ReadEntry} {n : Nat} (hq : numbered n q) (hr : numbered 0 r) :
    numbered n (q ++ r) := by
  induction q generalizing n with
  | nil => have : n = 0 := hq; subst this; exact hr
  | cons e q ih =>
    obtain ⟨h1, h2, h3⟩ := (numbered_cons n e q).1 hq
    exact (numbered_cons n e (q ++ r)).2 ⟨h1, h2, ih h3⟩

/-- How many reads of the head's stack have gone before a queue from which a selection is kept. -/
def goneOf (keep : ReadEntry → Bool) (n : Nat) : List ReadEntry → Nat
  | [] => 0
  | e :: _ => if keep e then n else 0

theorem numbered_filter {keep : ReadEntry → Bool} (hk : WholeStacks keep) {q : List ReadEntry} {n : Nat}
    (hc : chained q) (hn : numbered n q) : numbered (goneOf keep n q) (q.filter keep) := by
  induction q generalizing n with
  | nil => rfl
  | cons e q ih =>
    obtain ⟨goes, hc⟩ := (chained_cons e q).1 hc
    obtain ⟨h1, h2, h3⟩ := (numbered_cons n e q).1 hn
    have rest := ih hc h3
    have next : goneOf keep (e.gone n) q = if keep e then e.gone n else 0 := by
      unfold ReadEntry.gone
      by_cases hu : e.unfinished = true
      · obtain ⟨f, r, rfl, h⟩ := goes hu
        simp only [goneOf, hk e f hu h]
      · simp only [hu, Bool.false_eq_true, if_false, ite_self]
        cases q <;> simp [goneOf]
    rw [next] at rest
    by_cases he : keep e = true
    · rw [List.filter_cons_of_pos he]
      simp only [he, if_true] at rest
      simp only [goneOf, he, if_true]
      exact (numbered_cons n e _).2 ⟨h1, h2, rest⟩
    · rw [List.filter_cons_of_neg he]
      simp only [he, Bool.false_eq_true, if_false] at rest
      simpa only [goneOf, he, Bool.false_eq_true, if_false] using rest

/-! ### The entries of a Stack Frame -/

theorem stackEntries_mem {t : Option VisitTag} {stack k : Nat} {rs : List CrateRead} {e : ReadEntry}
    (h : e ∈ stackEntries t stack k rs) : e.tag = t ∧ ∃ m, e.member = some m ∧ m.stack = stack := by
  induction rs generalizing k with
  | nil => cases h
  | cons r rs ih =>
    rcases List.mem_cons.1 h with rfl | h
    · exact ⟨rfl, _, rfl, rfl⟩
    · exact ih h

theorem stackEntries_length (t : Option VisitTag) (stack k : Nat) (rs : List CrateRead) :
    (stackEntries t stack k rs).length = rs.length := by
  induction rs generalizing k with
  | nil => rfl
  | cons r rs ih => rw [stackEntries, List.length_cons, ih, List.length_cons]

theorem stackEntries_chained (t : Option VisitTag) (stack k : Nat) (rs : List CrateRead) :
    chained (stackEntries t stack k rs) := by
  induction rs generalizing k with
  | nil => trivial
  | cons r rs ih =>
    rw [stackEntries, chained_cons]
    refine ⟨fun hu => ?_, ih _⟩
    cases rs with
    | nil => simp [ReadEntry.unfinished] at hu
    | cons r' rs => exact ⟨_, _, rfl, rfl, _, _, rfl, rfl, rfl⟩

theorem stackEntries_numbered (t : Option VisitTag) (stack n : Nat) (rs : List CrateRead) (ne : rs ≠ [])
    (fits : n + rs.length ≤ 16) : numbered n (stackEntries t stack (n + 1) rs) := by
  induction rs generalizing n with
  | nil => exact absurd rfl ne
  | cons r rs ih =>
    rw [List.length_cons] at fits
    rw [stackEntries, numbered_cons]
    refine ⟨nofun, fun m hm => ?_, ?_⟩
    · cases hm; exact ⟨rfl, by omega⟩
    · cases rs with
      | nil => rfl
      | cons r' rs => exact ih (n + 1) (List.cons_ne_nil _ _) (by omega)

/-! ### A lane's stacks -/

theorem LanePort.StacksSound.congr {p q : LanePort} (h : p.StacksSound) (hq : q.queue = p.queue)
    (hc : q.context = p.context) : q.StacksSound := by
  obtain ⟨queue, staged, oneTag, stagedTag⟩ := h
  exact ⟨hq ▸ queue, by rw [hq, hc]; exact staged, by rw [hq]; exact oneTag, by rw [hq, hc]; exact stagedTag⟩

theorem LanePort.StacksNumbered.congr {p q : LanePort} (h : p.StacksNumbered) (hq : q.queue = p.queue)
    (hc : q.context = p.context) : q.StacksNumbered := by
  obtain ⟨whole, positions⟩ := h
  exact ⟨whole.congr hq hc, by rw [hq, hc]; exact positions⟩

theorem LanePort.stacksSound_empty {p : LanePort} (hq : p.queue = []) (hc : p.context = none) :
    p.StacksSound := by
  refine ⟨by rw [hq]; trivial, fun c h => ?_, fun e he => ?_, fun c h => ?_⟩
  · rw [hc] at h; cases h
  · rw [hq] at he; cases he
  · rw [hc] at h; cases h

theorem LanePort.stacksNumbered_empty {p : LanePort} (hq : p.queue = []) (hc : p.context = none) :
    p.StacksNumbered := by
  refine ⟨LanePort.stacksSound_empty hq hc, 0, by rw [hq]; rfl, fun c h => ?_, fun _ e rest h => ?_⟩
  · rw [hc] at h; cases h
  · rw [hq] at h; cases h

/-- A choice that takes a stack whole or not at all, its staged items with its queued reads. -/
structure Choice.Whole (c : Choice) : Prop where
  queued : WholeStacks c.queued
  staged : ∀ (x : StackContext) (e : ReadEntry) (m : StackMember), e.tag = some x.tag → e.member = some m →
    m.stack = x.stack → c.queued e = c.staged x

theorem Choice.whole_ofStack (n : Nat) : (Choice.ofStack n).Whole where
  queued := by
    rintro e f - ⟨-, m, k, he, hf, hs⟩
    simp [Choice.ofStack, ReadEntry.ofStack, he, hf, hs]
  staged := by
    intro x e m _ he hs
    simp [Choice.ofStack, ReadEntry.ofStack, he, hs]

theorem Choice.whole_ofVisit (t : VisitTag) : (Choice.ofVisit t).Whole where
  queued := by
    rintro e f - ⟨ht, -⟩
    simp [Choice.ofVisit, ht]
  staged := by
    intro x e m ht _ _
    rw [Bool.eq_iff_iff]
    simp only [Choice.ofVisit, ht, beq_iff_eq, Option.some.injEq]

theorem Choice.Whole.others {c : Choice} (hc : c.Whole) : WholeStacks (fun e => !c.queued e) :=
  fun e f hu hg => congrArg Bool.not (hc.queued e f hu hg)

section without

variable {p q : LanePort} {c : Choice} (hc : c.Whole)
  (queue : q.queue = p.queue.filter (fun e => !c.queued e))
  (context : q.context = p.context.filter (fun x => !c.staged x))

include hc queue context

/-- Whole stacks leave a lane, and the others stand as they stood (R39). -/
theorem LanePort.StacksSound.without (h : p.StacksSound) : q.StacksSound := by
  obtain ⟨chain, staged, oneTag, stagedTag⟩ := h
  have sub : ∀ e ∈ q.queue, e ∈ p.queue := fun e he => by rw [queue] at he; exact List.mem_of_mem_filter he
  have ctx : ∀ x, q.context = some x → p.context = some x ∧ c.staged x = false := fun x hx => by
    rw [context, Option.filter_eq_some_iff] at hx; simpa using hx
  refine ⟨by rw [queue]; exact chained_filter hc.others chain, fun x hx => ?_,
    fun e he f hf => oneTag e (sub e he) f (sub f hf), fun x hx e he => stagedTag x (ctx x hx).1 e (sub e he)⟩
  obtain ⟨hx, ns⟩ := ctx x hx
  obtain ⟨e, rest, m, hq, ht, hm, hs⟩ := staged x hx
  have kept : (!c.queued e) = true := by rw [hc.staged x e m ht hm hs, ns]; rfl
  exact ⟨e, _, m, by rw [queue, hq, List.filter_cons, if_pos kept], ht, hm, hs⟩

theorem LanePort.StacksNumbered.without (h : p.StacksNumbered) : q.StacksNumbered := by
  obtain ⟨whole, n, hn, withContext, noContext⟩ := h
  refine ⟨whole.without hc queue context, goneOf (fun e => !c.queued e) n p.queue, ?_, fun x hx => ?_,
    fun hx e rest hq ht => ?_⟩
  · rw [queue]; exact numbered_filter hc.others whole.queue hn
  · rw [context, Option.filter_eq_some_iff] at hx
    obtain ⟨hx, ns⟩ := hx
    obtain ⟨e, rest, m, hq, ht, hm, hs⟩ := whole.staged x hx
    have head : goneOf (fun e => !c.queued e) n p.queue = n := by
      rw [hq]; simp only [goneOf, hc.staged x e m ht hm hs, ns, if_true]
    rw [head]
    exact withContext x hx
  · cases hpq : p.queue with
    | nil => rfl
    | cons e' rest' =>
      simp only [goneOf]
      split
      · next kept =>
        have same : e' = e := by
          rw [queue, hpq, List.filter_cons, if_pos kept, List.cons.injEq] at hq; exact hq.1
        subst same
        cases hx' : p.context with
        | none => exact noContext hx' e' rest' hpq ht
        | some x =>
          obtain ⟨e'', r'', m, hq'', ht'', hm, hs⟩ := whole.staged x hx'
          rw [hpq, List.cons.injEq] at hq''
          obtain ⟨rfl, rfl⟩ := hq''
          rw [hc.staged x e' m ht'' hm hs] at kept
          rw [context, hx', Option.filter_some] at hx
          simp [kept] at hx
      · rfl

end without

section arrivals

variable {p q : LanePort} {es : List ReadEntry} (queue : q.queue = p.queue ++ es)
  (context : q.context = p.context) (chain : chained es)
  (fresh : ∀ e ∈ es, ∀ m, e.member = some m → p.stackPending m.stack = false)
  (oneTag : ∀ e ∈ es, ∀ f ∈ es, e.tag = f.tag)

include queue context chain fresh oneTag

/-- Reads of stacks that are not pending join the tail of a queue (R37, R38). -/
theorem LanePort.StacksSound.arrive (h : p.StacksSound) : q.StacksSound := by
  obtain ⟨chain', staged, oneTag', stagedTag⟩ := h
  have apart : ∀ e ∈ p.queue, ∀ f ∈ es, ∀ m n, e.member = some m → f.member = some n → m.stack ≠ n.stack := by
    intro e he f hf m n hm hn eq
    have := fresh f hf n hn
    rw [LanePort.stackPending, Bool.or_eq_false_iff, List.any_eq_false] at this
    exact this.1 e he (by simp [ReadEntry.ofStack, hm, eq])
  refine ⟨by rw [queue]; exact chained_append chain' chain, fun c hc => ?_, fun e he f hf m n hm hn eq => ?_,
    fun c hc e he m hm eq => ?_⟩
  · rw [context] at hc
    obtain ⟨e, rest, m, hq, h⟩ := staged c hc
    exact ⟨e, rest ++ es, m, by rw [queue, hq]; rfl, h⟩
  · rw [queue, List.mem_append] at he hf
    rcases he with he | he <;> rcases hf with hf | hf
    · exact oneTag' e he f hf m n hm hn eq
    · exact absurd eq (apart e he f hf m n hm hn)
    · exact absurd eq.symm (apart f hf e he n m hn hm)
    · exact oneTag e he f hf
  · rw [context] at hc
    rw [queue, List.mem_append] at he
    rcases he with he | he
    · exact stagedTag c hc e he m hm eq
    · have := fresh e he m hm
      rw [LanePort.stackPending, Bool.or_eq_false_iff] at this
      simp [hc, eq] at this

theorem LanePort.StacksNumbered.arrive (numbers : numbered 0 es) (h : p.StacksNumbered) : q.StacksNumbered := by
  obtain ⟨whole, n, hn, withContext, noContext⟩ := h
  refine ⟨whole.arrive queue context chain fresh oneTag, n, by rw [queue]; exact numbered_append hn numbers,
    by rw [context]; exact withContext, fun hc e rest hq ht => ?_⟩
  rw [context] at hc
  cases hp : p.queue with
  | nil => rw [hp] at hn; exact hn
  | cons e' rest' =>
    rw [queue, hp, List.cons_append, List.cons.injEq] at hq
    obtain ⟨rfl, -⟩ := hq
    exact noContext hc e' rest' hp ht

end arrivals

section grants

variable {p q : LanePort} {e : ReadEntry} {rest : List ReadEntry} (head : p.queue = e :: rest)
  (queue : q.queue = rest)

include head queue

/-- The head that a grant takes goes with its whole stack, and nothing is staged after it: it is an orphan, it has
no stack, or it bears the last mark (R42, R47). -/
theorem LanePort.StacksSound.taken (context : q.context = none) (h : p.StacksSound) : q.StacksSound := by
  obtain ⟨chain, staged, oneTag, stagedTag⟩ := h
  rw [head] at chain
  have sub : ∀ f ∈ q.queue, f ∈ p.queue := fun f hf => by rw [queue] at hf; rw [head]; exact List.mem_cons_of_mem _ hf
  refine ⟨by rw [queue]; exact ((chained_cons e rest).1 chain).2, fun c hc => ?_,
    fun f hf g hg => oneTag f (sub f hf) g (sub g hg), fun c hc => ?_⟩
  · rw [context] at hc; cases hc
  · rw [context] at hc; cases hc

theorem LanePort.StacksNumbered.taken (context : q.context = none)
    (whole : e.tag = none ∨ e.unfinished = false) (h : p.StacksNumbered) : q.StacksNumbered := by
  obtain ⟨sound, n, hn, withContext, noContext⟩ := h
  rw [head] at hn
  obtain ⟨-, -, numbers⟩ := (numbered_cons n e rest).1 hn
  refine ⟨sound.taken head queue context, e.gone n, by rw [queue]; exact numbers, fun c hc => ?_,
    fun _ f r hq ht => ?_⟩
  · rw [context] at hc; cases hc
  · unfold ReadEntry.gone
    split
    · next hu =>
      rcases whole with none | fin
      · have chain := sound.queue
        rw [head] at chain
        obtain ⟨f', r', hr, goes⟩ := ((chained_cons e rest).1 chain).1 hu
        rw [queue, hr, List.cons.injEq] at hq
        obtain ⟨rfl, -⟩ := hq
        exact absurd (goes.1.trans none) ht
      · rw [fin] at hu; cases hu
    · rfl

variable {t : VisitTag} {m : StackMember} {c : StackContext} {i : StagedItem} (tag : e.tag = some t)
  (member : e.member = some m) (last : m.last = false) (context : q.context = some c)
  (position : i.position = m.position)
  (stages : (p.context = none ∧ c.stack = m.stack ∧ c.tag = t ∧ c.items = [i]) ∨
    ∃ x, p.context = some x ∧ c.stack = x.stack ∧ c.tag = x.tag ∧ c.items = x.items ++ [i])

include tag member last context stages

/-- The head that a grant takes is staged, and its stack goes on at the head (R42). -/
theorem LanePort.StacksSound.stagedOn (h : p.StacksSound) : q.StacksSound := by
  obtain ⟨chain, staged, oneTag, stagedTag⟩ := h
  have sub : ∀ f ∈ q.queue, f ∈ p.queue := fun f hf => by rw [queue] at hf; rw [head]; exact List.mem_cons_of_mem _ hf
  have same : c.stack = m.stack ∧ c.tag = t := by
    rcases stages with ⟨-, hs, ht, -⟩ | ⟨x, hx, hs, ht, -⟩
    · exact ⟨hs, ht⟩
    · obtain ⟨e', rest', m', hq, tag', member', stack'⟩ := staged x hx
      rw [head, List.cons.injEq] at hq
      obtain ⟨rfl, rfl⟩ := hq
      rw [member, Option.some.injEq] at member'
      rw [tag, Option.some.injEq] at tag'
      subst member' tag'
      exact ⟨hs.trans stack'.symm, ht⟩
  rw [head] at chain
  obtain ⟨goes, chain⟩ := (chained_cons e rest).1 chain
  refine ⟨by rw [queue]; exact chain, fun c' hc => ?_,
    fun f hf g hg => oneTag f (sub f hf) g (sub g hg), fun c' hc f hf k hk hs => ?_⟩
  · rw [context, Option.some.injEq] at hc
    subst hc
    obtain ⟨f, r, rfl, ht, m', k, hm', hk, hs⟩ := goes (e.unfinished_iff.2 ⟨m, member, last⟩)
    rw [member, Option.some.injEq] at hm'
    subst hm'
    exact ⟨f, r, k, queue, by rw [ht, tag, same.2], hk, by rw [hs, same.1]⟩
  · rw [context, Option.some.injEq] at hc
    subst hc
    have := oneTag f (sub f hf) e (by rw [head]; exact List.mem_cons_self) k m hk member (by rw [hs, same.1])
    rw [this, tag, same.2]

include position

theorem LanePort.StacksNumbered.stagedOn (h : p.StacksNumbered) : q.StacksNumbered := by
  obtain ⟨sound, n, hn, withContext, noContext⟩ := h
  have unfinished : e.unfinished = true := e.unfinished_iff.2 ⟨m, member, last⟩
  rw [head] at hn
  obtain ⟨-, place, numbers⟩ := (numbered_cons n e rest).1 hn
  rw [ReadEntry.gone, if_pos unfinished] at numbers
  refine ⟨sound.stagedOn head queue tag member last context stages, n + 1, by rw [queue]; exact numbers,
    fun c' hc => ?_, fun hc => ?_⟩
  · rw [context, Option.some.injEq] at hc
    subst hc
    refine ⟨Nat.le_add_left 1 n, ?_⟩
    rcases stages with ⟨hx, -, -, hi⟩ | ⟨x, hx, -, -, hi⟩
    · have : n = 0 := noContext hx e rest head (by rw [tag]; nofun)
      subst this
      rw [hi]; simp [position, (place m member).1]
    · rw [hi, List.map_append, (withContext x hx).2, List.map_singleton, position, (place m member).1,
        List.range'_concat, Nat.one_mul, Nat.add_comm 1 n]
  · rw [context] at hc; cases hc

end grants

/-- A staged stack has 1 to 15 items, and its next read stands at the head of the queue (R38, R42). -/
theorem LanePort.StacksNumbered.staged_length {p : LanePort} (h : p.StacksNumbered) {c : StackContext}
    (hc : p.context = some c) : 1 ≤ c.items.length ∧ c.items.length ≤ 15 := by
  obtain ⟨sound, n, hn, withContext, -⟩ := h
  obtain ⟨one, items⟩ := withContext c hc
  obtain ⟨e, rest, m, hq, -, hm, -⟩ := sound.staged c hc
  rw [hq] at hn
  have below := (((numbered_cons n e rest).1 hn).2.1 m hm).2
  have length : c.items.length = n := by
    have := congrArg List.length items
    simpa using this
  omega

end Sys2Proof.Machine

/-! ## What every event keeps, record by record -/

namespace Sys2Proof.Machine

/-- A lane that keeps its capacities, ranges and stacks. -/
structure LanePort.Keeps (p q : LanePort) : Prop where
  queue : p.queue.length ≤ 48 → q.queue.length ≤ 48
  tx : p.txQueue.length ≤ 4 → q.txQueue.length ≤ 4
  pass : p.passCount ≤ 15 → q.passCount ≤ 15
  level : p.level ≤ 3 → q.level ≤ 3
  counters : p.countersInRange → q.countersInRange
  sound : p.StacksSound → q.StacksSound
  numbered : p.StacksNumbered → q.StacksNumbered

theorem LanePort.Keeps.refl (p : LanePort) : p.Keeps p := ⟨id, id, id, id, id, id, id⟩

theorem LanePort.Keeps.trans {p q r : LanePort} (h : p.Keeps q) (h' : q.Keeps r) : p.Keeps r where
  queue := h'.queue ∘ h.queue
  tx := h'.tx ∘ h.tx
  pass := h'.pass ∘ h.pass
  level := h'.level ∘ h.level
  counters := h'.counters ∘ h.counters
  sound := h'.sound ∘ h.sound
  numbered := h'.numbered ∘ h.numbered

/-- A lane whose queue and Stack Context are as they were keeps its stacks. -/
theorem LanePort.Keeps.of_queue {p q : LanePort} (queue : q.queue = p.queue) (context : q.context = p.context)
    (tx : p.txQueue.length ≤ 4 → q.txQueue.length ≤ 4) (pass : p.passCount ≤ 15 → q.passCount ≤ 15)
    (level : p.level ≤ 3 → q.level ≤ 3) (counters : p.countersInRange → q.countersInRange) : p.Keeps q where
  queue := by rw [queue]; exact id
  tx := tx
  pass := pass
  level := level
  counters := counters
  sound h := h.congr queue context
  numbered h := h.congr queue context

/-- A visit record that keeps its capacities, and its ranges where a condition of the part holds. -/
structure Visit.Keeps (G : Prop) (r r' : Visit) : Prop where
  count : r.segments.length ≤ 8 → r'.segments.length ≤ 8
  lines : (∀ g ∈ r.segments, g.linesSound) → ∀ g ∈ r'.segments, g.linesSound
  ranges : (∀ g ∈ r.segments, g.inRange) → ∀ g ∈ r'.segments, g.inRange
  range : G → r.inRange → r'.inRange

theorem Visit.Keeps.refl (G : Prop) (r : Visit) : Visit.Keeps G r r := ⟨id, id, id, fun _ => id⟩

theorem Visit.Keeps.trans {G G' : Prop} {r r' r'' : Visit} (h : Visit.Keeps G r r') (h' : Visit.Keeps G' r' r'')
    (g : G → G') : Visit.Keeps G r r'' where
  count := h'.count ∘ h.count
  lines := h'.lines ∘ h.lines
  ranges := h'.ranges ∘ h.ranges
  range hg := h'.range (g hg) ∘ h.range hg

/-- A record whose segments are as they were. -/
theorem Visit.Keeps.of_segments {G : Prop} {r r' : Visit} (segments : r'.segments = r.segments)
    (range : G → r.inRange → r'.inRange) : Visit.Keeps G r r' := by
  refine ⟨?_, ?_, ?_, range⟩ <;> rw [segments] <;> exact id

theorem Visit.keeps_free (G : Prop) (r : Visit) : Visit.Keeps G r Visit.free where
  count _ := Nat.zero_le _
  lines _ g hg := by cases hg
  ranges _ g hg := by cases hg
  range _ _ := ⟨fun _ => rfl, fun h => absurd rfl h, le_rfl, nofun, Nat.zero_le _, nofun⟩

/-- The part parameter and the counter that a visit's values come from (R3, R172). -/
def State.SourcesInRange (s : State) : Prop :=
  (1 ≤ s.graceSeconds ∧ s.graceSeconds ≤ 60) ∧ 1 ≤ s.visitCounter ∧ s.visitCounter ≤ 65535

/-- The table is within its size and in order (R100). -/
def State.TypesSound (s : State) : Prop := s.types.length ≤ 64 ∧ ascending s.types

/-- An account number names one slot (R128). -/
def State.AccountsUnique (s : State) : Prop :=
  ∀ a b : AccountSlot, s.accounts[a].number ≠ 0 → s.accounts[a].number = s.accounts[b].number → a = b

/-- Every generation is in its ranges (R112, R113). -/
def State.GenerationsInRange (s : State) : Prop :=
  ∀ (t : TariffIndex) (g : Generation), s.tariffs[t].contents = some g → g.inRange

/-- What an event keeps outside the lanes: capacities and ranges, each on its own. -/
structure State.KeepsRest (s t : State) : Prop where
  responses : s.responses.length ≤ 4 → t.responses.length ≤ 4
  items : s.items.length ≤ 32 → t.items.length ≤ 32
  settlementQueue : s.settlementQueue.length ≤ 8 → t.settlementQueue.length ≤ 8
  types : s.TypesSound → t.TypesSound
  accounts : (∀ a : AccountSlot, s.accounts[a].inRange) → ∀ a : AccountSlot, t.accounts[a].inRange
  accountsUnique : s.AccountsUnique → t.AccountsUnique
  tariffs : s.GenerationsInRange → t.GenerationsInRange
  lossCount : s.lossCount ≤ 65535 → t.lossCount ≤ 65535
  sources : s.SourcesInRange → t.SourcesInRange
  aging : s.agingLimit ≤ 15 → t.agingLimit ≤ 15
  visits : ∀ v : VisitSlot, Visit.Keeps s.SourcesInRange s.visits[v] t.visits[v]

theorem State.KeepsRest.trans {s t u : State} (h : s.KeepsRest t) (h' : t.KeepsRest u) : s.KeepsRest u where
  responses := h'.responses ∘ h.responses
  items := h'.items ∘ h.items
  settlementQueue := h'.settlementQueue ∘ h.settlementQueue
  types := h'.types ∘ h.types
  accounts := h'.accounts ∘ h.accounts
  accountsUnique := h'.accountsUnique ∘ h.accountsUnique
  tariffs := h'.tariffs ∘ h.tariffs
  lossCount := h'.lossCount ∘ h.lossCount
  sources := h'.sources ∘ h.sources
  aging := h'.aging ∘ h.aging
  visits v := (h.visits v).trans (h'.visits v) h.sources

/-- The tables, queues and parameters outside lanes, visits and item records are as they were. -/
structure State.SameTables (s t : State) : Prop where
  responses : t.responses = s.responses
  settlementQueue : t.settlementQueue = s.settlementQueue
  types : t.types = s.types
  accounts : t.accounts = s.accounts
  tariffs : t.tariffs = s.tariffs
  graceSeconds : t.graceSeconds = s.graceSeconds
  visitCounter : t.visitCounter = s.visitCounter
  agingLimit : t.agingLimit = s.agingLimit

theorem State.KeepsRest.of_tables {s t : State} (h : s.SameTables t)
    (items : s.items.length ≤ 32 → t.items.length ≤ 32) (lossCount : s.lossCount ≤ 65535 → t.lossCount ≤ 65535)
    (visits : ∀ v : VisitSlot, Visit.Keeps s.SourcesInRange s.visits[v] t.visits[v]) : s.KeepsRest t where
  responses := by rw [h.responses]; exact id
  items := items
  settlementQueue := by rw [h.settlementQueue]; exact id
  types := by rw [State.TypesSound, State.TypesSound, h.types]; exact id
  accounts := by rw [h.accounts]; exact id
  accountsUnique := by rw [State.AccountsUnique, State.AccountsUnique, h.accounts]; exact id
  tariffs := by rw [State.GenerationsInRange, State.GenerationsInRange, h.tariffs]; exact id
  lossCount := lossCount
  sources := by rw [State.SourcesInRange, State.SourcesInRange, h.graceSeconds, h.visitCounter]; exact id
  aging := by rw [h.agingLimit]; exact id
  visits := visits

theorem State.KeepsRest.refl (s : State) : s.KeepsRest s :=
  .of_tables ⟨rfl, rfl, rfl, rfl, rfl, rfl, rfl, rfl⟩ id id (fun _ => .refl _ _)

/-- What an event keeps: capacities, ranges and stacks, each on its own. -/
structure State.Keeps (s t : State) : Prop where
  rest : s.KeepsRest t
  lanes : ∀ l : Lane, LanePort.Keeps s.lanes[l] t.lanes[l]

theorem State.Keeps.withinCapacity {s t : State} (h : s.Keeps t) (w : s.WithinCapacity) : t.WithinCapacity where
  responses := h.rest.responses w.responses
  items := h.rest.items w.items
  settlementQueue := h.rest.settlementQueue w.settlementQueue
  types := (h.rest.types ⟨w.types, w.ascending⟩).1
  ascending := (h.rest.types ⟨w.types, w.ascending⟩).2
  lanes l := ⟨(h.lanes l).queue (w.lanes l).1, (h.lanes l).tx (w.lanes l).2.1, (h.lanes l).pass (w.lanes l).2.2⟩
  segments v := (h.rest.visits v).count (w.segments v)
  lines v := (h.rest.visits v).lines (w.lines v)

theorem State.Keeps.inRange {s t : State} (h : s.Keeps t) (w : s.InRange) : t.InRange := by
  have sources := h.rest.sources ⟨w.grace, w.counter⟩
  exact {
    accounts := h.rest.accounts w.accounts
    visits := fun v => (h.rest.visits v).range ⟨w.grace, w.counter⟩ (w.visits v)
    segments := fun v => (h.rest.visits v).ranges (w.segments v)
    lanes := fun l => (h.lanes l).counters (w.lanes l)
    levels := fun l => (h.lanes l).level (w.levels l)
    tariffs := h.rest.tariffs w.tariffs
    lossCount := h.rest.lossCount w.lossCount
    counter := sources.2
    grace := sources.1
    aging := h.rest.aging w.aging }

/-! ## How events change lanes, tags and visit states together -/

/-- A lane that keeps its binding, its hold output, its queue and its Stack Context. -/
structure LanePort.SameLinks (p q : LanePort) : Prop where
  bound : ∀ u, q.state = .bound u ↔ p.state = .bound u
  hold : p.holdSound → q.holdSound
  queue : q.queue = p.queue
  context : q.context = p.context

/-- A record that keeps what lanes and tags know of it. -/
structure Visit.SameLinks (r r' : Visit) : Prop where
  number : r'.number = r.number
  state : r'.state = r.state
  laneSet : r'.laneSet = r.laneSet
  tagged : r'.tagged = r.tagged
  segments : r.segments.length ≤ r'.segments.length

theorem Visit.SameLinks.refl (r : Visit) : r.SameLinks r := ⟨rfl, rfl, rfl, rfl, le_rfl⟩

theorem Visit.SameLinks.trans {r r' r'' : Visit} (h : r.SameLinks r') (h' : r'.SameLinks r'') :
    r.SameLinks r'' :=
  ⟨h'.number.trans h.number, h'.state.trans h.state, h'.laneSet.trans h.laneSet, h'.tagged.trans h.tagged,
    h.segments.trans h'.segments⟩

/-- Reads leave lanes or are staged, their visits' tagged counts follow, and the visits listed enter SETTLING
(R6, R19, R22, R42). -/
structure State.Leaves (s t : State) (order : List VisitSlot) : Prop where
  bound : ∀ (l : Lane) u, t.lanes[l].state = .bound u ↔ s.lanes[l].state = .bound u
  hold : ∀ l : Lane, s.lanes[l].holdSound → t.lanes[l].holdSound
  queued : ∀ l : Lane, ∀ e ∈ t.lanes[l].queue, e ∈ s.lanes[l].queue
  staged : ∀ (l : Lane) (c : StackContext), t.lanes[l].context = some c →
    (∃ x, s.lanes[l].context = some x ∧ c.tag = x.tag ∧ c.segment = x.segment) ∨
      s.names c.tag ∧ c.segment < s.visits[c.tag.slot].segments.length
  nodup : order.Nodup
  number : ∀ v : VisitSlot, t.visits[v].number = s.visits[v].number
  laneSet : ∀ v : VisitSlot, t.visits[v].laneSet = s.visits[v].laneSet
  segments : ∀ v : VisitSlot, s.visits[v].segments.length ≤ t.visits[v].segments.length
  stays : ∀ v : VisitSlot, v ∉ order → t.visits[v].state = s.visits[v].state
  settles : ∀ v ∈ order, s.visits[v].state = .closing ∧ t.visits[v].state = .settling ∧ t.visits[v].tagged = 0
  wait : t.settleWait = s.settleWait ++ order.map s.visitTag
  tagged : s.TagsSound → ∀ v : VisitSlot, s.visits[v].state ≠ .free →
    t.visits[v].tagged = t.taggedItems (s.visitTag v)

/-- The lanes of one OPEN visit change, and it may leave OPEN (R7, R12, R15). -/
structure State.Rebinds (s t : State) (v : VisitSlot) : Prop where
  queue : ∀ l : Lane, t.lanes[l].queue = s.lanes[l].queue
  context : ∀ l : Lane, t.lanes[l].context = s.lanes[l].context
  others : ∀ w : VisitSlot, w ≠ v → t.visits[w] = s.visits[w]
  number : t.visits[v].number = s.visits[v].number
  opened : s.visits[v].state = .opened
  live : t.visits[v].state = .opened ∨ t.visits[v].state = .closing
  tagged : t.visits[v].tagged = s.visits[v].tagged
  segments : t.visits[v].segments = s.visits[v].segments
  wait : t.settleWait = s.settleWait
  bindings : s.BindingsSound → t.BindingsSound
  hold : s.BindingsSound → (∀ l : Lane, s.lanes[l].holdSound) → ∀ l : Lane, t.lanes[l].holdSound

/-- A FREE record becomes an OPEN visit under a number that no visit holds (R3, R9). -/
structure State.Opens (s t : State) (v : VisitSlot) : Prop where
  queue : ∀ l : Lane, t.lanes[l].queue = s.lanes[l].queue
  context : ∀ l : Lane, t.lanes[l].context = s.lanes[l].context
  others : ∀ w : VisitSlot, w ≠ v → t.visits[w] = s.visits[w]
  free : s.visits[v].state = .free
  opened : t.visits[v].state = .opened
  fresh : s.SourcesInRange → ∀ w : VisitSlot, s.visits[w].state ≠ .free → s.visits[w].number ≠ t.visits[v].number
  tagged : t.visits[v].tagged = 0
  segments : t.visits[v].segments ≠ []
  wait : t.settleWait = s.settleWait
  bindings : s.BindingsSound → t.BindingsSound
  hold : s.BindingsSound → (∀ l : Lane, s.lanes[l].holdSound) → ∀ l : Lane, t.lanes[l].holdSound

/-- OPEN and CLOSING visits return to FREE with their lanes and their tagged items (R24, R174). -/
structure State.Frees (s t : State) (gone : VisitSlot → Prop) : Prop where
  queued : ∀ l : Lane, ∀ e ∈ t.lanes[l].queue, e ∈ s.lanes[l].queue
  staged : ∀ (l : Lane) (c : StackContext), t.lanes[l].context = some c → s.lanes[l].context = some c
  live : ∀ v, gone v → s.visits[v].state = .opened ∨ s.visits[v].state = .closing
  freed : ∀ v, gone v → t.visits[v] = Visit.free
  others : ∀ v, ¬ gone v → t.visits[v] = s.visits[v]
  wait : t.settleWait = s.settleWait
  bindings : s.BindingsSound → t.BindingsSound
  hold : s.BindingsSound → (∀ l : Lane, s.lanes[l].holdSound) → ∀ l : Lane, t.lanes[l].holdSound
  untagged : s.TagsSound → ∀ l : Lane, ∀ e ∈ t.lanes[l].queue, ∀ u, e.tag = some u → ¬ gone u.slot
  tagged : s.TagsSound → ∀ v, ¬ gone v → s.visits[v].state ≠ .free →
    t.taggedItems (s.visitTag v) = s.taggedItems (s.visitTag v)

/-- The ways in which an event changes lanes, tags and visit states together. -/
inductive State.Links (s t : State) : Prop
  /-- Nothing that links them changes. -/
  | minor (lanes : ∀ l : Lane, LanePort.SameLinks s.lanes[l] t.lanes[l])
      (visits : ∀ v : VisitSlot, Visit.SameLinks s.visits[v] t.visits[v]) (wait : t.settleWait = s.settleWait)
  /-- Power-on reset (R178). -/
  | powerOn (same : t = s.powerOn)
  /-- Reads join a lane's queue under the lane's tag (R37, R38). -/
  | arrive (l : Lane) (es : List ReadEntry) (tags : ∀ e ∈ es, e.tag = s.lanes[l].tag)
      (same : t = s.acceptReads l es)
  /-- Reads leave lanes or are staged. -/
  | leave (order : List VisitSlot) (h : s.Leaves t order)
  /-- The lanes of an OPEN visit change. -/
  | rebind (v : VisitSlot) (h : s.Rebinds t v)
  /-- A visit opens. -/
  | opens (v : VisitSlot) (h : s.Opens t v)
  /-- Visits are cancelled. -/
  | frees (gone : VisitSlot → Prop) (h : s.Frees t gone)
  /-- The head of the settle-wait list is settled and freed (R148). -/
  | settled (v : VisitSlot) (lanes : ∀ l : Lane, LanePort.SameLinks s.lanes[l] t.lanes[l])
      (visits : t.visits = upd s.visits v (fun _ => Visit.free)) (settling : s.visits[v].state = .settling)
      (wait : s.settleWait = s.visitTag v :: t.settleWait)

/-- One change that an event makes. -/
structure State.Move (s t : State) : Prop where
  keeps : s.Keeps t
  links : s.Links t

/-- The changes that an event makes, one after another. -/
abbrev State.Moves : State → State → Prop := Relation.ReflTransGen State.Move

theorem LanePort.SameLinks.refl (p : LanePort) : p.SameLinks p := ⟨fun _ => Iff.rfl, id, rfl, rfl⟩

/-- A change of a field that is no lane, visit or settle-wait list. -/
theorem State.Move.aside {s t : State} (lanes : t.lanes = s.lanes) (visits : t.visits = s.visits)
    (wait : t.settleWait = s.settleWait) (rest : s.KeepsRest t) : s.Move t where
  keeps := ⟨rest, fun l => by rw [lanes]; exact .refl _⟩
  links := .minor (fun l => by rw [lanes]; exact .refl _) (fun v => by rw [visits]; exact .refl _) wait

theorem State.Moves.invariant {s t : State} {P : State → Prop} (h : s.Moves t)
    (step : ∀ s t, s.Move t → P s → P t) (start : P s) : P t := by
  induction h with
  | refl => exact start
  | tail _ m ih => exact step _ _ m ih

/-! ## The settle-wait list under a change -/

theorem State.mem_settleWait_iff {s : State} (h : s.SettleWaitExact) (t : VisitTag) :
    t ∈ s.settleWait ↔ s.visits[t.slot].state = .settling ∧ s.visitTag t.slot = t := by
  rw [h.2 t, State.visitTag]
  cases t
  simp

/-- `SettleWaitExact` from the tags of the visits that stand in SETTLING. -/
theorem State.settleWaitExact_of {s : State} (nodup : s.settleWait.Nodup)
    (mem : ∀ t, t ∈ s.settleWait ↔ s.visits[t.slot].state = .settling ∧ s.visitTag t.slot = t) :
    s.SettleWaitExact := by
  refine ⟨nodup, fun t => (mem t).trans ?_⟩
  rw [State.visitTag]
  cases t
  simp

theorem State.visitTag_injective (s : State) : Function.Injective s.visitTag := fun v w h => by
  have := congrArg VisitTag.slot h
  exact this

/-- The list stays exact where no visit enters or leaves SETTLING. -/
theorem State.SettleWaitExact.congr {s t : State} (h : s.SettleWaitExact) (wait : t.settleWait = s.settleWait)
    (same : ∀ v : VisitSlot, t.visits[v].state = .settling ↔ s.visits[v].state = .settling)
    (number : ∀ v : VisitSlot, s.visits[v].state = .settling → t.visits[v].number = s.visits[v].number) :
    t.SettleWaitExact := by
  refine ⟨wait ▸ h.1, fun u => ?_⟩
  rw [wait, h.2 u, same]
  exact and_congr_right fun hs => by rw [number u.slot hs]

theorem State.raiseTagged_visit (s : State) (t : Option VisitTag) (n : Nat) (v : VisitSlot) :
    ∃ k, (s.raiseTagged t n).visits[v] = { s.visits[v] with tagged := k } ∧
      (s.visits[v].state = .free → k = s.visits[v].tagged) := by
  cases t with
  | none => exact ⟨_, rfl, fun _ => rfl⟩
  | some t =>
    by_cases h : s.tagLive t = true
    · rw [s.raiseTagged_live h, State.modifyVisit_visits, upd_get]
      split
      · next e =>
        subst e
        exact ⟨_, rfl, fun f => absurd f ((s.tagLive_iff t).1 h).1⟩
      · exact ⟨_, rfl, fun _ => rfl⟩
    · rw [State.raiseTagged, if_neg h]
      exact ⟨_, rfl, fun _ => rfl⟩

theorem State.acceptReads_visit (s : State) (l : Lane) (es : List ReadEntry) (v : VisitSlot) :
    ∃ k, (s.acceptReads l es).visits[v] = { s.visits[v] with tagged := k } ∧
      (s.visits[v].state = .free → k = s.visits[v].tagged) :=
  State.raiseTagged_visit _ _ _ v

theorem State.acceptReads_frame (s : State) (l : Lane) (es : List ReadEntry) :
    ∃ visits, s.acceptReads l es = { s with
      lanes := upd s.lanes l (fun p =>
        LanePort.rehold { p with queue := p.queue ++ es, accepted := satAdd Config.top16 p.accepted es.length })
      visits := visits } := by
  unfold State.acceptReads
  obtain ⟨v, e⟩ := State.raiseTagged_frame (s.modifyLane l (fun p =>
    LanePort.rehold { p with queue := p.queue ++ es, accepted := satAdd Config.top16 p.accepted es.length }))
    s.lanes[l].tag es.length
  exact ⟨v, by rw [e]; rfl⟩

theorem State.Links.settleWaitExact {s t : State} (h : s.Links t) (w : s.SettleWaitExact) :
    t.SettleWaitExact := by
  cases h with
  | minor lanes visits wait =>
    exact w.congr wait (fun v => by rw [(visits v).state]) (fun v _ => (visits v).number)
  | powerOn same =>
    subst same
    refine ⟨List.nodup_nil, fun u => ?_⟩
    simp [State.powerOn, State.reset, Visit.free]
  | arrive l es tags same =>
    subst same
    have kept : ∀ v : VisitSlot, (s.acceptReads l es).visits[v].state = s.visits[v].state ∧
        (s.acceptReads l es).visits[v].number = s.visits[v].number := fun v => by
      obtain ⟨k, e, -⟩ := s.acceptReads_visit l es v
      rw [e]; exact ⟨rfl, rfl⟩
    obtain ⟨_, e⟩ := s.acceptReads_frame l es
    exact w.congr (by rw [e]) (fun v => by rw [(kept v).1]) (fun v _ => (kept v).2)
  | leave order h =>
    have tag : ∀ v, t.visitTag v = s.visitTag v := fun v => by rw [State.visitTag, State.visitTag, h.number]
    refine State.settleWaitExact_of ?_ fun u => ?_
    · rw [h.wait]
      refine w.1.append (h.nodup.map s.visitTag_injective) fun u hu hm => ?_
      obtain ⟨v, hv, rfl⟩ := List.mem_map.1 hm
      have settling : s.visits[v].state = .settling := ((s.mem_settleWait_iff w _).1 hu).1
      rw [(h.settles v hv).1] at settling
      cases settling
    · rw [h.wait, List.mem_append, s.mem_settleWait_iff w, tag]
      by_cases ho : u.slot ∈ order
      · obtain ⟨closing, settling, -⟩ := h.settles _ ho
        simp only [closing, settling, reduceCtorEq, false_and, false_or, true_and, List.mem_map]
        refine ⟨?_, fun e => ⟨u.slot, ho, e⟩⟩
        rintro ⟨v, -, e⟩
        rw [← e]; rfl
      · rw [h.stays _ ho]
        refine or_iff_left ?_
        rintro hm
        obtain ⟨v, hv, e⟩ := List.mem_map.1 hm
        rw [← e] at ho
        exact ho hv
  | rebind v h =>
    have state : ∀ w : VisitSlot, t.visits[w].state = .settling ↔ s.visits[w].state = .settling := fun w => by
      by_cases hw : w = v
      · subst hw
        rcases h.live with e | e <;> simp [-Fin.getElem_fin, e, h.opened]
      · rw [h.others w hw]
    refine w.congr h.wait state fun w _ => ?_
    by_cases hw : w = v
    · subst hw; exact h.number
    · rw [h.others w hw]
  | opens v h =>
    have state : ∀ w : VisitSlot, t.visits[w].state = .settling ↔ s.visits[w].state = .settling := fun w => by
      by_cases hw : w = v
      · subst hw; simp [-Fin.getElem_fin, h.opened, h.free]
      · rw [h.others w hw]
    refine w.congr h.wait state fun w hs => ?_
    by_cases hw : w = v
    · subst hw; rw [h.free] at hs; cases hs
    · rw [h.others w hw]
  | frees gone h =>
    have state : ∀ w : VisitSlot, t.visits[w].state = .settling ↔ s.visits[w].state = .settling := fun w => by
      by_cases hw : gone w
      · rw [h.freed w hw]
        rcases h.live w hw with e | e <;> simp [-Fin.getElem_fin, e, Visit.free]
      · rw [h.others w hw]
    refine w.congr h.wait state fun w hs => ?_
    by_cases hw : gone w
    · rcases h.live w hw with e | e <;> rw [e] at hs <;> cases hs
    · rw [h.others w hw]
  | settled v lanes visits settling wait =>
    have nodup := w.1
    rw [wait, List.nodup_cons] at nodup
    refine State.settleWaitExact_of nodup.2 fun u => ?_
    have old := s.mem_settleWait_iff w u
    rw [wait, List.mem_cons] at old
    rw [State.visitTag, visits]
    by_cases hu : u.slot = v
    · have absent : u ∉ t.settleWait := fun hm => by
        have e := (old.1 (.inr hm)).2
        rw [hu] at e
        exact nodup.1 (e ▸ hm)
      simp [hu, absent, Visit.free, -Fin.getElem_fin]
    · rw [upd_other _ _ _ _ hu]
      refine Iff.trans (or_iff_right fun e => hu ?_).symm old
      rw [e]; rfl

/-- The settle-wait list holds at most the 24 visits (R145). -/
theorem State.SettleWaitExact.length_le {s : State} (h : s.SettleWaitExact) : s.settleWait.length ≤ 24 := by
  have inj : (s.settleWait.map VisitTag.slot).Nodup := by
    refine List.Nodup.map_on (fun t ht u hu e => ?_) h.1
    rw [← ((s.mem_settleWait_iff h t).1 ht).2, ← ((s.mem_settleWait_iff h u).1 hu).2, e]
  have := inj.length_le_card
  rwa [List.length_map, Fintype.card_fin] at this

end Sys2Proof.Machine

/-! ## Numbers, bindings and tags under a change -/

namespace Sys2Proof.Machine

/-! ### Visit numbers -/

/-- Visit numbers stay unique where no record outside FREE is new or renumbered. -/
theorem State.NamesUnique.congr {s t : State} (h : s.NamesUnique) (accounts : t.AccountsUnique)
    (kept : ∀ v : VisitSlot, t.visits[v].state ≠ .free →
      s.visits[v].state ≠ .free ∧ t.visits[v].number = s.visits[v].number) : t.NamesUnique where
  visits v w hv hw e := by
    obtain ⟨hv', nv⟩ := kept v hv
    obtain ⟨hw', nw⟩ := kept w hw
    exact h.visits v w hv' hw' (by rw [← nv, ← nw, e])
  accounts := accounts

theorem State.Move.namesUnique {s t : State} (m : s.Move t) (sources : s.SourcesInRange) (h : s.NamesUnique) :
    t.NamesUnique := by
  have accounts := m.keeps.rest.accountsUnique h.accounts
  cases m.links with
  | minor lanes visits wait =>
    exact h.congr accounts fun v hv => ⟨by rw [← (visits v).state]; exact hv, (visits v).number⟩
  | powerOn same =>
    subst same
    exact h.congr accounts fun v hv => by simp [State.powerOn, State.reset, Visit.free] at hv
  | arrive l es tags same =>
    subst same
    refine h.congr accounts fun v hv => ?_
    obtain ⟨k, e, -⟩ := s.acceptReads_visit l es v
    rw [e] at hv ⊢
    exact ⟨hv, rfl⟩
  | leave order h' =>
    refine h.congr accounts fun v hv => ⟨?_, h'.number v⟩
    by_cases ho : v ∈ order
    · rw [(h'.settles v ho).1]; nofun
    · rw [← h'.stays v ho]; exact hv
  | rebind v h' =>
    refine h.congr accounts fun w hw => ?_
    by_cases e : w = v
    · subst e; exact ⟨by rw [h'.opened]; nofun, h'.number⟩
    · rw [h'.others w e] at hw ⊢; exact ⟨hw, rfl⟩
  | opens v h' =>
    have fresh := h'.fresh sources
    refine ⟨fun w x hw hx e => ?_, accounts⟩
    by_cases wv : w = v <;> by_cases xv : x = v
    · rw [wv, xv]
    · subst wv
      rw [h'.others x xv] at hx e
      exact absurd e.symm (fresh x hx)
    · subst xv
      rw [h'.others w wv] at hw e
      exact absurd e (fresh w hw)
    · rw [h'.others w wv] at hw e
      rw [h'.others x xv] at hx e
      exact h.visits w x hw hx e
  | frees gone h' =>
    refine h.congr accounts fun w hw => ?_
    by_cases e : gone w
    · rw [h'.freed w e] at hw; exact absurd rfl hw
    · rw [h'.others w e] at hw ⊢; exact ⟨hw, rfl⟩
  | settled v lanes visits settling wait =>
    refine h.congr accounts fun w hw => ?_
    rw [visits, upd_get] at hw ⊢
    by_cases e : w = v
    · rw [if_pos e] at hw; exact absurd rfl hw
    · rw [if_neg e] at hw ⊢; exact ⟨hw, rfl⟩

/-! ### Bindings and hold outputs -/

theorem inSet_zero (l : Lane) : inSet 0 l = false := by simp [inSet]

/-- Bindings stay sound where lanes keep their visits, visits their lanes and numbers. -/
theorem State.BindingsSound.congr {s t : State} (h : s.BindingsSound)
    (bound : ∀ (l : Lane) u, t.lanes[l].state = .bound u ↔ s.lanes[l].state = .bound u)
    (number : ∀ v : VisitSlot, t.visits[v].number = s.visits[v].number)
    (laneSet : ∀ v : VisitSlot, t.visits[v].laneSet = s.visits[v].laneSet)
    (opened : ∀ v : VisitSlot, t.visits[v].state ≠ .opened → s.visits[v].state ≠ .opened) : t.BindingsSound := by
  have tag : ∀ v, t.visitTag v = s.visitTag v := fun v => by rw [State.visitTag, State.visitTag, number]
  refine ⟨fun v hv => ?_, fun v l hl => ?_, fun l u hu => ?_⟩
  · rw [laneSet]; exact h.onlyOpen v (opened v hv)
  · rw [laneSet] at hl; rw [tag]; exact (bound l _).2 (h.bound v l hl)
  · rw [tag, laneSet]; exact h.member l u ((bound l u).1 hu)

theorem State.powerOn_lane (s : State) (l : Lane) : s.powerOn.lanes[l] = LanePort.reset := by
  simp [State.powerOn, State.reset]

theorem State.powerOn_visit (s : State) (v : VisitSlot) : s.powerOn.visits[v] = Visit.free := by
  simp [State.powerOn, State.reset]

/-- A lane belongs to a visit at most, and hold follows its queue (R7, R31, R35). -/
structure State.LanesSound (s : State) : Prop where
  bindings : s.BindingsSound
  hold : ∀ l : Lane, s.lanes[l].holdSound

theorem LanePort.rehold_holdSound (p : LanePort) : p.rehold.holdSound := by
  rw [LanePort.rehold_eq]
  exact LanePort.holdSound_of_holdFor (p := p) Iff.rfl rfl

/-- An arrival leaves every lane's state, and hold follows the queue that grew (R35). -/
theorem State.acceptReads_port (s : State) (l m : Lane) (es : List ReadEntry) :
    (s.acceptReads l es).lanes[m].state = s.lanes[m].state ∧
      (s.lanes[m].holdSound → (s.acceptReads l es).lanes[m].holdSound) := by
  obtain ⟨visits, e⟩ := s.acceptReads_frame l es
  rw [e]
  simp only [upd_get]
  split
  · next e => subst e; exact ⟨rfl, fun _ => LanePort.rehold_holdSound _⟩
  · exact ⟨rfl, id⟩

theorem State.Links.bindingsSound {s t : State} (h : s.Links t) (w : s.BindingsSound) : t.BindingsSound := by
  cases h with
  | minor lanes visits wait =>
    exact w.congr (fun l => (lanes l).bound) (fun v => (visits v).number) (fun v => (visits v).laneSet)
      (fun v => by rw [(visits v).state]; exact id)
  | powerOn same =>
    subst same
    refine ⟨fun v _ => ?_, fun v l hl => ?_, fun l u hu => ?_⟩
    · rw [State.powerOn_visit]; rfl
    · rw [State.powerOn_visit] at hl; rw [Visit.free, inSet_zero] at hl; cases hl
    · rw [State.powerOn_lane] at hu; cases hu
  | arrive l es tags same =>
    subst same
    have visit : ∀ v : VisitSlot, ∃ k, (s.acceptReads l es).visits[v] = { s.visits[v] with tagged := k } :=
      fun v => (s.acceptReads_visit l es v).imp fun _ => And.left
    refine w.congr (fun m u => by rw [(s.acceptReads_port l m es).1]) (fun v => ?_) (fun v => ?_) (fun v => ?_)
    · obtain ⟨k, e⟩ := visit v; rw [e]
    · obtain ⟨k, e⟩ := visit v; rw [e]
    · obtain ⟨k, e⟩ := visit v; rw [e]; exact id
  | leave order h =>
    refine w.congr h.bound h.number h.laneSet fun v hv ho => hv ?_
    rw [h.stays v fun hm => by rw [(h.settles v hm).1] at ho; cases ho]
    exact ho
  | rebind v h => exact h.bindings w
  | opens v h => exact h.bindings w
  | frees gone h => exact h.bindings w
  | settled v lanes visits settling wait =>
    have unset : s.visits[v].laneSet = 0 := w.onlyOpen v (by rw [settling]; nofun)
    refine ⟨fun x hx => ?_, fun x l hl => ?_, fun l u hu => ?_⟩
    · rw [visits, upd_get] at hx ⊢
      by_cases e : x = v
      · rw [if_pos e]; rfl
      · rw [if_neg e] at hx ⊢; exact w.onlyOpen x hx
    · rw [visits, upd_get] at hl
      by_cases e : x = v
      · rw [if_pos e, Visit.free, inSet_zero] at hl; cases hl
      · rw [if_neg e] at hl
        rw [(lanes l).bound, State.visitTag, visits, upd_other _ _ _ _ e]
        exact w.bound x l hl
    · obtain ⟨tag, mem⟩ := w.member l u (((lanes l).bound u).1 hu)
      have e : u.slot ≠ v := fun e => by
        subst e
        rw [unset, inSet_zero] at mem
        cases mem
      rw [State.visitTag, visits, upd_other _ _ _ _ e]
      exact ⟨tag, mem⟩

theorem State.Links.lanesSound {s t : State} (h : s.Links t) (w : s.LanesSound) : t.LanesSound := by
  refine ⟨h.bindingsSound w.bindings, fun l => ?_⟩
  obtain ⟨bindings, hold⟩ := w
  cases h with
  | minor lanes visits wait => exact (lanes l).hold (hold l)
  | powerOn same =>
    subst same
    rw [State.powerOn_lane]
    exact ⟨fun _ => rfl, fun h => absurd rfl h⟩
  | arrive m es tags same =>
    subst same
    exact (s.acceptReads_port m l es).2 (hold l)
  | leave order h => exact h.hold l (hold l)
  | rebind v h => exact h.hold bindings hold l
  | opens v h => exact h.hold bindings hold l
  | frees gone h => exact h.hold bindings hold l
  | settled v lanes visits settling wait => exact (lanes l).hold (hold l)

/-! ### Tagged items -/

theorem LanePort.chosenCount_congr {p q : LanePort} (c : Choice) (queue : q.queue = p.queue)
    (context : q.context = p.context) : q.chosenCount c = p.chosenCount c := by
  rw [LanePort.chosenCount, LanePort.chosenCount, LanePort.chosenStaged, LanePort.chosenStaged, queue, context]

theorem State.taggedItems_congr {s t : State} (u : VisitTag)
    (same : ∀ l : Lane, t.lanes[l].chosenCount (Choice.ofVisit u) = s.lanes[l].chosenCount (Choice.ofVisit u)) :
    t.taggedItems u = s.taggedItems u := by
  unfold State.taggedItems
  rw [List.map_congr_left fun l _ => same l]

theorem LanePort.chosenCount_eq_zero {p : LanePort} {u : VisitTag}
    (staged : ∀ c, p.context = some c → c.tag ≠ u) (queued : ∀ e ∈ p.queue, e.tag ≠ some u) :
    p.chosenCount (Choice.ofVisit u) = 0 := by
  have none : p.chosenStaged (Choice.ofVisit u) = [] := by
    unfold LanePort.chosenStaged
    cases h : p.context with
    | none => rfl
    | some c => simp [Choice.ofVisit, staged c h]
  have nil : p.queue.filter (Choice.ofVisit u).queued = [] :=
    List.filter_eq_nil_iff.2 fun e he => by simpa [Choice.ofVisit] using queued e he
  rw [LanePort.chosenCount, none, nil]
  rfl

theorem State.taggedItems_eq_zero {s : State} {u : VisitTag}
    (zero : ∀ l : Lane, s.lanes[l].chosenCount (Choice.ofVisit u) = 0) : s.taggedItems u = 0 := by
  unfold State.taggedItems
  rw [List.sum_eq_zero_iff]
  intro n hn
  obtain ⟨l, -, rfl⟩ := List.mem_map.1 hn
  exact zero l

theorem State.chosenCount_le_taggedItems (s : State) (l : Lane) (u : VisitTag) :
    s.lanes[l].chosenCount (Choice.ofVisit u) ≤ s.taggedItems u :=
  List.le_sum_of_mem (List.mem_map.2 ⟨l, mem_allLanes l, rfl⟩)

theorem LanePort.one_le_chosenCount {p : LanePort} {u : VisitTag} {e : ReadEntry} (he : e ∈ p.queue)
    (ht : e.tag = some u) : 1 ≤ p.chosenCount (Choice.ofVisit u) := by
  have mem : e ∈ p.queue.filter (Choice.ofVisit u).queued := List.mem_filter.2 ⟨he, by simp [Choice.ofVisit, ht]⟩
  have := List.length_pos_of_mem mem
  rw [LanePort.chosenCount]
  omega

theorem LanePort.StacksSound.one_le_chosenCount_staged {p : LanePort} (h : p.StacksSound) {c : StackContext}
    (hc : p.context = some c) : 1 ≤ p.chosenCount (Choice.ofVisit c.tag) := by
  obtain ⟨e, rest, m, hq, ht, -⟩ := h.staged c hc
  exact LanePort.one_le_chosenCount (by rw [hq]; exact List.mem_cons_self) ht

/-- Sums over a list that differ in one place. -/
theorem sum_map_except {α : Type} {ls : List α} (nd : ls.Nodup) {a : α} (ha : a ∈ ls) (f g : α → Nat)
    (same : ∀ b, b ≠ a → f b = g b) : (ls.map f).sum + g a = (ls.map g).sum + f a := by
  induction ls with
  | nil => cases ha
  | cons b ls ih =>
    obtain ⟨hb, nd⟩ := List.nodup_cons.1 nd
    rw [List.map_cons, List.map_cons, List.sum_cons, List.sum_cons]
    rcases List.mem_cons.1 ha with rfl | ha
    · rw [List.map_congr_left (g := g) fun c hc => same c fun e => hb (e ▸ hc)]
      omega
    · have := ih nd ha
      rw [same b fun e => hb (e ▸ ha)]
      omega

/-- The tagged items of two states whose lanes differ in one. -/
theorem State.taggedItems_except {s t : State} (l : Lane) (u : VisitTag)
    (same : ∀ m : Lane, m ≠ l →
      t.lanes[m].chosenCount (Choice.ofVisit u) = s.lanes[m].chosenCount (Choice.ofVisit u)) :
    t.taggedItems u + s.lanes[l].chosenCount (Choice.ofVisit u) =
      s.taggedItems u + t.lanes[l].chosenCount (Choice.ofVisit u) :=
  sum_map_except allLanes_nodup (mem_allLanes l) _ _ same

theorem State.TagsSound.taggedItems_eq_zero {s : State} (h : s.TagsSound) {u : VisitTag} (hu : ¬ s.names u) :
    s.taggedItems u = 0 :=
  State.taggedItems_eq_zero fun l => LanePort.chosenCount_eq_zero
    (fun c hc e => hu (e ▸ (h.staged l c hc).1)) (fun e he ht => hu (h.queued l e he u ht))

theorem State.not_names_of_state {s : State} {u : VisitTag}
    (h : s.visits[u.slot].state = .free ∨ s.visits[u.slot].state = .settling) : ¬ s.names u := by
  rintro ⟨live, -⟩
  rcases h with h | h <;> rw [h] at live <;> rcases live with e | e <;> cases e

theorem State.names_slot {s : State} {u : VisitTag} (h : s.names u) : s.visitTag u.slot = u := by
  rw [State.visitTag, h.2]

theorem State.names_congr {s t : State} {u : VisitTag} (h : s.names u)
    (state : t.visits[u.slot].state = s.visits[u.slot].state)
    (number : t.visits[u.slot].number = s.visits[u.slot].number) : t.names u := by
  unfold State.names
  rw [state, number]
  exact h

/-- Tags stay sound where reads and items stay in their lanes, and live visits live with their counts. -/
theorem State.TagsSound.congr {s t : State} (h : s.TagsSound) (bindings : t.BindingsSound)
    (queue : ∀ l : Lane, t.lanes[l].queue = s.lanes[l].queue)
    (context : ∀ l : Lane, t.lanes[l].context = s.lanes[l].context)
    (live : ∀ u, s.names u → t.names u ∧
      s.visits[u.slot].segments.length ≤ t.visits[u.slot].segments.length)
    (segments : ∀ v : VisitSlot, t.visits[v].state = .opened ∨ t.visits[v].state = .closing →
      t.visits[v].segments ≠ [])
    (tagged : ∀ v : VisitSlot, t.visits[v].state ≠ .free →
      t.visits[v].tagged = s.taggedItems (t.visitTag v)) : t.TagsSound where
  bindings := bindings
  whole l := (h.whole l).congr (queue l) (context l)
  queued l e he u hu := (live u (h.queued l e (queue l ▸ he) u hu)).1
  staged l c hc := by
    obtain ⟨names, below⟩ := h.staged l c (context l ▸ hc)
    obtain ⟨names', grows⟩ := live _ names
    exact ⟨names', below.trans_le grows⟩
  segments := segments
  tagged v hv := by
    rw [tagged v hv, State.taggedItems_congr _ fun l => LanePort.chosenCount_congr _ (queue l) (context l)]

theorem ne_nil_of_length_le {α β : Type} {as : List α} {bs : List β} (ha : as ≠ [])
    (h : as.length ≤ bs.length) : bs ≠ [] := by
  rintro rfl
  exact ha (List.eq_nil_of_length_eq_zero (Nat.le_zero.1 h))

theorem State.Leaves.tagsSound {s t : State} {order : List VisitSlot} (h : s.Leaves t order) (w : s.TagsSound)
    (bindings : t.BindingsSound) (whole : ∀ l : Lane, t.lanes[l].StacksSound) : t.TagsSound := by
  have tag : ∀ v, t.visitTag v = s.visitTag v := fun v => by rw [State.visitTag, State.visitTag, h.number]
  have live : ∀ v : VisitSlot, t.visits[v].state ≠ .free → s.visits[v].state ≠ .free := fun v hv => by
    by_cases ho : v ∈ order
    · rw [(h.settles v ho).1]; nofun
    · rw [← h.stays v ho]; exact hv
  have names : ∀ u, s.names u → ∀ l : Lane, 1 ≤ t.lanes[l].chosenCount (Choice.ofVisit u) → t.names u := by
    intro u hu l hl
    have items := hl.trans (t.chosenCount_le_taggedItems l u)
    have stays : u.slot ∉ order := fun ho => by
      have zero := (h.settles _ ho).2.2
      rw [h.tagged w u.slot (by rw [(h.settles _ ho).1]; nofun), s.names_slot hu] at zero
      omega
    exact s.names_congr hu (h.stays _ stays) (h.number _)
  refine ⟨bindings, whole, fun l e he u hu => ?_, fun l c hc => ?_, fun v hv => ?_, fun v hv => ?_⟩
  · exact names u (w.queued l e (h.queued l e he) u hu) l (LanePort.one_le_chosenCount he hu)
  · have old : s.names c.tag ∧ c.segment < s.visits[c.tag.slot].segments.length := by
      rcases h.staged l c hc with ⟨x, hx, ht, hs⟩ | new
      · obtain ⟨live, below⟩ := w.staged l x hx
        refine ⟨ht ▸ live, ?_⟩
        simp only [ht, hs]
        exact below
      · exact new
    exact ⟨names _ old.1 l ((whole l).one_le_chosenCount_staged hc), old.2.trans_le (h.segments _)⟩
  · have stays : v ∉ order := fun ho => by
      rw [(h.settles v ho).2.1] at hv; rcases hv with e | e <;> cases e
    rw [h.stays v stays] at hv
    exact ne_nil_of_length_le (w.segments v hv) (h.segments v)
  · rw [tag]; exact h.tagged w v (live v hv)

theorem State.acceptReads_lane (s : State) (l m : Lane) (es : List ReadEntry) :
    (s.acceptReads l es).lanes[m].queue = (if m = l then s.lanes[m].queue ++ es else s.lanes[m].queue) ∧
      (s.acceptReads l es).lanes[m].context = s.lanes[m].context := by
  obtain ⟨visits, e⟩ := s.acceptReads_frame l es
  rw [e]
  simp only [upd_get]
  split
  · next e => subst e; exact ⟨rfl, rfl⟩
  · exact ⟨rfl, rfl⟩

/-- The visit of a BOUND lane is OPEN under the tag's number (R7, R31). -/
theorem State.BindingsSound.names_of_tag {s : State} (h : s.BindingsSound) {l : Lane} {u : VisitTag}
    (hu : s.lanes[l].tag = some u) : s.names u ∧ s.visits[u.slot].state = .opened := by
  have bound : s.lanes[l].state = .bound u := by
    unfold LanePort.tag at hu
    split at hu
    · next e => cases hu; exact e
    · cases hu
  obtain ⟨tag, mem⟩ := h.member l u bound
  have opened : s.visits[u.slot].state = .opened := by
    by_contra closed
    rw [h.onlyOpen _ closed, inSet_zero] at mem
    cases mem
  exact ⟨⟨.inl opened, (congrArg VisitTag.number tag).symm⟩, opened⟩

theorem State.acceptReads_tagsSound {s : State} {l : Lane} {es : List ReadEntry}
    (tags : ∀ e ∈ es, e.tag = s.lanes[l].tag) (w : s.TagsSound) (bindings : (s.acceptReads l es).BindingsSound)
    (whole : ∀ m : Lane, (s.acceptReads l es).lanes[m].StacksSound) : (s.acceptReads l es).TagsSound := by
  have visit := s.acceptReads_visit l es
  have state : ∀ v : VisitSlot, (s.acceptReads l es).visits[v].state = s.visits[v].state := fun v => by
    obtain ⟨k, e, -⟩ := visit v; rw [e]
  have number : ∀ v : VisitSlot, (s.acceptReads l es).visits[v].number = s.visits[v].number := fun v => by
    obtain ⟨k, e, -⟩ := visit v; rw [e]
  have segments : ∀ v : VisitSlot, (s.acceptReads l es).visits[v].segments = s.visits[v].segments := fun v => by
    obtain ⟨k, e, -⟩ := visit v; rw [e]
  have lane := s.acceptReads_lane l (es := es)
  have count : ∀ u, (s.acceptReads l es).taggedItems u =
      s.taggedItems u + if s.lanes[l].tag = some u then es.length else 0 := by
    intro u
    have except := State.taggedItems_except (s := s) (t := s.acceptReads l es) l u fun m hm =>
      LanePort.chosenCount_congr _ (by rw [(lane m).1, if_neg hm]) (lane m).2
    have here : (s.acceptReads l es).lanes[l].chosenCount (Choice.ofVisit u) =
        s.lanes[l].chosenCount (Choice.ofVisit u) + if s.lanes[l].tag = some u then es.length else 0 := by
      rw [LanePort.chosenCount, LanePort.chosenCount, LanePort.chosenStaged, LanePort.chosenStaged, (lane l).1,
        (lane l).2, if_pos rfl, List.filter_append, List.length_append]
      have chosen : ∀ e ∈ es, (Choice.ofVisit u).queued e = decide (s.lanes[l].tag = some u) := fun e he => by
        simp only [Choice.ofVisit, tags e he]
        exact Bool.eq_iff_iff.2 (by rw [beq_iff_eq, decide_eq_true_iff])
      have joined : (es.filter (Choice.ofVisit u).queued).length =
          if s.lanes[l].tag = some u then es.length else 0 := by
        rw [List.filter_congr chosen]
        by_cases hu : s.lanes[l].tag = some u
        · rw [if_pos hu, decide_eq_true hu, List.filter_true]
        · rw [if_neg hu, decide_eq_false hu, List.filter_false]
          rfl
      rw [joined]
      omega
    omega
  have raised : ∀ v : VisitSlot, s.visits[v].state ≠ .free → (s.acceptReads l es).visits[v].tagged =
      s.visits[v].tagged + if s.lanes[l].tag = some (s.visitTag v) then es.length else 0 := by
    intro v hv
    unfold State.acceptReads
    cases ht : s.lanes[l].tag with
    | none => rfl
    | some u =>
      obtain ⟨names, -⟩ := w.bindings.names_of_tag ht
      rw [State.raiseTagged_live _ (by exact s.tagLive_of_names names), State.modifyVisit_visits, upd_get]
      by_cases e : v = u.slot
      · subst e
        rw [if_pos rfl, s.names_slot names, if_pos rfl]
        rfl
      · rw [if_neg e, if_neg (by rintro ⟨⟩; exact e rfl)]
        rfl
  refine ⟨bindings, whole, fun m e he u hu => ?_, fun m c hc => ?_, fun v hv => ?_, fun v hv => ?_⟩
  · refine s.names_congr ?_ (state _) (number _)
    rw [(lane m).1] at he
    split at he
    · next e' =>
      subst e'
      rcases List.mem_append.1 he with he | he
      · exact w.queued m e he u hu
      · exact (w.bindings.names_of_tag ((tags e he).symm.trans hu)).1
    · exact w.queued m e he u hu
  · rw [(lane m).2] at hc
    obtain ⟨names, below⟩ := w.staged m c hc
    exact ⟨s.names_congr names (state _) (number _), by rw [segments]; exact below⟩
  · rw [state] at hv; rw [segments]; exact w.segments v hv
  · rw [state] at hv
    rw [State.visitTag, number, raised v hv, w.tagged v hv, count]
    rfl

theorem State.Frees.tagsSound {s t : State} {gone : VisitSlot → Prop} (h : s.Frees t gone) (w : s.TagsSound)
    (whole : ∀ l : Lane, t.lanes[l].StacksSound) : t.TagsSound := by
  have names : ∀ u, s.names u → ¬ gone u.slot → t.names u := fun u hu hg =>
    s.names_congr hu (by rw [h.others _ hg]) (by rw [h.others _ hg])
  refine ⟨h.bindings w.bindings, whole, fun l e he u hu => ?_, fun l c hc => ?_, fun v hv => ?_, fun v hv => ?_⟩
  · exact names u (w.queued l e (h.queued l e he) u hu) (h.untagged w l e he u hu)
  · obtain ⟨live, below⟩ := w.staged l c (h.staged l c hc)
    obtain ⟨e, rest, m, hq, ht, -⟩ := (whole l).staged c hc
    have stays := h.untagged w l e (by rw [hq]; exact List.mem_cons_self) c.tag ht
    exact ⟨names _ live stays, by rw [h.others _ stays]; exact below⟩
  · by_cases hg : gone v
    · rw [h.freed v hg] at hv; rcases hv with e | e <;> cases e
    · rw [h.others v hg] at hv ⊢; exact w.segments v hv
  · by_cases hg : gone v
    · rw [h.freed v hg] at hv; exact absurd rfl hv
    · have tag : t.visitTag v = s.visitTag v := by rw [State.visitTag, h.others v hg, State.visitTag]
      rw [h.others v hg] at hv
      rw [tag, h.others v hg, h.tagged w v hg hv]
      exact w.tagged v hv

theorem State.Opens.tagsSound {s t : State} {v : VisitSlot} (h : s.Opens t v) (w : s.TagsSound) :
    t.TagsSound := by
  have other : ∀ u, s.names u → u.slot ≠ v := fun u hu e => by
    subst e
    exact State.not_names_of_state (.inl h.free) hu
  refine w.congr (h.bindings w.bindings) h.queue h.context (fun u hu => ?_) (fun x hx => ?_) (fun x hx => ?_)
  · have e := h.others _ (other u hu)
    exact ⟨s.names_congr hu (by rw [e]) (by rw [e]), by rw [e]⟩
  · by_cases e : x = v
    · subst e; exact h.segments
    · rw [h.others x e] at hx ⊢; exact w.segments x hx
  · by_cases e : x = v
    · subst e
      rw [h.tagged]
      exact (w.taggedItems_eq_zero (State.not_names_of_state (.inl h.free))).symm
    · have tag : t.visitTag x = s.visitTag x := by rw [State.visitTag, h.others x e, State.visitTag]
      rw [h.others x e] at hx
      rw [tag, h.others x e]; exact w.tagged x hx

theorem State.Rebinds.tagsSound {s t : State} {v : VisitSlot} (h : s.Rebinds t v) (w : s.TagsSound) :
    t.TagsSound := by
  refine w.congr (h.bindings w.bindings) h.queue h.context (fun u hu => ?_) (fun x hx => ?_) (fun x hx => ?_)
  · by_cases e : u.slot = v
    · refine ⟨⟨?_, ?_⟩, ?_⟩
      · simp only [e]; exact h.live
      · have := hu.2; simp only [e] at this ⊢; rw [h.number, this]
      · simp only [e, h.segments]; exact le_rfl
    · have same := h.others _ e
      exact ⟨s.names_congr hu (by rw [same]) (by rw [same]), by rw [same]⟩
  · by_cases e : x = v
    · subst e; rw [h.segments]; exact w.segments x (.inl h.opened)
    · rw [h.others x e] at hx ⊢; exact w.segments x hx
  · by_cases e : x = v
    · subst e
      rw [h.tagged, State.visitTag, h.number]
      exact w.tagged x (by rw [h.opened]; nofun)
    · have tag : t.visitTag x = s.visitTag x := by rw [State.visitTag, h.others x e, State.visitTag]
      rw [h.others x e] at hx
      rw [tag, h.others x e]; exact w.tagged x hx

/-- A state without visits, tags and bindings. -/
theorem State.powerOn_tagsSound (s : State) (bindings : s.powerOn.BindingsSound) : s.powerOn.TagsSound where
  bindings := bindings
  whole l := by rw [State.powerOn_lane]; exact LanePort.stacksSound_empty rfl rfl
  queued l e he := by rw [State.powerOn_lane] at he; cases he
  staged l c hc := by rw [State.powerOn_lane] at hc; cases hc
  segments v hv := by rw [State.powerOn_visit] at hv; rcases hv with e | e <;> cases e
  tagged v hv := by rw [State.powerOn_visit] at hv; exact absurd rfl hv

theorem State.Move.tagsSound {s t : State} (m : s.Move t) (w : s.TagsSound) : t.TagsSound := by
  have whole : ∀ l : Lane, t.lanes[l].StacksSound := fun l => (m.keeps.lanes l).sound (w.whole l)
  have bindings := m.links.bindingsSound w.bindings
  cases m.links with
  | minor lanes visits wait =>
    refine w.congr bindings (fun l => (lanes l).queue) (fun l => (lanes l).context)
      (fun u hu => ⟨s.names_congr hu (visits _).state (visits _).number, (visits _).segments⟩)
      (fun v hv => ?_) (fun v hv => ?_)
    · rw [(visits v).state] at hv
      exact ne_nil_of_length_le (w.segments v hv) (visits v).segments
    · rw [(visits v).state] at hv
      rw [(visits v).tagged, State.visitTag, (visits v).number]
      exact w.tagged v hv
  | powerOn same => subst same; exact s.powerOn_tagsSound bindings
  | arrive l es tags same => subst same; exact State.acceptReads_tagsSound tags w bindings whole
  | leave order h => exact h.tagsSound w bindings whole
  | rebind v h => exact h.tagsSound w
  | opens v h => exact h.tagsSound w
  | frees gone h => exact h.tagsSound w whole
  | settled v lanes visits settling wait =>
    have other : ∀ u, s.names u → u.slot ≠ v := fun u hu e => by
      subst e
      exact State.not_names_of_state (.inr settling) hu
    have same : ∀ x : VisitSlot, x ≠ v → t.visits[x] = s.visits[x] := fun x hx => by
      rw [visits]; exact upd_other _ _ _ _ hx
    have freed : t.visits[v] = Visit.free := by rw [visits, upd_same]
    refine w.congr bindings (fun l => (lanes l).queue) (fun l => (lanes l).context) (fun u hu => ?_)
      (fun x hx => ?_) (fun x hx => ?_)
    · have e := same _ (other u hu)
      exact ⟨s.names_congr hu (by rw [e]) (by rw [e]), by rw [e]⟩
    · by_cases e : x = v
      · subst e; rw [freed] at hx; rcases hx with e | e <;> cases e
      · rw [same x e] at hx ⊢; exact w.segments x hx
    · by_cases e : x = v
      · subst e; rw [freed] at hx; exact absurd rfl hx
      · have tag : t.visitTag x = s.visitTag x := by rw [State.visitTag, same x e, State.visitTag]
        rw [same x e] at hx
        rw [tag, same x e]; exact w.tagged x hx

end Sys2Proof.Machine

/-! ## Power-on reset, and the requests that only report -/

namespace Sys2Proof.Machine

/-! ### Power-on reset -/

theorem State.reset_lane (l : Lane) : State.reset.lanes[l] = LanePort.reset := by simp [State.reset]

theorem State.reset_visit (v : VisitSlot) : State.reset.visits[v] = Visit.free := by simp [State.reset]

theorem State.reset_account (a : AccountSlot) : State.reset.accounts[a] = Account.empty := by simp [State.reset]

theorem State.reset_tariff (i : TariffIndex) : State.reset.tariffs[i] = .empty := by simp [State.reset]

theorem State.reset_laneMask (l : Lane) : State.reset.laneMasks[l] = 0 := by simp [State.reset]

/-- The state after power-on reset has the visits and the lanes of `State.reset` (R178). -/
theorem State.reset_powerOn : State.reset.powerOn = State.reset := rfl

theorem State.reset_withinCapacity : State.reset.WithinCapacity where
  responses := Nat.zero_le _
  items := Nat.zero_le _
  settlementQueue := Nat.zero_le _
  types := Nat.zero_le _
  ascending := List.Pairwise.nil
  lanes l := by rw [State.reset_lane]; exact ⟨Nat.zero_le _, Nat.zero_le _, Nat.zero_le _⟩
  segments v := by rw [State.reset_visit]; exact Nat.zero_le _
  lines v g hg := by rw [State.reset_visit] at hg; cases hg

theorem State.reset_attentionTrue : State.reset.attentionTrue := by
  refine ⟨nofun, ?_⟩
  rintro (⟨f, latched, -⟩ | ⟨l, f, latched, -⟩)
  · simp [State.reset] at latched
  · rw [State.reset_lane] at latched; simp [LanePort.reset] at latched

theorem State.reset_useCountsExact : State.reset.UseCountsExact where
  free v _ := by rw [State.reset_visit]; rfl
  exact a := by
    have none : allVisits.map (fun v => State.reset.visits[v].uses a) = allVisits.map (fun _ => 0) :=
      List.map_congr_left fun v _ => by rw [State.reset_visit]; rfl
    rw [State.reset_account, State.usesOf, none]
    simp [Account.empty]
  empty a _ := by rw [State.reset_account]; rfl

theorem State.reset_tariffsSound : State.reset.TariffsSound where
  oneActive h := by rw [State.reset_tariff] at h; exact nomatch h.1
  retiring i h := by rw [State.reset_tariff] at h; cases h
  pins i := by
    have none : allVisits.countP (fun v => State.reset.visits[v].pin.any (fun p => p.slot == i)) = 0 :=
      List.countP_eq_zero.2 fun v _ => by rw [State.reset_visit]; simp [Visit.free]
    rw [State.reset_tariff, State.pinsOf, none]
    rfl
  free v _ := by rw [State.reset_visit]; rfl
  held v h := by rw [State.reset_visit] at h; exact absurd rfl h

theorem State.reset_lanesSound : State.reset.LanesSound where
  bindings := by
    refine ⟨fun v _ => ?_, fun v l hl => ?_, fun l u hu => ?_⟩
    · rw [State.reset_visit]; rfl
    · rw [State.reset_visit, Visit.free, inSet_zero] at hl; cases hl
    · rw [State.reset_lane] at hu; cases hu
  hold l := by rw [State.reset_lane]; exact ⟨fun _ => rfl, fun h => absurd rfl h⟩

theorem State.reset_settleWaitExact : State.reset.SettleWaitExact :=
  ⟨List.nodup_nil, fun u => by rw [State.reset_visit]; simp [State.reset, Visit.free]⟩

theorem Account.empty_inRange : Account.empty.inRange := by
  refine ⟨Nat.zero_le _, fun f => ?_, Nat.zero_le _, Nat.zero_le _, Nat.zero_le _⟩
  simp [Account.empty]

theorem Visit.free_inRange : Visit.free.inRange :=
  ⟨fun _ => rfl, fun h => absurd rfl h, le_rfl, nofun, Nat.zero_le _, nofun⟩

theorem LanePort.reset_countersInRange : LanePort.reset.countersInRange := by
  refine ⟨?_, ?_, ?_, ?_, ?_, ?_⟩ <;> exact Nat.zero_le _

theorem State.reset_inRange : State.reset.InRange where
  accounts a := by rw [State.reset_account]; exact Account.empty_inRange
  visits v := by rw [State.reset_visit]; exact Visit.free_inRange
  segments v g hg := by rw [State.reset_visit] at hg; cases hg
  lanes l := by rw [State.reset_lane]; exact LanePort.reset_countersInRange
  levels l := by rw [State.reset_lane]; exact Nat.zero_le _
  tariffs i g h := by rw [State.reset_tariff] at h; cases h
  lossCount := Nat.zero_le _
  counter := by decide
  grace := by decide
  aging := by decide

theorem State.reset_tagsSound : State.reset.TagsSound :=
  State.reset_powerOn ▸ State.reset.powerOn_tagsSound State.reset_lanesSound.bindings

theorem State.reset_namesUnique : State.reset.NamesUnique where
  visits v w h := by rw [State.reset_visit] at h; exact absurd rfl h
  accounts a b h := by rw [State.reset_account] at h; exact absurd rfl h

theorem State.reset_transmitterSound : State.reset.TransmitterSound where
  idle _ := ⟨rfl, rfl, rfl⟩
  sending _ _ _ h := nomatch h

/-- Settles O20. -/
theorem resetMeetsInvariants : Obligations.ResetMeetsInvariants :=
  ⟨State.reset_withinCapacity, State.reset_attentionTrue, State.reset_useCountsExact, State.reset_tariffsSound,
    State.reset_lanesSound.bindings, State.reset_lanesSound.hold, State.reset_settleWaitExact, State.reset_inRange,
    State.reset_tagsSound, State.reset_namesUnique, State.reset_transmitterSound,
    fun l => by rw [State.reset_lane]; exact LanePort.stacksNumbered_empty rfl rfl⟩

/-- Settles O21: power-on reset leaves `State.reset` but for the model's own queue and index. -/
theorem powerOnReset : Obligations.PowerOnReset := by
  intro s
  refine ⟨s.powerOn, rfl, rfl, fun u hu => ?_⟩
  have same : u = { State.reset with pending := u.pending, freeIndex := u.freeIndex } := by
    rcases hu with rfl | rfl <;> rfl
  rw [same]
  exact ⟨State.reset_visit, State.reset_lane, rfl, rfl, State.reset_tariff, State.reset_account, rfl, rfl, rfl, rfl,
    rfl, rfl, rfl, rfl, rfl, State.reset_laneMask, rfl, rfl, rfl, rfl⟩

end Sys2Proof.Machine

/-! ## The requests that only report -/

namespace Sys2Proof.Machine

/-! ### Operands that name a place -/

theorem visitSlotOf_val (v : VisitSlot) : visitSlotOf v.val = some v := by rw [visitSlotOf, dif_pos v.isLt]

theorem visitSlotOf_eq_none {n : Nat} (h : 23 < n) : visitSlotOf n = none := by
  rw [visitSlotOf, dif_neg (by omega)]

theorem accountSlotOf_val (a : AccountSlot) : accountSlotOf a.val = some a := by
  rw [accountSlotOf, dif_pos a.isLt]

theorem accountSlotOf_eq_none {n : Nat} (h : 255 < n) : accountSlotOf n = none := by
  rw [accountSlotOf, dif_neg (by omega)]

theorem tariffOf_val (t : TariffIndex) : tariffOf t.val = some t := by rw [tariffOf, dif_pos t.isLt]

theorem tariffOf_eq_none {n : Nat} (h : 1 < n) : tariffOf n = none := by rw [tariffOf, dif_neg (by omega)]

theorem scheduleOf_val (k : Fin 16) : scheduleOf k.val = some k := by rw [scheduleOf, dif_pos k.isLt]

theorem tagCodeInRange_eq_false {c : Nat} (h : c = 0 ∨ 65535 < c) : tagCodeInRange c = false := by
  simp only [tagCodeInRange, Config.top16, Bool.and_eq_false_iff, decide_eq_false_iff_not]
  omega

theorem tagCodeInRange_eq_true {c : Nat} (h : 1 ≤ c) (h' : c ≤ 65535) : tagCodeInRange c = true := by
  simp only [tagCodeInRange, Config.top16, Bool.and_eq_true, decide_eq_true_eq]
  omega

/-! ### The Container Type Table -/

/-- The index of a tag code is where the lower tag codes end (R103). -/
theorem typeIndex_eq {types : List TypeEntry} {c i : Nat} (hi : i ≤ types.length)
    (lower : ∀ j, (h : j < types.length) → (j < i ↔ types[j].tagCode < c)) : typeIndex types c = i := by
  have first : (types.take i).countP (fun e => decide (e.tagCode < c)) = i := by
    refine (List.countP_eq_length.2 fun e he => ?_).trans (List.length_take_of_le hi)
    obtain ⟨j, hj, rfl⟩ := List.mem_iff_getElem.1 he
    rw [List.length_take] at hj
    rw [List.getElem_take]
    simpa using (lower j (by omega)).1 (by omega)
  have rest : (types.drop i).countP (fun e => decide (e.tagCode < c)) = 0 := by
    refine List.countP_eq_zero.2 fun e he => ?_
    obtain ⟨j, hj, rfl⟩ := List.mem_iff_getElem.1 he
    rw [List.length_drop] at hj
    rw [List.getElem_drop]
    have := lower (i + j) (by omega)
    simp only [decide_eq_true_eq]
    omega
  rw [typeIndex, ← List.take_append_drop i types, List.countP_append, first, rest]
  rfl

/-- In an ascending table a tag code stands below just the entries after its own (R100). -/
theorem ascending_getElem {types : List TypeEntry} (h : ascending types) {i j : Nat} (hi : i < types.length)
    (hj : j < types.length) : j < i ↔ types[j].tagCode < types[i].tagCode := by
  have lt := List.pairwise_iff_getElem.1 h
  constructor
  · exact lt j i hj hi
  · intro less
    rcases Nat.lt_trichotomy j i with h | rfl | h
    · exact h
    · omega
    · have := lt i j hi hj h; omega

theorem State.findType_getElem {s : State} (h : ascending s.types) {i : Nat} (hi : i < s.types.length) :
    s.findType s.types[i].tagCode = some s.types[i] := by
  rw [State.findType, List.find?_eq_some_iff_getElem]
  refine ⟨by simp, i, hi, rfl, fun j hj => ?_⟩
  have := (ascending_getElem h hi (hj.trans hi)).1 hj
  simp
  omega

/-! ### A tariff header -/

theorem bit_getLsbD (i k : Fin 16) : (1#16 <<< i.val).getLsbD k.val = decide (i = k) := by
  revert i k
  decide

theorem foldl_definedSet (g : Generation) (ks : List (Fin 16)) (w : Word16) (k : Fin 16) :
    (ks.foldl (fun w k => if g.schedules[k].defined then w ||| (1#16 <<< k.val) else w) w).getLsbD k.val =
      (w.getLsbD k.val || (decide (k ∈ ks) && g.schedules[k].defined)) := by
  induction ks generalizing w with
  | nil => simp
  | cons j ks ih =>
    have entered : (if g.schedules[j].defined then w ||| (1#16 <<< j.val) else w).getLsbD k.val =
        (w.getLsbD k.val || (decide (j = k) && g.schedules[j].defined)) := by
      cases g.schedules[j].defined
      · rw [if_neg (by decide), Bool.and_false, Bool.or_false]
      · rw [if_pos rfl, BitVec.getLsbD_or, bit_getLsbD, Bool.and_true]
    rw [List.foldl_cons, ih, entered]
    by_cases hj : j = k
    · subst hj
      cases g.schedules[j].defined <;> simp
    · have hk : ¬ k = j := fun e => hj e.symm
      simp [hj, hk]

/-- The defined set of a header has the bit of each defined schedule (R118, R185). -/
theorem Generation.definedSet_getLsbD (g : Generation) (k : Fin 16) :
    g.definedSet.getLsbD k.val = g.schedules[k].defined := by
  rw [Generation.definedSet, foldl_definedSet, decide_eq_true (List.mem_finRange k)]
  simp

/-! ### The reports -/

variable {s : State}

theorem readVisit_key {v : VisitSlot} {key : VisitKey} (h : key = .slot v.val ∨ ∃ n, key = .number n ∧ s.Named v n)
    (k : Nat) : readVisit key k s = accept s (s.visitDetail v k) := by
  rcases h with rfl | ⟨n, rfl, named⟩
  · simp only [readVisit, visitSlotOf_val]
  · simp only [readVisit, withVisit_named named]

theorem readAccount_key {a : AccountSlot} {key : AccountKey}
    (h : key = .slot a.val ∨ ∃ n, key = .number n ∧ s.AccountAt a n) :
    readAccount key s = accept s (.accountReport (accountReport a s.accounts[a])) := by
  rcases h with rfl | ⟨n, rfl, found⟩
  · simp only [readAccount, accountSlotOf_val]
  · simp only [readAccount, withAccount_at found]

theorem Account.room_eq (r : Account) : r.room = if r.ceiling ≤ r.paidToday then 0 else r.ceiling - r.paidToday := by
  rw [Account.room]
  split <;> omega

theorem LanePort.effectiveLevel_eq (p : LanePort) (aging : Nat) : p.effectiveLevel aging =
    if p.queue ≠ [] ∧ 1 ≤ aging ∧ aging ≤ 15 ∧ aging ≤ p.passCount then 4 else p.level := by
  simp [LanePort.effectiveLevel, LanePort.waiting, and_assoc]

theorem readTariff_malformed {n p : Nat} (h : 1 < n ∨ (15 < p ∧ p ≠ 255)) :
    readTariff n p s = refuse s .malformed .empty := by
  rw [readTariff]
  by_cases hn : 1 < n
  · rw [tariffOf_eq_none hn]
  · obtain ⟨above, ne⟩ := h.resolve_left hn
    cases tariffOf n with
    | none => rfl
    | some t => simp [above, ne]

theorem readTariff_empty {t : TariffIndex} {p : Nat} (hp : p ≤ 15 ∨ p = 255) (h : s.tariffs[t] = .empty) :
    readTariff t.val p s = accept s (.tariffEmpty t) := by
  have part : (p ≠ 255 && 15 < p) = false := by
    rw [Bool.eq_false_iff]
    simp only [ne_eq, Bool.and_eq_true, decide_eq_true_eq]
    omega
  simp only [readTariff, tariffOf_val, part, h, TariffSlot.contents, Bool.false_eq_true, if_false]

theorem readTariff_schedule {t : TariffIndex} {g : Generation} (h : s.tariffs[t].contents = some g) (k : Fin 16) :
    readTariff t.val k.val s =
      accept s (.tariffSchedule t s.tariffs[t].state s.tariffs[t].pins g.schedules[k]) := by
  have part : (k.val ≠ 255 && 15 < k.val) = false := by
    rw [Bool.eq_false_iff]
    simp only [ne_eq, Bool.and_eq_true, decide_eq_true_eq]
    omega
  simp only [readTariff, tariffOf_val, part, h, scheduleOf_val, Bool.false_eq_true, if_false]

theorem readTariff_header {t : TariffIndex} {g : Generation} (h : s.tariffs[t].contents = some g) :
    readTariff t.val 255 s = accept s
      (.tariffHeader t s.tariffs[t].state s.tariffs[t].pins g.header g.definedSet g.checkValue) := by
  have none : scheduleOf 255 = none := rfl
  simp only [readTariff, tariffOf_val, ne_eq, not_true_eq_false, decide_false, Bool.false_and, h, none,
    Bool.false_eq_true, if_false]

theorem readTypeByTagCode_held {i c : Nat} {e : TypeEntry} (order : ascending s.types) (low : 1 ≤ c)
    (high : c ≤ 65535) (held : s.types[i]? = some e) (code : e.tagCode = c) :
    readTypeByTagCode c s = accept s (.typeReport i s.types.length e) := by
  obtain ⟨hi, rfl⟩ := List.getElem?_eq_some_iff.1 held
  subst code
  have index := typeIndex_eq hi.le fun j hj => ascending_getElem order hi hj
  simp only [readTypeByTagCode, tagCodeInRange_eq_true low high, State.findType_getElem order hi, index,
    Bool.not_true, Bool.false_eq_true, if_false]

theorem readTypeByTagCode_absent {i c : Nat} (low : 1 ≤ c) (high : c ≤ 65535)
    (absent : ∀ e ∈ s.types, e.tagCode ≠ c) (hi : i ≤ s.types.length)
    (lower : ∀ j, (h : j < s.types.length) → (j < i ↔ s.types[j].tagCode < c)) :
    readTypeByTagCode c s = refuse s .noEntry (.typeAbsent s.types.length i) := by
  have none : s.findType c = none := List.find?_eq_none.2 fun e he => by simpa using absent e he
  simp only [readTypeByTagCode, tagCodeInRange_eq_true low high, none, typeIndex_eq hi lower, Bool.not_true,
    Bool.false_eq_true, if_false]

/-- Settles O30: every report leaves the state as it is, and its fields are the record's. -/
theorem readRequestsReport : Obligations.ReadRequestsReport := by
  intro s tag room
  have reports {code : Byte} {m : State → Answer} {d : Detail} (h : m s = accept s d) :
      Host.Outcome.next (s.serve tag code m) =
        (Host.Outcome.next (s.answered tag code .ok d).finish : Host.Outcome State Fault Refusal) :=
    congrArg Host.Outcome.next (State.serve_accept room h)
  refine ⟨fun v key k hk => ⟨fun free => reports ?_, fun live past => reports ?_, fun live held => reports ?_⟩,
    fun n k out => State.serve_refuse room ?_, fun l => ⟨_, reports (by rw [readLane, laneOf_val]), ?_⟩,
    fun n out => State.serve_refuse room (by rw [readLane, laneOf_eq_none out]),
    fun c out => State.serve_refuse room ?_, fun order c low high =>
      ⟨fun i e held code => reports (readTypeByTagCode_held order low high held code),
        fun absent i hi lower => State.serve_refuse room (readTypeByTagCode_absent low high absent hi lower)⟩,
    fun i => ⟨fun out => State.serve_refuse room ?_, fun low past => State.serve_refuse room ?_,
      fun low held => reports ?_⟩,
    fun n p out => State.serve_refuse room (readTariff_malformed out),
    fun t p hp empty => reports (readTariff_empty hp empty),
    fun t g held => ⟨fun k => reports (readTariff_schedule held k), g.definedSet, reports (readTariff_header held),
      g.definedSet_getLsbD⟩,
    fun a key hk => reports ?_, fun n out => State.serve_refuse room ?_,
    fun n out => State.serve_refuse room (withAccount_malformed out _),
    fun n low high absent => State.serve_refuse room (withAccount_absent low high absent _)⟩
  · rw [readVisit_key hk, State.visitDetail, if_pos free]
  · rw [readVisit_key hk, State.visitDetail, if_neg live, List.getElem?_eq_none past]
    rfl
  · rw [readVisit_key hk, State.visitDetail, if_neg live, List.getElem?_eq_getElem held]
    rfl
  · simp only [readVisit, visitSlotOf_eq_none out]
  · refine ⟨rfl, rfl, rfl, rfl, rfl, rfl, rfl, fun none => ?_, fun c hc => ?_, rfl, rfl,
      s.lanes[l].effectiveLevel_eq s.agingLimit, rfl, rfl, rfl, rfl, rfl, rfl, rfl⟩
    · simp only [State.laneReport, LanePort.staged, none, List.length_nil, Option.map_none, and_self]
    · simp only [State.laneReport, LanePort.staged, hc, Option.map_some, and_self]
  · rw [readTypeByTagCode, tagCodeInRange_eq_false out]
    rfl
  · rw [readTypeByIndex, if_pos out]
  · rw [readTypeByIndex, if_neg (by omega), List.getElem?_eq_none past]
  · rw [readTypeByIndex, if_neg (by omega), List.getElem?_eq_getElem held]
  · rw [readAccount_key hk, accountReport, Account.room_eq]
  · simp only [readAccount, accountSlotOf_eq_none out]

end Sys2Proof.Machine

/-! ## The changes that events are made of -/

namespace Sys2Proof.Machine

/-! ### Lanes -/

/-- A lane that keeps its capacities and ranges, and what links it to visits and reads. -/
structure LanePort.Minor (p q : LanePort) : Prop where
  keeps : p.Keeps q
  links : p.SameLinks q

theorem LanePort.Minor.refl (p : LanePort) : p.Minor p := ⟨.refl p, .refl p⟩

theorem LanePort.SameLinks.trans {p q r : LanePort} (h : p.SameLinks q) (h' : q.SameLinks r) : p.SameLinks r :=
  ⟨fun u => (h'.bound u).trans (h.bound u), h'.hold ∘ h.hold, h'.queue.trans h.queue, h'.context.trans h.context⟩

theorem LanePort.Minor.trans {p q r : LanePort} (h : p.Minor q) (h' : q.Minor r) : p.Minor r :=
  ⟨h.keeps.trans h'.keeps, h.links.trans h'.links⟩

/-- A lane whose counters, flags, frames, level and receiver alone change. -/
theorem LanePort.Minor.of_same {p q : LanePort} (state : q.state = p.state) (hold : q.hold = p.hold)
    (queue : q.queue = p.queue) (context : q.context = p.context)
    (tx : p.txQueue.length ≤ 4 → q.txQueue.length ≤ 4) (pass : p.passCount ≤ 15 → q.passCount ≤ 15)
    (level : p.level ≤ 3 → q.level ≤ 3) (counters : p.countersInRange → q.countersInRange) : p.Minor q where
  keeps := .of_queue queue context tx pass level counters
  links := ⟨fun u => by rw [state], fun h => by rw [LanePort.holdSound, state, hold, queue]; exact h, queue, context⟩

theorem satAdd_le (top a b : Nat) : satAdd top a b ≤ top := Nat.min_le_left _ _

theorem LanePort.Minor.latch (p : LanePort) (f : LaneFlag) : p.Minor (p.latch f) :=
  .of_same rfl rfl rfl rfl id id id id

variable (s : State)

/-! ### Changes outside the lanes -/

theorem State.KeepsRest.of_same {s t : State} (tables : s.SameTables t) (visits : t.visits = s.visits)
    (items : s.items.length ≤ 32 → t.items.length ≤ 32)
    (lossCount : s.lossCount ≤ 65535 → t.lossCount ≤ 65535) : s.KeepsRest t :=
  .of_tables tables items lossCount fun v => by rw [visits]; exact .refl _ _

/-- A change of lanes, records and tables that keeps all links. -/
theorem State.Move.minor {s t : State} (rest : s.KeepsRest t)
    (lanes : ∀ l : Lane, LanePort.Minor s.lanes[l] t.lanes[l])
    (visits : ∀ v : VisitSlot, Visit.SameLinks s.visits[v] t.visits[v]) (wait : t.settleWait = s.settleWait) :
    s.Move t where
  keeps := ⟨rest, fun l => (lanes l).keeps⟩
  links := .minor (fun l => (lanes l).links) visits wait

theorem State.move_mapLanes (f : Lane → LanePort → LanePort) (h : ∀ l : Lane, LanePort.Minor s.lanes[l] (f l s.lanes[l])) :
    s.Move (s.mapLanes f) :=
  .minor (.of_same ⟨rfl, rfl, rfl, rfl, rfl, rfl, rfl, rfl⟩ rfl id id)
    (fun l => by rw [State.mapLanes, ofFn_get]; exact h l) (fun _ => .refl _) rfl

theorem State.move_modifyLane (l : Lane) (f : LanePort → LanePort) (h : LanePort.Minor s.lanes[l] (f s.lanes[l])) :
    s.Move (s.modifyLane l f) :=
  .minor (.of_same ⟨rfl, rfl, rfl, rfl, rfl, rfl, rfl, rfl⟩ rfl id id)
    (fun m => by
      rw [State.modifyLane, upd_get]
      split
      · next e => subst e; exact h
      · exact .refl _) (fun _ => .refl _) rfl

theorem State.move_finish : s.Move s.finish :=
  .aside s.finish_lanes s.finish_visits s.finish_settleWait
    (.of_same ⟨by simp, by simp, by simp, by simp, by simp, by simp, by simp, by simp⟩ (by simp) (by simp) (by simp))

theorem State.move_latchPart (f : PartFlag) : s.Move (s.latchPart f) :=
  .aside rfl rfl rfl (.of_same ⟨rfl, rfl, rfl, rfl, rfl, rfl, rfl, rfl⟩ rfl id id)

theorem State.move_latchLane (l : Lane) (f : LaneFlag) : s.Move (s.latchLane l f) :=
  s.move_modifyLane l _ (.latch _ f)

theorem State.move_setTrunkTx (tx : TrunkTx) : s.Move (s.setTrunkTx tx) :=
  .aside rfl rfl rfl (.of_same ⟨rfl, rfl, rfl, rfl, rfl, rfl, rfl, rfl⟩ rfl id id)

theorem State.move_setTrunkRx (rx : Receiver) : s.Move (s.setTrunkRx rx) :=
  .aside rfl rfl rfl (.of_same ⟨rfl, rfl, rfl, rfl, rfl, rfl, rfl, rfl⟩ rfl id id)

theorem State.move_setPending (cs : List Instr) : s.Move (s.setPending cs) :=
  .aside rfl rfl rfl (.of_same ⟨rfl, rfl, rfl, rfl, rfl, rfl, rfl, rfl⟩ rfl id id)

theorem State.move_setMaskSets (part : PartFlags) (lanes : Vector LaneFlags 6) : s.Move (s.setMaskSets part lanes) :=
  .aside rfl rfl rfl (.of_same ⟨rfl, rfl, rfl, rfl, rfl, rfl, rfl, rfl⟩ rfl id id)

theorem State.move_placeItem (e : ItemEntry) : s.Move (s.placeItem e) := by
  obtain ⟨i, n, f, e, length, loss⟩ := s.placeItem_frame e
  rw [e]
  exact .aside rfl rfl rfl (.of_same ⟨rfl, rfl, rfl, rfl, rfl, rfl, rfl, rfl⟩ rfl (fun h => by simp only; omega) loss)

theorem State.move_respond (r : Response) (room : s.responses.length < 4) : s.Move (s.respond r) :=
  .aside rfl rfl rfl
    { State.KeepsRest.refl s with
      responses := fun _ => by
        rw [State.respond, State.setResponses, List.length_append, List.length_singleton]; omega }

theorem State.move_dropOldest (q : TrunkQueue) : s.Move (s.dropOldest q) := by
  have shorter : ∀ {α : Type} (as : List α) (n : Nat), as.length ≤ n → (as.drop 1).length ≤ n := fun as n h => by
    rw [List.length_drop]; omega
  cases q
  · exact .aside rfl rfl rfl { State.KeepsRest.refl s with responses := shorter _ _ }
  · exact .aside rfl rfl rfl { State.KeepsRest.refl s with settlementQueue := shorter _ _ }
  · exact .aside rfl rfl rfl { State.KeepsRest.refl s with items := shorter _ _ }

/-- The table is replaced by one that is sound where it was (R100). -/
theorem State.move_setTypes (types : List TypeEntry)
    (h : s.TypesSound → types.length ≤ 64 ∧ ascending types) : s.Move (s.setTypes types) :=
  .aside rfl rfl rfl { State.KeepsRest.refl s with types := h }

theorem State.move_setTariff (i : TariffIndex) (x : TariffSlot)
    (h : s.GenerationsInRange → ∀ g, x.contents = some g → g.inRange) : s.Move (s.setTariff i x) :=
  .aside rfl rfl rfl { State.KeepsRest.refl s with
    tariffs := fun ok j g hg => by
      rw [State.setTariff, upd_get] at hg
      split at hg
      · exact h ok g hg
      · exact ok j g hg }

theorem State.move_setParameters {grace aging : Nat} (hg : 1 ≤ grace ∧ grace ≤ 60) (ha : aging ≤ 15) :
    s.Move (s.setParameters grace aging) :=
  .aside rfl rfl rfl { State.KeepsRest.refl s with
    sources := fun ok => ⟨hg, ok.2⟩
    aging := fun _ => ha }

/-- Accounts change within their ranges and keep their numbers. -/
theorem State.KeepsRest.of_accounts {s t : State} (same : t = { s with accounts := t.accounts })
    (h : ∀ a : AccountSlot, t.accounts[a].number = s.accounts[a].number ∧
      (s.accounts[a].inRange → t.accounts[a].inRange)) : s.KeepsRest t := by
  rw [same]
  exact { State.KeepsRest.refl s with
    accounts := fun ok a => (h a).2 (ok a)
    accountsUnique := fun ok a b => by
      simp only
      rw [(h a).1, (h b).1]
      exact ok a b }

theorem State.move_accounts {s t : State} (same : t = { s with accounts := t.accounts })
    (h : ∀ a : AccountSlot, t.accounts[a].number = s.accounts[a].number ∧
      (s.accounts[a].inRange → t.accounts[a].inRange)) : s.Move t :=
  .aside (by rw [same]) (by rw [same]) (by rw [same]) (.of_accounts same h)

theorem State.move_modifyAccount (a : AccountSlot) (f : Account → Account)
    (number : (f s.accounts[a]).number = s.accounts[a].number)
    (range : s.accounts[a].inRange → (f s.accounts[a]).inRange) : s.Move (s.modifyAccount a f) :=
  State.move_accounts rfl fun b => by
    rw [State.modifyAccount, upd_get]
    split
    · next e => subst e; exact ⟨number, range⟩
    · exact ⟨rfl, id⟩

/-! ### The Container Type Table -/

theorem mem_putType {e x : TypeEntry} {types : List TypeEntry} (h : x ∈ putType e types) : x = e ∨ x ∈ types := by
  induction types with
  | nil => exact .inl (List.mem_singleton.1 h)
  | cons y ys ih =>
    unfold putType at h
    split at h
    · exact List.mem_cons.1 h
    · split at h
      · exact (List.mem_cons.1 h).imp id (List.mem_cons_of_mem _)
      · rcases List.mem_cons.1 h with rfl | h
        · exact .inr List.mem_cons_self
        · exact (ih h).imp id (List.mem_cons_of_mem _)

theorem putType_ascending {e : TypeEntry} {types : List TypeEntry} (h : ascending types) :
    ascending (putType e types) := by
  induction types with
  | nil => exact List.pairwise_singleton _ _
  | cons y ys ih =>
    obtain ⟨below, rest⟩ := List.pairwise_cons.1 h
    unfold putType
    split
    · next lt =>
      refine List.pairwise_cons.2 ⟨fun x hx => ?_, h⟩
      rcases List.mem_cons.1 hx with rfl | hx
      · exact lt
      · exact lt.trans (below x hx)
    · split
      · next same => exact List.pairwise_cons.2 ⟨fun x hx => by rw [same]; exact below x hx, rest⟩
      · next above other =>
        refine List.pairwise_cons.2 ⟨fun x hx => ?_, ih rest⟩
        rcases mem_putType hx with rfl | hx
        · omega
        · exact below x hx

/-- An entry that replaces the one of its tag code lengthens nothing (R102). -/
theorem putType_length (e : TypeEntry) (types : List TypeEntry) :
    (putType e types).length ≤ types.length + 1 ∧
      (ascending types → (∃ x ∈ types, x.tagCode = e.tagCode) → (putType e types).length = types.length) := by
  induction types with
  | nil => exact ⟨le_rfl, fun _ ⟨x, hx, _⟩ => nomatch hx⟩
  | cons y ys ih =>
    unfold putType
    split
    · next lt =>
      refine ⟨le_rfl, fun order ⟨x, hx, same⟩ => ?_⟩
      obtain ⟨below, -⟩ := List.pairwise_cons.1 order
      rcases List.mem_cons.1 hx with rfl | hx
      · omega
      · have := below x hx; omega
    · split
      · exact ⟨Nat.le_succ _, fun _ _ => rfl⟩
      · next above other =>
        refine ⟨Nat.succ_le_succ ih.1, fun order ⟨x, hx, same⟩ => congrArg Nat.succ (ih.2 (List.pairwise_cons.1 order).2 ?_)⟩
        rcases List.mem_cons.1 hx with rfl | hx
        · exact absurd same.symm other
        · exact ⟨x, hx, same⟩

end Sys2Proof.Machine

/-! ## Visits that open, rebind, leave OPEN and settle -/

namespace Sys2Proof.Machine

variable {s t : State}

/-! ### Ranges of a visit record -/

/-- A record outside FREE whose state, number, limit, elapsed time, grace and segments are as they were. -/
theorem Visit.inRange.of_live {r r' : Visit} (h : r.inRange) (live : r.state ≠ .free) (state : r'.state = r.state)
    (number : r'.number = r.number) (limit : r'.openLimit = r.openLimit) (elapsed : r'.elapsed = r.elapsed)
    (grace : r'.grace = r.grace) (segments : r.segments ≠ [] → r'.segments ≠ []) : r'.inRange where
  free e := absurd (state ▸ e) live
  live _ := by
    obtain ⟨h1, h2, h3, h4, h5⟩ := h.live live
    rw [number, limit]
    exact ⟨h1, h2, h3, h4, segments h5⟩
  elapsed := by rw [elapsed, limit]; exact h.elapsed
  opened e := by rw [elapsed, limit]; exact h.opened (state ▸ e)
  grace := by rw [grace]; exact h.grace
  closing e := by rw [grace]; exact h.closing (state ▸ e)

/-- A record that has entered SETTLING (R22). -/
theorem Visit.inRange.settled {r r' : Visit} (h : r.inRange) (live : r.state ≠ .free) (state : r'.state = .settling)
    (number : r'.number = r.number) (limit : r'.openLimit = r.openLimit) (elapsed : r'.elapsed = r.elapsed)
    (grace : r'.grace = 0) (segments : r'.segments = r.segments) : r'.inRange where
  free e := by rw [state] at e; cases e
  live _ := by
    obtain ⟨h1, h2, h3, h4, h5⟩ := h.live live
    rw [number, limit, segments]
    exact ⟨h1, h2, h3, h4, h5⟩
  elapsed := by rw [elapsed, limit]; exact h.elapsed
  opened e := by rw [state] at e; cases e
  grace := by rw [grace]; exact Nat.zero_le _
  closing e := by rw [state] at e; cases e

/-- Records change in one place. -/
theorem State.keeps_upd {v : VisitSlot} {f : Visit → Visit} {G : Prop} (h : Visit.Keeps G s.visits[v] (f s.visits[v]))
    (w : VisitSlot) : Visit.Keeps G s.visits[w] (upd s.visits v f)[w] := by
  rw [upd_get]
  split
  · next e => subst e; exact h
  · exact .refl _ _

/-! ### The lanes of one visit change -/

theorem LanePort.holdSound.congr {p q : LanePort} (h : p.holdSound) (state : q.state = .disabled ↔ p.state = .disabled)
    (hold : q.hold = p.hold) (queue : q.queue = p.queue) : q.holdSound := by
  rw [LanePort.holdSound, ne_eq, state, hold, queue]
  exact h

/-- Bindings stay sound where one record gets a new lane set, the lanes that leave the set pass to IDLE, and those
that join it were IDLE or its own (R7, R12, R15). -/
theorem State.BindingsSound.relane (w : s.BindingsSound) {v : VisitSlot}
    (others : ∀ x : VisitSlot, x ≠ v → t.visits[x] = s.visits[x])
    (closed : t.visits[v].state ≠ .opened → t.visits[v].laneSet = 0)
    (lane : ∀ l : Lane, t.lanes[l].state = if inSet t.visits[v].laneSet l then .bound (t.visitTag v)
      else if inSet s.visits[v].laneSet l then .idle else s.lanes[l].state)
    (joins : ∀ l : Lane, inSet t.visits[v].laneSet l = true →
      s.lanes[l].state = .idle ∨ ∃ n, s.lanes[l].state = .bound ⟨v, n⟩) : t.BindingsSound := by
  have tag : ∀ x, x ≠ v → t.visitTag x = s.visitTag x := fun x hx => by
    rw [State.visitTag, others x hx, State.visitTag]
  refine ⟨fun x hx => ?_, fun x l hl => ?_, fun l u hu => ?_⟩
  · by_cases e : x = v
    · subst e; exact closed hx
    · rw [others x e] at hx ⊢; exact w.onlyOpen x hx
  · by_cases e : x = v
    · subst e; rw [lane, if_pos hl]
    · rw [others x e] at hl
      have bound := w.bound x l hl
      have old : ¬ inSet s.visits[v].laneSet l = true := fun h => by
        rw [w.bound v l h, LaneState.bound.injEq] at bound
        exact e (s.visitTag_injective bound).symm
      have new : ¬ inSet t.visits[v].laneSet l = true := fun h => by
        rcases joins l h with idle | ⟨n, own⟩
        · rw [idle] at bound; cases bound
        · rw [own, LaneState.bound.injEq] at bound
          exact e (congrArg VisitTag.slot bound).symm
      rw [lane, if_neg new, if_neg old, bound, tag x e]
  · rw [lane] at hu
    split at hu
    · next new =>
      cases hu
      exact ⟨rfl, new⟩
    · split at hu
      · cases hu
      · next old =>
        obtain ⟨same, mem⟩ := w.member l u hu
        have e : u.slot ≠ v := fun e => by subst e; exact old mem
        rw [tag _ e, others _ e]
        exact ⟨same, mem⟩

/-- A lane claim that does not fail names lanes that are IDLE or the visit's own (R7). -/
theorem claimFailure_eq_none {lanes : LaneSet} {u : VisitTag} (h : s.claimFailure u lanes = none) {l : Lane}
    (named : inSet lanes l = true) : s.lanes[l].state = .idle ∨ s.lanes[l].state = .bound u := by
  rw [State.claimFailure] at h
  split at h
  · cases h
  · next enabled =>
    split at h
    · cases h
    · next free =>
      rw [allLanes_eq, find?_finRange_eq_none] at enabled free
      have h1 := enabled l
      have h2 := free l
      rw [named, Bool.true_and, Bool.not_eq_false', LanePort.enabled_iff] at h1
      rw [named, Bool.true_and, Bool.eq_false_iff, ne_eq, LanePort.heldByOther_iff, not_and, not_not] at h2
      cases hs : s.lanes[l].state with
      | disabled => exact absurd hs h1
      | idle => exact .inl rfl
      | bound x => exact .inr (hs ▸ h2 ⟨x, hs⟩)

theorem inSet_or (a b : LaneSet) (l : Lane) : inSet (a ||| b) l = (inSet a l || inSet b l) := BitVec.getLsbD_or

theorem inSet_and (a b : LaneSet) (l : Lane) : inSet (a &&& b) l = (inSet a l && inSet b l) := BitVec.getLsbD_and

theorem inSet_and_not (a b : LaneSet) (l : Lane) : inSet (a &&& ~~~b) l = (inSet a l && !inSet b l) := by
  rw [inSet, inSet, inSet, BitVec.getLsbD_and, BitVec.getLsbD_not, decide_eq_true l.isLt, Bool.true_and]

/-- The lanes of an OPEN visit pass between IDLE and BOUND. -/
theorem State.Move.rebinds {v : VisitSlot} (rest : s.KeepsRest t)
    (ports : ∀ l : Lane, t.lanes[l] = { s.lanes[l] with state := t.lanes[l].state })
    (enabled : s.BindingsSound → ∀ l : Lane, t.lanes[l].state = .disabled ↔ s.lanes[l].state = .disabled)
    (others : ∀ w : VisitSlot, w ≠ v → t.visits[w] = s.visits[w]) (opened : s.visits[v].state = .opened)
    (number : t.visits[v].number = s.visits[v].number)
    (live : t.visits[v].state = .opened ∨ t.visits[v].state = .closing)
    (tagged : t.visits[v].tagged = s.visits[v].tagged) (segments : t.visits[v].segments = s.visits[v].segments)
    (wait : t.settleWait = s.settleWait) (bindings : s.BindingsSound → t.BindingsSound) : s.Move t := by
  have queue : ∀ l : Lane, t.lanes[l].queue = s.lanes[l].queue := fun l => by rw [ports l]
  have context : ∀ l : Lane, t.lanes[l].context = s.lanes[l].context := fun l => by rw [ports l]
  have hold : ∀ l : Lane, t.lanes[l].hold = s.lanes[l].hold := fun l => by rw [ports l]
  exact {
    keeps := ⟨rest, fun l => by rw [ports l]; exact .of_queue rfl rfl id id id id⟩
    links := .rebind v ⟨queue, context, others, number, opened, live, tagged, segments, wait, bindings,
      fun b h l => (h l).congr (enabled b l) (hold l) (queue l)⟩ }

/-- Bind Lanes (R11). -/
theorem State.move_bindClaimed {v : VisitSlot} {lanes : LaneSet} (opened : s.visits[v].state = .opened)
    (claim : s.claimFailure (s.visitTag v) lanes = none) : s.Move (s.bindClaimed v lanes) := by
  have lane : ∀ l : Lane, (s.bindClaimed v lanes).lanes[l] =
      if inSet lanes l && s.lanes[l].state == .idle then { s.lanes[l] with state := .bound (s.visitTag v) }
      else s.lanes[l] := fun l => ofFn_get _ l
  have visit : (s.bindClaimed v lanes).visits =
      upd s.visits v (fun r => { r with laneSet := r.laneSet ||| lanes }) := rfl
  have tag : (s.bindClaimed v lanes).visitTag v = s.visitTag v := by
    rw [State.visitTag, visit, upd_same]
    rfl
  have set : (s.bindClaimed v lanes).visits[v].laneSet = s.visits[v].laneSet ||| lanes := by rw [visit, upd_same]
  refine .rebinds (v := v) (.of_tables ⟨rfl, rfl, rfl, rfl, rfl, rfl, rfl, rfl⟩ id id fun w => ?_) (fun l => ?_)
    (fun _ l => ?_) (fun w hw => ?_) opened ?_ ?_ ?_ ?_ rfl (fun b => b.relane (v := v) (fun w hw => ?_) ?_ (fun l => ?_)
      (fun l hl => ?_))
  · rw [visit]
    exact State.keeps_upd (.of_segments rfl fun _ h => h.of_live (by rw [opened]; nofun) rfl rfl rfl rfl rfl id) w
  · rw [lane]; split <;> rfl
  · rw [lane]
    split
    · next h =>
      rw [eq_of_beq (Bool.and_eq_true_iff.1 h).2]
      exact iff_of_false nofun nofun
    · rfl
  · rw [visit]; exact upd_other _ _ _ _ hw
  · rw [visit, upd_same]
  · rw [visit, upd_same]; exact .inl opened
  · rw [visit, upd_same]
  · rw [visit, upd_same]
  · rw [visit]; exact upd_other _ _ _ _ hw
  · rw [visit, upd_same]; exact fun h => absurd opened h
  · rw [set, tag, inSet_or, lane]
    by_cases named : inSet lanes l = true
    · rw [named, Bool.or_true, Bool.true_and, if_pos rfl]
      rcases claimFailure_eq_none claim named with idle | own
      · rw [if_pos (by rw [idle]; rfl)]
      · rw [if_neg (by rw [own]; nofun)]; exact own
    · rw [Bool.eq_false_iff.2 named, Bool.or_false, Bool.false_and, if_neg Bool.false_ne_true]
      by_cases old : inSet s.visits[v].laneSet l = true
      · rw [if_pos old]; exact b.bound v l old
      · rw [if_neg old, if_neg old]
  · rw [set, inSet_or, Bool.or_eq_true] at hl
    rcases hl with old | named
    · exact .inr ⟨_, b.bound v l old⟩
    · exact (claimFailure_eq_none claim named).imp id fun own => ⟨_, own⟩

/-- Release Lanes (R12). -/
theorem State.move_release {v : VisitSlot} (lanes : LaneSet) (opened : s.visits[v].state = .opened) :
    s.Move ((s.unbindLanes (s.visits[v].laneSet &&& lanes)).modifyVisit v
      (fun r => { r with laneSet := r.laneSet &&& ~~~lanes })) := by
  generalize ht : (s.unbindLanes (s.visits[v].laneSet &&& lanes)).modifyVisit v
      (fun r => { r with laneSet := r.laneSet &&& ~~~lanes }) = t
  have lane : ∀ l : Lane, t.lanes[l] =
      if inSet (s.visits[v].laneSet &&& lanes) l then { s.lanes[l] with state := .idle } else s.lanes[l] :=
    fun l => by rw [← ht]; exact ofFn_get _ l
  have visit : t.visits = upd s.visits v (fun r => { r with laneSet := r.laneSet &&& ~~~lanes }) := by rw [← ht]; rfl
  have tag : t.visitTag v = s.visitTag v := by rw [State.visitTag, visit, upd_same]; rfl
  have set : t.visits[v].laneSet = s.visits[v].laneSet &&& ~~~lanes := by rw [visit, upd_same]
  have tables : s.SameTables t := by subst ht; exact ⟨rfl, rfl, rfl, rfl, rfl, rfl, rfl, rfl⟩
  have wait : t.settleWait = s.settleWait := by rw [← ht]; rfl
  have items : t.items = s.items ∧ t.lossCount = s.lossCount := by rw [← ht]; exact ⟨rfl, rfl⟩
  clear ht
  refine .rebinds (v := v) (.of_tables tables (by rw [items.1]; exact id) (by rw [items.2]; exact id) fun w => ?_)
    (fun l => ?_) (fun b l => ?_) (fun w hw => ?_) opened ?_ ?_ ?_ ?_ wait (fun b => b.relane (v := v) (fun w hw => ?_)
      ?_ (fun l => ?_) (fun l hl => ?_))
  · rw [visit]
    exact State.keeps_upd (.of_segments rfl fun _ h => h.of_live (by rw [opened]; nofun) rfl rfl rfl rfl rfl id) w
  · rw [lane]; split <;> rfl
  · rw [lane]
    split
    · next h =>
      rw [inSet_and, Bool.and_eq_true] at h
      rw [b.bound v l h.1]
      exact iff_of_false nofun nofun
    · rfl
  · rw [visit]; exact upd_other _ _ _ _ hw
  · rw [visit, upd_same]
  · rw [visit, upd_same]; exact .inl opened
  · rw [visit, upd_same]
  · rw [visit, upd_same]
  · rw [visit]; exact upd_other _ _ _ _ hw
  · rw [visit, upd_same]; exact fun h => absurd opened h
  · rw [set, tag, lane, inSet_and_not, inSet_and]
    by_cases old : inSet s.visits[v].laneSet l = true
    · by_cases named : inSet lanes l = true
      · simp only [old, named, Bool.and_true, Bool.not_true, Bool.and_false, Bool.false_eq_true, if_false, if_true]
      · simp only [old, named, Bool.true_and, Bool.not_false, if_true, Bool.false_eq_true, if_false]
        exact b.bound v l old
    · simp only [old, Bool.false_and, Bool.false_eq_true, if_false]
  · rw [set, inSet_and_not, Bool.and_eq_true] at hl
    exact .inr ⟨_, b.bound v l hl.1⟩

/-! ### Visits that leave OPEN, and visits that settle -/

/-- A CLOSING visit without tagged items enters SETTLING (R19, R22). -/
theorem State.move_enterSettling {v : VisitSlot} (closing : s.visits[v].state = .closing)
    (drained : s.visits[v].tagged = 0) : s.Move (s.enterSettling v) := by
  have live : s.visits[v].state ≠ .free := by rw [closing]; nofun
  rw [State.enterSettling_eq]
  refine ⟨⟨.of_tables ⟨rfl, rfl, rfl, rfl, rfl, rfl, rfl, rfl⟩ id id (State.keeps_upd (.of_segments rfl
    fun _ h => h.settled live rfl rfl rfl rfl rfl rfl)), fun l => .refl _⟩, .leave [v] ?_⟩
  have same : ∀ w : VisitSlot, ((upd s.visits v fun r => { r with state := .settling, grace := 0 })[w].number =
      s.visits[w].number ∧ (upd s.visits v fun r => { r with state := .settling, grace := 0 })[w].laneSet =
      s.visits[w].laneSet) ∧ (upd s.visits v fun r => { r with state := .settling, grace := 0 })[w].segments =
      s.visits[w].segments ∧ (upd s.visits v fun r => { r with state := .settling, grace := 0 })[w].tagged =
      s.visits[w].tagged := fun w => by
    rw [upd_get]
    split
    · next e => subst e; exact ⟨⟨rfl, rfl⟩, rfl, rfl⟩
    · exact ⟨⟨rfl, rfl⟩, rfl, rfl⟩
  exact {
    bound := fun _ _ => Iff.rfl
    hold := fun _ => id
    queued := fun _ _ => id
    staged := fun _ c hc => .inl ⟨c, hc, rfl, rfl⟩
    nodup := List.nodup_singleton v
    number := fun w => (same w).1.1
    laneSet := fun w => (same w).1.2
    segments := fun w => (congrArg List.length (same w).2.1).ge
    stays := fun w hw => by
      simp only
      rw [upd_other _ _ _ _ (fun e => hw (List.mem_singleton.2 e))]
    settles := fun w hw => by
      obtain rfl := List.mem_singleton.1 hw
      simp only [upd_same]
      exact ⟨closing, trivial, drained⟩
    wait := rfl
    tagged := fun sound w hw => (same w).2.2.trans (sound.tagged w hw) }

theorem State.moves_completeDrain (v : VisitSlot) : s.Moves (s.completeDrain v) := by
  rcases s.completeDrain_cases v with ⟨drained, e⟩ | ⟨-, e⟩ <;> rw [e]
  obtain ⟨closing, none⟩ := (s.drained_iff v).1 drained
  exact .single (State.move_enterSettling closing none)

/-- A visit leaves OPEN with its elapsed time at a count, its lanes given up (R15 to R17). -/
theorem State.moves_left {v : VisitSlot} (opened : s.visits[v].state = .opened) (e : Nat)
    (he : s.visits[v].inRange → e ≤ s.visits[v].openLimit) (c : CloseCause) (flags : PartFlags) :
    s.Moves { s with
      lanes := s.lanesWithout s.visits[v].laneSet
      visits := upd s.visits v (fun r => Visit.left { r with elapsed := e } c s.graceSeconds)
      settleWait := s.waitAfter v s.visits[v].tagged
      partFlags := flags } := by
  have closes : s.Move { s with
      lanes := s.lanesWithout s.visits[v].laneSet
      visits := upd s.visits v (fun r =>
        { r with elapsed := e, cause := c, laneSet := 0, state := .closing, grace := s.graceSeconds })
      partFlags := flags } := by
    have lane := s.lanesWithout_get s.visits[v].laneSet
    refine .rebinds (v := v) ?_ (fun l => ?_) (fun b l => ?_) (fun w hw => upd_other _ _ _ _ hw) opened ?_ ?_ ?_ ?_
      rfl (fun b => b.relane (v := v) (fun w hw => upd_other _ _ _ _ hw) ?_ (fun l => ?_) (fun l hl => ?_))
    · refine .of_tables ⟨rfl, rfl, rfl, rfl, rfl, rfl, rfl, rfl⟩ id id (State.keeps_upd (.of_segments rfl
        fun sources h => ?_))
      exact ⟨nofun, fun _ => h.live (by rw [opened]; nofun), he h, nofun, sources.1.2, fun _ => sources.1.1⟩
    · simp only [lane]; split <;> rfl
    · simp only [lane]
      split
      · next h => rw [b.bound v l h]; exact iff_of_false nofun nofun
      · rfl
    · simp only [upd_same]
    · simp only [upd_same]; exact .inr trivial
    · simp only [upd_same]
    · simp only [upd_same]
    · simp only [upd_same]; exact fun _ => trivial
    · simp only [upd_same, inSet_zero, Bool.false_eq_true, if_false, lane]
      split <;> rfl
    · simp only [upd_same, inSet_zero, Bool.false_eq_true] at hl
  refine (Relation.ReflTransGen.single closes).trans ?_
  by_cases h0 : s.visits[v].tagged = 0
  · refine .single (Eq.subst (motive := fun t => State.Move _ t) ?_ (State.move_enterSettling (v := v)
      (by simp only [upd_same]) (by simp only [upd_same]; exact h0)))
    simp only [State.enterSettling_eq, upd_upd, State.waitAfter, if_pos h0, State.visitTag, upd_same]
    rw [upd_congr (g := fun r => Visit.left { r with elapsed := e } c s.graceSeconds)
      (by simp only [Visit.left, if_pos h0])]
  · rw [upd_congr (g := fun r => Visit.left { r with elapsed := e } c s.graceSeconds)
      (by simp only [Visit.left, if_neg h0]), State.waitAfter, if_neg h0]

end Sys2Proof.Machine

/-! ## The changes that requests make -/

namespace Sys2Proof.Machine

variable {s : State}

/-! ### Open Visit and Next Segment -/

theorem newSegment_linesSound (a : AccountSlot) (r : Account) : (newSegment a r).linesSound :=
  ⟨Nat.zero_le _, List.nodup_nil⟩

theorem newSegment_inRange (a : AccountSlot) (r : Account) : (newSegment a r).inRange := by
  refine ⟨Nat.zero_le _, Nat.zero_le _, Nat.zero_le _, Nat.zero_le _, Nat.zero_le _, fun f => ?_,
    ⟨Nat.zero_le _, Nat.zero_le _, Nat.zero_le _, Nat.zero_le _, Nat.zero_le _⟩, fun x hx => nomatch hx⟩
  simp [newSegment]

theorem succNumber_range {n : Nat} (h : 1 ≤ n ∧ n ≤ 65535) : 1 ≤ succNumber n ∧ succNumber n ≤ 65535 := by
  unfold succNumber
  split <;> omega

theorem TariffSlot.addPin_contents (x : TariffSlot) : x.addPin.contents = x.contents := by cases x <;> rfl

theorem appliedMinutes_limit {minutes : Nat} (h : 1 ≤ minutes) :
    60 ≤ 60 * appliedMinutes minutes ∧ 60 * appliedMinutes minutes ≤ 14400 := by
  unfold appliedMinutes
  omega

/-- One account changes within its ranges. -/
theorem State.accounts_upd_inRange {a : AccountSlot} {f : Account → Account}
    (h : s.accounts[a].inRange → (f s.accounts[a]).inRange) (ok : ∀ b : AccountSlot, s.accounts[b].inRange)
    (b : AccountSlot) : (upd s.accounts a f)[b].inRange := by
  rw [upd_get]
  split
  · exact h (ok a)
  · exact ok b

/-- One account changes and keeps its number. -/
theorem State.accounts_upd_unique {a : AccountSlot} {f : Account → Account}
    (number : (f s.accounts[a]).number = s.accounts[a].number) (ok : s.AccountsUnique) (b c : AccountSlot) :
    (upd s.accounts a f)[b].number ≠ 0 → (upd s.accounts a f)[b].number = (upd s.accounts a f)[c].number → b = c := by
  have same : ∀ b : AccountSlot, (upd s.accounts a f)[b].number = s.accounts[b].number := fun b => by
    rw [upd_get]
    split
    · next e => subst e; exact number
    · rfl
  rw [same, same]
  exact ok b c

/-- Open Visit takes a FREE record and a number that no visit holds (R3, R9). -/
theorem State.move_openVisitAt {v : VisitSlot} (t : TariffIndex) (a : AccountSlot) {lanes : Byte} {minutes : Nat}
    (free : s.visits[v].state = .free) (minute : 1 ≤ minutes)
    (claim : s.claimFailure ⟨v, s.nextNumber⟩ (lanes.setWidth 6) = none) :
    s.Move (s.openVisitAt v t a (lanes.setWidth 6) minutes) := by
  have claimed : ∀ l : Lane, Machine.names lanes l → s.lanes[l].state = .idle ∨ s.lanes[l].state = .bound ⟨v, s.nextNumber⟩ :=
    fun l h => claimFailure_eq_none claim ((inSet_setWidth lanes l).trans h)
  have number : s.SourcesInRange → (1 ≤ s.nextNumber ∧ s.nextNumber ≤ 65535) ∧
      ∀ w : VisitSlot, s.visits[w].state ≠ .free → s.visits[w].number ≠ s.nextNumber := fun sources => by
    obtain ⟨k, -, found, unheld, -⟩ := visitNumberAssigned s sources.2.1 sources.2.2 ⟨v, free⟩
    exact ⟨by omega, unheld⟩
  rw [openVisitAt_eq t a minutes claimed]
  have lane : ∀ l : Lane, (Vector.ofFn fun l : Lane => if lanes.getLsbD l.val then
      { s.lanes[l] with state := .bound ⟨v, s.nextNumber⟩ } else s.lanes[l])[l] =
      if inSet (lanes.setWidth 6) l then { s.lanes[l] with state := .bound ⟨v, s.nextNumber⟩ } else s.lanes[l] :=
    fun l => by rw [ofFn_get, inSet_setWidth]
  have port : ∀ l : Lane, (Vector.ofFn fun l : Lane => if lanes.getLsbD l.val then
      { s.lanes[l] with state := .bound ⟨v, s.nextNumber⟩ } else s.lanes[l])[l] = { s.lanes[l] with
        state := if inSet (lanes.setWidth 6) l then .bound ⟨v, s.nextNumber⟩ else s.lanes[l].state } := fun l => by
    rw [lane]; split <;> rfl
  refine ⟨⟨?_, fun l => ?_⟩, .opens v ?_⟩
  · exact { State.KeepsRest.refl s with
      accounts := fun ok => State.accounts_upd_inRange (f := fun r => { r with useCount := r.useCount + 1 }) id ok
      accountsUnique := fun ok => State.accounts_upd_unique rfl ok
      tariffs := fun ok i g hg => by
        simp only [upd_get] at hg
        split at hg
        · rw [TariffSlot.addPin_contents] at hg; exact ok t g hg
        · exact ok i g hg
      sources := fun ok => ⟨ok.1, succNumber_range (number ok).1⟩
      visits := State.keeps_upd {
        count := fun _ => by simp only [List.length_singleton]; omega
        lines := fun _ g hg => by
          obtain rfl := List.mem_singleton.1 hg
          exact newSegment_linesSound a _
        ranges := fun _ g hg => by
          obtain rfl := List.mem_singleton.1 hg
          exact newSegment_inRange a _
        range := fun sources _ => by
          obtain ⟨low, high⟩ := (number sources).1
          obtain ⟨sixty, top⟩ := appliedMinutes_limit minute
          exact ⟨nofun, fun _ => ⟨low, high, sixty, top, List.cons_ne_nil _ _⟩, Nat.zero_le _,
            fun _ => by simp only [newVisit]; omega, Nat.zero_le _, nofun⟩ } }
  · simp only [port]
    exact .of_queue rfl rfl id id id id
  · exact {
      queue := fun l => by simp only [port]
      context := fun l => by simp only [port]
      others := fun w hw => upd_other _ _ _ _ hw
      free := free
      opened := by simp only [upd_same, newVisit]
      fresh := fun sources w hw => by
        simp only [upd_same, newVisit]
        exact (number sources).2 w hw
      tagged := by simp only [upd_same, newVisit]
      segments := by simp only [upd_same]; exact List.cons_ne_nil _ _
      wait := rfl
      bindings := fun b => by
        have unset : s.visits[v].laneSet = 0 := b.onlyOpen v (by rw [free]; nofun)
        refine b.relane (v := v) (fun w hw => upd_other _ _ _ _ hw) ?_ (fun l => ?_) (fun l hl => ?_)
        · simp only [upd_same, newVisit]; exact fun h => absurd rfl h
        · simp only [port, upd_same, State.visitTag, newVisit, unset, inSet_zero, Bool.false_eq_true, if_false]
        · simp only [upd_same] at hl
          exact (claimFailure_eq_none claim hl).imp id fun own => ⟨_, own⟩
      hold := fun b h l => by
        refine (h l).congr ?_ (by simp only [port]) (by simp only [port])
        simp only [port]
        split
        · next hl =>
          rcases claimFailure_eq_none claim hl with e | e
          · rw [e]; exact iff_of_false nofun nofun
          · rw [e]
        · rfl }

theorem State.move_addSegment {v : VisitSlot} (a : AccountSlot) (opened : s.visits[v].state = .opened)
    (space : s.visits[v].segments.length < 8) : s.Move (s.addSegment v a) := by
  rw [State.addSegment_eq]
  refine .minor ?_ (fun l => .refl _) (fun w => ?_) rfl
  · exact { State.KeepsRest.refl s with
      accounts := fun ok => State.accounts_upd_inRange (f := fun r => { r with useCount := r.useCount + 1 }) id ok
      accountsUnique := fun ok => State.accounts_upd_unique rfl ok
      visits := State.keeps_upd {
        count := fun _ => by rw [List.length_append, List.length_singleton]; omega
        lines := fun ok g hg => by
          rcases List.mem_append.1 hg with hg | hg
          · exact ok g hg
          · obtain rfl := List.mem_singleton.1 hg
            exact newSegment_linesSound a _
        ranges := fun ok g hg => by
          rcases List.mem_append.1 hg with hg | hg
          · exact ok g hg
          · obtain rfl := List.mem_singleton.1 hg
            exact newSegment_inRange a _
        range := fun _ h => h.of_live (by rw [opened]; nofun) rfl rfl rfl rfl rfl
          fun _ => List.append_ne_nil_of_right_ne_nil _ (List.cons_ne_nil _ _) } }
  · simp only [upd_get]
    split
    · next e => subst e; exact ⟨rfl, rfl, rfl, rfl, by simp⟩
    · exact .refl _

/-! ### Cancelled visits -/

/-- The items that carry a tag leave a lane, and every other tag keeps its items (R24). -/
theorem LanePort.chosenCount_withoutVisit {p q : LanePort} {u : VisitTag}
    (queue : q.queue = p.queue.filter (fun e => !(Choice.ofVisit u).queued e))
    (context : q.context = p.context.filter (fun x => !(Choice.ofVisit u).staged x)) (w : VisitTag) :
    q.chosenCount (Choice.ofVisit w) = if w = u then 0 else p.chosenCount (Choice.ofVisit w) := by
  split
  · next same =>
    subst same
    refine LanePort.chosenCount_eq_zero (fun c hc => ?_) fun e he => ?_
    · rw [context, Option.filter_eq_some_iff] at hc
      simpa [Choice.ofVisit] using hc.2
    · rw [queue, List.mem_filter] at he
      simpa [Choice.ofVisit] using he.2
  · next other =>
    have queued : (q.queue.filter (Choice.ofVisit w).queued).length =
        (p.queue.filter (Choice.ofVisit w).queued).length := by
      rw [queue, List.filter_filter]
      refine congrArg List.length (List.filter_congr fun e _ => ?_)
      rw [Bool.eq_iff_iff, Bool.and_eq_true]
      refine and_iff_left_of_imp fun h => ?_
      have tag : e.tag = some w := by simpa [Choice.ofVisit] using h
      simpa [Choice.ofVisit, tag] using other
    have staged : q.chosenStaged (Choice.ofVisit w) = p.chosenStaged (Choice.ofVisit w) := by
      rw [LanePort.chosenStaged, LanePort.chosenStaged, context]
      cases hc : p.context with
      | none => rfl
      | some c =>
        by_cases gone : c.tag = u
        · simp [Choice.ofVisit, Option.filter_some, gone, Ne.symm other]
        · simp [Choice.ofVisit, Option.filter_some, gone]
    rw [LanePort.chosenCount, LanePort.chosenCount, queued, staged]

theorem LanePort.without_holdSound (p : LanePort) (c : Choice) : (p.without c).holdSound := by
  rw [LanePort.without_eq]
  exact LanePort.holdSound_of_holdFor (p := p) Iff.rfl rfl

/-- A lane that loses whole stacks or none keeps its capacities, ranges and stacks. -/
theorem LanePort.Keeps.without (p : LanePort) {c : Choice} (whole : c.Whole) : p.Keeps (p.without c) where
  queue h := by rw [LanePort.without_eq]; exact (List.length_filter_le _ _).trans h
  tx h := by rw [LanePort.without_eq]; exact h
  pass h := by
    rw [LanePort.without_eq]
    simp only
    split
    · exact Nat.zero_le _
    · exact h
  level h := by rw [LanePort.without_eq]; exact h
  counters h := by rw [LanePort.without_eq]; exact h
  sound h := h.without whole (by rw [LanePort.without_eq]) (by rw [LanePort.without_eq])
  numbered h := h.without whole (by rw [LanePort.without_eq]) (by rw [LanePort.without_eq])

theorem LanePort.Keeps.unbound (p : LanePort) : p.Keeps p.unbound := .of_queue rfl rfl id id id id

theorem givenBack_le {n : Nat} (h : n ≤ 65535) (xs : List Nat) : givenBack n xs ≤ 65535 := by
  rw [givenBack_eq]
  split
  · exact h
  · exact Nat.min_le_left _ _

theorem Account.inRange.voided {r : Account} (h : r.inRange) (a : AccountSlot) (gs : List Segment) :
    (r.voided a gs).inRange := by
  obtain ⟨number, floats, held, paid, ceiling⟩ := h
  refine ⟨number, fun f => ?_, held, paid, ceiling⟩
  simp only [Account.voided, Account.withFloat, ofFn_get]
  exact givenBack_le (floats f) _

theorem TariffSlot.contents_of_released {x : TariffSlot} {k : Nat} {g : Generation}
    (h : (x.released k).contents = some g) : x.contents = some g := by
  cases x with
  | retiring g' n =>
    simp only [TariffSlot.released] at h
    split at h
    · exact h
    · split at h
      · cases h
      · exact h
  | empty => exact h
  | pending g' => exact h
  | active g' n => exact h

/-- What cancelled visits leave of the tables (R24, R174). -/
theorem State.KeepsRest.of_void {t : State} (gs : List Segment) (k : TariffIndex → Nat)
    (accounts : ∀ a : AccountSlot, t.accounts[a] = s.accounts[a].voided a gs)
    (tariffs : ∀ i : TariffIndex, t.tariffs[i] = s.tariffs[i].released (k i))
    (queues : t.settlementQueue = s.settlementQueue ∧ t.types = s.types)
    (sources : t.graceSeconds = s.graceSeconds ∧ t.visitCounter = s.visitCounter ∧ t.agingLimit = s.agingLimit)
    (responses : t.responses.length ≤ s.responses.length) (items : s.items.length ≤ 32 → t.items.length ≤ 32)
    (lossCount : s.lossCount ≤ 65535 → t.lossCount ≤ 65535)
    (visits : ∀ v : VisitSlot, t.visits[v] = Visit.free ∨ t.visits[v] = s.visits[v]) : s.KeepsRest t where
  responses h := responses.trans h
  items := items
  settlementQueue := by rw [queues.1]; exact id
  types := by rw [State.TypesSound, State.TypesSound, queues.2]; exact id
  accounts ok a := by rw [accounts]; exact (ok a).voided a gs
  accountsUnique ok a b := by rw [accounts, accounts]; exact ok a b
  tariffs ok i g hg := by rw [tariffs] at hg; exact ok i g (TariffSlot.contents_of_released hg)
  lossCount := lossCount
  sources := by rw [State.SourcesInRange, State.SourcesInRange, sources.1, sources.2.1]; exact id
  aging := by rw [sources.2.2]; exact id
  visits v := by
    rcases visits v with e | e <;> rw [e]
    · exact Visit.keeps_free _ _
    · exact .refl _ _

/-- Cancel Visit (R24 to R26). -/
theorem State.move_cancelVisitAt {v : VisitSlot} (live : s.visits[v].state = .opened ∨ s.visits[v].state = .closing) :
    s.Move (s.cancelVisitAt v) := by
  obtain ⟨i, n, f, e, recorded, -⟩ := s.cancelVisitAt_eq v
  have items := recorded.items_length
  have lossCount := recorded.lossCount_le
  clear recorded
  generalize s.cancelVisitAt v = t at e items lossCount ⊢
  have lane : ∀ l : Lane, t.lanes[l] = LanePort.without
      (if inSet s.visits[v].laneSet l then s.lanes[l].unbound else s.lanes[l]) (Choice.ofVisit (s.visitTag v)) :=
    fun l => by rw [e]; simp only [updAll_get, s.lanesWithout_get]
  have state : ∀ l : Lane, t.lanes[l].state = if inSet s.visits[v].laneSet l then .idle else s.lanes[l].state :=
    fun l => by rw [lane, LanePort.without_eq]; split <;> rfl
  have queue : ∀ l : Lane, t.lanes[l].queue =
      s.lanes[l].queue.filter (fun e => !(Choice.ofVisit (s.visitTag v)).queued e) := fun l => by
    rw [lane, LanePort.without_eq]; split <;> rfl
  have context : ∀ l : Lane, t.lanes[l].context =
      s.lanes[l].context.filter (fun c => !(Choice.ofVisit (s.visitTag v)).staged c) := fun l => by
    rw [lane, LanePort.without_eq]; split <;> rfl
  have others : ∀ w : VisitSlot, w ≠ v → t.visits[w] = s.visits[w] := fun w hw => by
    rw [e]; exact upd_other _ _ _ _ hw
  have freed : t.visits[v] = Visit.free := by rw [e, upd_same]
  refine ⟨⟨?_, fun l => ?_⟩, .frees (· = v) ?_⟩
  · refine .of_void s.visits[v].segments (fun i => pinsOn i [s.visits[v].pin]) (fun a => ?_) (fun i => ?_) ?_ ?_ ?_
      items lossCount (fun w => ?_)
    · rw [e]; exact ofFn_get _ a
    · rw [e]; exact ofFn_get _ i
    · rw [e]; exact ⟨rfl, rfl⟩
    · rw [e]; exact ⟨rfl, rfl, rfl⟩
    · rw [e]
    · by_cases hw : w = v
      · subst hw; exact .inl freed
      · exact .inr (others w hw)
  · rw [lane]
    refine LanePort.Keeps.trans ?_ (.without _ (Choice.whole_ofVisit (s.visitTag v)))
    split
    · exact .unbound _
    · exact .refl _
  · exact {
      queued := fun l x hx => List.mem_of_mem_filter (queue l ▸ hx)
      staged := fun l c hc => by rw [context, Option.filter_eq_some_iff] at hc; exact hc.1
      live := fun w hw => by subst hw; exact live
      freed := fun w hw => by subst hw; exact freed
      others := others
      wait := by rw [e]
      bindings := fun b => b.relane others (fun _ => by rw [freed]; rfl)
        (fun l => by rw [state, freed, Visit.free, inSet_zero, if_neg Bool.false_ne_true])
        (fun l hl => by rw [freed, Visit.free, inSet_zero] at hl; cases hl)
      hold := fun _ _ l => by
        rw [lane]
        exact LanePort.without_holdSound _ _
      untagged := fun w l x hx u hu same => by
        rw [queue, List.mem_filter] at hx
        have names := w.queued l x hx.1 u hu
        have tag : s.visitTag v = u := by rw [← s.names_slot names, same]
        simp [Choice.ofVisit, hu, tag] at hx
      tagged := fun _ w hw _ => State.taggedItems_congr _ fun l => by
        rw [LanePort.chosenCount_withoutVisit (queue l) (context l), if_neg fun e => hw (s.visitTag_injective e)] }

theorem LanePort.partReset_not_bound (p : LanePort) (state : LaneState) (u : VisitTag) :
    (p.partReset state).state ≠ .bound u := by
  unfold LanePort.partReset
  split <;> nofun

theorem LanePort.partReset_holdSound (p : LanePort) (state : LaneState) : (p.partReset state).holdSound := by
  unfold LanePort.partReset LanePort.holdSound
  by_cases h : state = .disabled <;> simp [h]

/-- Part Reset (R174). -/
theorem State.move_resetPart : s.Move s.resetPart := by
  obtain ⟨flags, e, -⟩ := s.resetPart_eq
  generalize s.resetPart = t at e ⊢
  have lane : ∀ l : Lane, t.lanes[l] = s.lanes[l].partReset
      (if s.laneOfAny s.cancellables l then .idle else s.lanes[l].state) := fun l => by rw [e]; exact ofFn_get _ l
  have queue : ∀ l : Lane, t.lanes[l].queue = [] := fun l => by rw [lane]; rfl
  have context : ∀ l : Lane, t.lanes[l].context = none := fun l => by rw [lane]; rfl
  have visit : ∀ v : VisitSlot, t.visits[v] = if v ∈ s.cancellables then Visit.free else s.visits[v] := fun v => by
    rw [e]; exact ofFn_get _ v
  refine ⟨⟨?_, fun l => ?_⟩, .frees (· ∈ s.cancellables) ?_⟩
  · refine .of_void (s.cancellables.flatMap (fun v => s.visits[v].segments))
      (fun i => pinsOn i (s.cancellables.map (fun v => s.visits[v].pin))) (fun a => ?_) (fun i => ?_) ?_ ?_ ?_ ?_ ?_
      (fun w => ?_)
    · rw [e]; exact ofFn_get _ a
    · rw [e]; exact ofFn_get _ i
    · rw [e]; exact ⟨rfl, rfl⟩
    · rw [e]; exact ⟨rfl, rfl, rfl⟩
    · rw [e]; exact List.length_take_le' _ _
    · rw [e]; exact fun h => (List.length_take_le' _ _).trans h
    · rw [e]; exact id
    · rw [visit]; split
      · exact .inl rfl
      · exact .inr rfl
  · rw [lane]
    exact ⟨fun _ => Nat.zero_le _, fun _ => (List.length_take_le _ _).trans (by decide), fun _ => Nat.zero_le _, id, id,
      fun _ => LanePort.stacksSound_empty rfl rfl, fun _ => LanePort.stacksNumbered_empty rfl rfl⟩
  · exact {
      queued := fun l x hx => by rw [queue] at hx; cases hx
      staged := fun l c hc => by rw [context] at hc; cases hc
      live := fun v hv => (s.mem_cancellables v).1 hv
      freed := fun v hv => by rw [visit, if_pos hv]
      others := fun v hv => by rw [visit, if_neg hv]
      wait := by rw [e]
      bindings := fun b => by
        have unset : ∀ v : VisitSlot, t.visits[v].laneSet = 0 := fun v => by
          rw [visit]
          split
          · rfl
          · next kept => exact b.onlyOpen v fun o => kept ((s.mem_cancellables v).2 (.inl o))
        refine ⟨fun v _ => unset v, fun v l hl => ?_, fun l u hu => ?_⟩
        · rw [unset, inSet_zero] at hl; cases hl
        · rw [lane] at hu
          exact absurd hu (LanePort.partReset_not_bound _ _ u)
      hold := fun _ _ l => by
        rw [lane]
        exact LanePort.partReset_holdSound _ _
      untagged := fun _ l x hx => by rw [queue] at hx; cases hx
      tagged := fun w v hv live => by
        have settling : s.visits[v].state = .settling := by
          rw [s.mem_cancellables] at hv
          cases h : s.visits[v].state <;> simp_all
        rw [w.taggedItems_eq_zero (State.not_names_of_state (.inr settling)), State.taggedItems_eq_zero fun l =>
          LanePort.chosenCount_eq_zero (fun c hc => by rw [context] at hc; cases hc)
            (fun x hx => by rw [queue] at hx; cases hx)] }

end Sys2Proof.Machine

/-! ## Every request follows the changes -/

namespace Sys2Proof.Machine

variable {s : State}

/-! ### Lane Reset -/

theorem LanePort.cleared_holdSound (p : LanePort) : p.cleared.holdSound := by
  rw [LanePort.cleared_eq]
  unfold LanePort.holdSound
  by_cases h : p.state = .disabled <;> simp [h]

theorem LanePort.Keeps.cleared (p : LanePort) : p.Keeps p.cleared := by
  rw [LanePort.cleared_eq]
  exact ⟨fun _ => Nat.zero_le _, fun h => (List.length_take_le' _ _).trans h, fun _ => Nat.zero_le _, id,
    fun _ => ⟨Nat.zero_le _, Nat.zero_le _, Nat.zero_le _, Nat.zero_le _, Nat.zero_le _, Nat.zero_le _⟩,
    fun _ => LanePort.stacksSound_empty rfl rfl, fun _ => LanePort.stacksNumbered_empty rfl rfl⟩

theorem State.loweredOn_kept (l : Lane) (v : VisitSlot) : (s.loweredOn l v).laneSet = s.visits[v].laneSet ∧
    (s.loweredOn l v).segments = s.visits[v].segments ∧
    (s.visits[v].state ≠ .free → (s.loweredOn l v).tagged = s.visits[v].tagged - s.taggedOn l v) := by
  unfold State.loweredOn
  split
  · next free => exact ⟨rfl, rfl, fun live => absurd free live⟩
  · exact ⟨rfl, rfl, fun _ => rfl⟩

theorem State.loweredOn_keeps (l : Lane) (v : VisitSlot) (G : Prop) : Visit.Keeps G s.visits[v] (s.loweredOn l v) := by
  unfold State.loweredOn
  split
  · exact .refl _ _
  · next live => exact .of_segments rfl fun _ h => h.of_live live rfl rfl rfl rfl rfl id

/-- Lane Reset empties a lane, and the drains that end enter SETTLING (R53). -/
theorem State.move_resetLane (l : Lane) : s.Move (s.resetLane l) := by
  obtain ⟨fi, e⟩ := s.resetLane_eq l
  generalize s.resetLane l = t at e
  have lane : ∀ m : Lane, t.lanes[m] = if m = l then s.lanes[m].cleared else s.lanes[m] := fun m => by
    rw [e]
    simp only [upd_get]
    split
    · next same => rw [same]
    · rfl
  have visit : ∀ v : VisitSlot, t.visits[v] = if v ∈ s.resetOrder l then
      { s.loweredOn l v with state := .settling, grace := 0 } else s.loweredOn l v := fun v => by
    rw [e]; exact ofFn_get _ v
  have queue : t.lanes[l].queue = [] := by rw [lane, if_pos rfl, LanePort.cleared_eq]
  have context : t.lanes[l].context = none := by rw [lane, if_pos rfl, LanePort.cleared_eq]
  have other : ∀ m : Lane, m ≠ l → t.lanes[m] = s.lanes[m] := fun m hm => by rw [lane, if_neg hm]
  have tagged : ∀ v : VisitSlot, s.visits[v].state ≠ .free →
      t.visits[v].tagged = s.visits[v].tagged - s.taggedOn l v := fun v live => by
    rw [visit, ← (s.loweredOn_kept l v).2.2 live]
    split <;> rfl
  refine ⟨⟨.of_tables ?_ (by rw [e]; exact id) (by rw [e]; exact id) fun v => ?_, fun m => ?_⟩,
    .leave (s.resetOrder l) ?_⟩
  · rw [e]; exact ⟨rfl, rfl, rfl, rfl, rfl, rfl, rfl, rfl⟩
  · have lowered := s.loweredOn_keeps l v s.SourcesInRange
    rw [visit]
    split
    · next drained =>
      have live : (s.loweredOn l v).state ≠ .free := by
        rw [s.loweredOn_state, ((s.mem_resetOrder l v).1 drained).1]; nofun
      exact lowered.trans (.of_segments rfl fun _ h => h.settled live rfl rfl rfl rfl rfl rfl) id
    · exact lowered
  · rw [lane]
    split
    · exact .cleared _
    · exact .refl _
  · exact {
      bound := fun m u => by
        rw [lane]
        split
        · rw [LanePort.cleared_eq]
        · rfl
      hold := fun m h => by
        rw [lane]
        split
        · exact LanePort.cleared_holdSound _
        · exact h
      queued := fun m x hx => by
        by_cases hm : m = l
        · subst hm; rw [queue] at hx; cases hx
        · rwa [other m hm] at hx
      staged := fun m c hc => by
        by_cases hm : m = l
        · subst hm; rw [context] at hc; cases hc
        · rw [other m hm] at hc; exact .inl ⟨c, hc, rfl, rfl⟩
      nodup := s.resetOrder_nodup l
      number := fun v => by rw [visit, ← s.loweredOn_number l v]; split <;> rfl
      laneSet := fun v => by rw [visit, ← (s.loweredOn_kept l v).1]; split <;> rfl
      segments := fun v => by rw [visit, ← (s.loweredOn_kept l v).2.1]; split <;> exact le_rfl
      stays := fun v hv => by rw [visit, if_neg hv, s.loweredOn_state]
      settles := fun v hv => by
        obtain ⟨closing, -, last⟩ := (s.mem_resetOrder l v).1 hv
        refine ⟨closing, by rw [visit, if_pos hv], ?_⟩
        rw [tagged v (by rw [closing]; nofun)]
        omega
      wait := by rw [e]
      tagged := fun sound v live => by
        have counts := State.taggedItems_except (s := s) (t := t) l (s.visitTag v) fun m hm => by rw [other m hm]
        have none : t.lanes[l].chosenCount (Choice.ofVisit (s.visitTag v)) = 0 :=
          LanePort.chosenCount_eq_zero (fun c hc => by rw [context] at hc; cases hc)
            (fun x hx => by rw [queue] at hx; cases hx)
        rw [tagged v live, sound.tagged v live, State.taggedOn]
        omega }

/-! ### Configure Lane -/

theorem LanePort.Minor.enable (p : LanePort) : p.Minor p.enable := by
  unfold LanePort.enable
  split
  · exact .refl _
  · next off =>
    have disabled : p.state = .disabled := by
      rw [LanePort.enabled_iff, not_not] at off; exact off
    refine ⟨.of_queue rfl rfl id id id id, fun u => ?_, fun _ => LanePort.rehold_holdSound _, rfl, rfl⟩
    rw [disabled]
    exact iff_of_false nofun nofun

theorem LanePort.Minor.disable {p : LanePort} (free : ¬ p.Bound) : p.Minor p.disable := by
  unfold LanePort.disable
  split
  · have quiet : p.Minor { p.dropUnstarted with
        state := .disabled, hold := true, passCount := 0
        downLosses := satAdd Config.top16 p.downLosses p.unstarted } := by
      refine ⟨.of_queue rfl rfl (fun h => (List.length_take_le' _ _).trans h) (fun _ => Nat.zero_le _) id ?_,
        fun u => iff_of_false nofun fun h => free ⟨u, h⟩, fun _ => ⟨fun _ => rfl, fun h => absurd rfl h⟩, rfl, rfl⟩
      rintro ⟨h1, h2, h3, h4, h5, -⟩
      exact ⟨h1, h2, h3, h4, h5, satAdd_le _ _ _⟩
    dsimp only
    split
    · exact quiet.trans (.latch _ .downstreamLoss)
    · exact quiet
  · exact .refl _

/-- Configure Lane, where it does not disable a BOUND lane (R32, R33). -/
theorem LanePort.Minor.configure {p : LanePort} {enabled : Bool} (free : enabled = false → ¬ p.Bound)
    (kind : ReadKind) {level : Nat} (hl : level ≤ 3) (reporting : Bool) :
    p.Minor (p.configure enabled kind level reporting) := by
  have set : p.Minor { p with kind := kind, level := level, reporting := reporting } :=
    .of_same rfl rfl rfl rfl id id (fun _ => hl) id
  unfold LanePort.configure
  dsimp only
  split
  · exact set.trans (.enable _)
  · next off => exact set.trans (.disable (free (Bool.eq_false_iff.2 off)))

theorem LanePort.isBound_iff (p : LanePort) : p.isBound = true ↔ p.Bound := by
  unfold LanePort.isBound LanePort.Bound
  cases p.state <;> simp

/-! ### Answers -/

/-- What a request's rule makes of the part: changes that events are made of, and no response. -/
def Answer.Follows (a : Answer) (s : State) : Prop :=
  s.Moves a.state ∧ a.state.responses.length ≤ s.responses.length

theorem refuse_follows (c : ResponseCode) (d : Detail) : (refuse s c d).Follows s := ⟨.refl, le_rfl⟩

theorem accept_self_follows (d : Detail) : (accept s d).Follows s := ⟨.refl, le_rfl⟩

theorem accept_follows {t : State} {d : Detail} (move : s.Moves t) (responses : t.responses = s.responses) :
    (accept t d).Follows s := ⟨move, by rw [accept, responses]⟩

theorem ite_follows {c : Prop} [Decidable c] {a b : Answer} (ha : c → a.Follows s) (hb : ¬ c → b.Follows s) :
    (if c then a else b).Follows s := by
  split
  · next h => exact ha h
  · next h => exact hb h

theorem withVisit_follows {n : Nat} {absent : Detail} {k : VisitSlot → Answer}
    (h : ∀ v : VisitSlot, s.visits[v].state ≠ .free → (k v).Follows s) : (withVisit s n absent k).Follows s := by
  unfold withVisit
  refine ite_follows (fun _ => refuse_follows _ _) fun _ => ?_
  split
  · exact refuse_follows _ _
  · next v found => exact h v (State.findVisit_eq_some.1 found).1.1

theorem whenOpen_follows {v : VisitSlot} {a : Answer} (h : s.visits[v].state = .opened → a.Follows s) :
    (whenOpen s v a).Follows s := ite_follows h fun _ => refuse_follows _ _

theorem withAccount_follows {n : Nat} {k : AccountSlot → Answer} (h : ∀ a, (k a).Follows s) :
    (withAccount s n k).Follows s := by
  unfold withAccount
  refine ite_follows (fun _ => refuse_follows _ _) fun _ => ?_
  split
  · exact refuse_follows _ _
  · exact h _

/-! ### Visits -/

theorem openVisit_follows (account : Nat) (lanes : Byte) (minutes : Nat) :
    (openVisit account lanes minutes s).Follows s := by
  unfold openVisit
  split
  · exact refuse_follows _ _
  · next set hset =>
    refine ite_follows (fun _ => refuse_follows _ _) fun inRange => ?_
    have minute : 1 ≤ minutes := by
      rw [Bool.or_eq_true, not_or, beq_iff_eq] at inRange
      omega
    obtain rfl : lanes.setWidth 6 = set := by
      unfold laneSetOf at hset
      split at hset
      · exact Option.some.inj hset
      · cases hset
    split
    · exact refuse_follows _ _
    · next t active =>
      split
      · exact refuse_follows _ _
      · next v slot =>
        split
        · exact refuse_follows _ _
        · next a found =>
          split
          · exact refuse_follows _ _
          · next claim =>
            have free := (State.freeSlot_eq_some.1 slot).1
            refine accept_follows (.single (State.move_openVisitAt t a free minute claim)) ?_
            rw [openVisitAt_eq t a minutes fun l h =>
              claimFailure_eq_none claim ((inSet_setWidth lanes l).trans h)]

theorem bindLanes_follows (visit : Nat) (lanes : Byte) : (bindLanes visit lanes s).Follows s := by
  unfold bindLanes
  split
  · exact refuse_follows _ _
  · refine withVisit_follows fun v _ => whenOpen_follows fun opened => ?_
    split
    · exact refuse_follows _ _
    · next claim => exact accept_follows (.single (State.move_bindClaimed opened claim)) rfl

theorem releaseLanes_follows (visit : Nat) (lanes : Byte) : (releaseLanes visit lanes s).Follows s := by
  unfold releaseLanes
  split
  · exact refuse_follows _ _
  · exact withVisit_follows fun v _ => whenOpen_follows fun opened =>
      accept_follows (.single (State.move_release _ opened)) rfl

theorem nextSegment_follows (visit account : Nat) : (nextSegment visit account s).Follows s := by
  unfold nextSegment
  refine ite_follows (fun _ => refuse_follows _ _) fun _ => withVisit_follows fun v _ => whenOpen_follows fun opened =>
    ite_follows (fun _ => refuse_follows _ _) fun space => ?_
  split
  · exact refuse_follows _ _
  · exact accept_follows (.single (State.move_addSegment _ opened (Nat.not_le.1 space))) rfl

/-- Close Visit is a visit leaving OPEN at the elapsed time it has (R17). -/
theorem State.moves_leaveOpen {v : VisitSlot} (opened : s.visits[v].state = .opened) (c : CloseCause) :
    s.Moves (s.leaveOpen v c) := by
  rw [State.leaveOpen_eq]
  exact State.moves_left opened s.visits[v].elapsed (fun h => h.elapsed) c s.partFlags

theorem closeVisit_follows (visit : Nat) : (closeVisit visit s).Follows s := by
  unfold closeVisit
  refine withVisit_follows fun v _ => whenOpen_follows fun opened =>
    accept_follows (State.moves_leaveOpen opened _) ?_
  rw [State.leaveOpen_eq]

theorem cancelVisit_follows (visit : Nat) : (cancelVisit visit s).Follows s := by
  unfold cancelVisit
  refine withVisit_follows fun v live => ite_follows (fun _ => refuse_follows _ _) fun early => ?_
  have state : s.visits[v].state = .opened ∨ s.visits[v].state = .closing := by
    cases h : s.visits[v].state with
    | free => exact absurd h live
    | settling => exact absurd h early
    | opened => exact .inl rfl
    | closing => exact .inr rfl
  refine accept_follows (.single (State.move_cancelVisitAt state)) ?_
  obtain ⟨_, _, _, e, -⟩ := s.cancelVisitAt_eq v
  rw [e]

theorem readVisit_follows (key : VisitKey) (segment : Nat) : (readVisit key segment s).Follows s := by
  unfold readVisit
  split
  · exact withVisit_follows fun v _ => accept_self_follows _
  · split
    · exact refuse_follows _ _
    · exact accept_self_follows _

/-! ### Lanes -/

theorem configureLane_follows (lane enabled kind level reporting : Nat) :
    (configureLane lane enabled kind level reporting s).Follows s := by
  unfold configureLane
  split
  · next l e k r _ _ _ _ =>
    refine ite_follows (fun _ => refuse_follows _ _) fun hl => ?_
    unfold configureLaneAt
    refine ite_follows (fun _ => refuse_follows _ _) fun _ => ite_follows (fun _ => refuse_follows _ _) fun inUse =>
      ite_follows (fun _ => refuse_follows _ _) fun _ => ?_
    refine accept_follows (.single (s.move_modifyLane l _ (.configure (fun off bound => inUse ?_) k (Nat.not_lt.1 hl) r))) rfl
    rw [off, (LanePort.isBound_iff _).2 bound]
    rfl
  · exact refuse_follows _ _

theorem laneReset_follows (lane : Nat) : (laneReset lane s).Follows s := by
  unfold laneReset
  split
  · exact refuse_follows _ _
  · next l _ =>
    refine accept_follows (.single (State.move_resetLane l)) ?_
    obtain ⟨_, e⟩ := s.resetLane_eq l
    rw [e]

theorem readLane_follows (lane : Nat) : (readLane lane s).Follows s := by
  unfold readLane
  split
  · exact refuse_follows _ _
  · exact accept_self_follows _

end Sys2Proof.Machine

/-! ## The requests on tables, accounts and the part -/

namespace Sys2Proof.Machine

variable {s : State}

/-! ### Container types -/

theorem typeEntryOf_tagCode {tagCode family schedule : Nat} {spec : TypeSpec} {e : TypeEntry}
    (h : typeEntryOf tagCode spec family schedule = some e) : e.tagCode = tagCode := by
  unfold typeEntryOf at h
  split at h
  · split at h
    · rw [← Option.some.inj h]
    · cases h
  · cases h

theorem writeType_follows (tagCode : Nat) (spec : TypeSpec) (family schedule : Nat) :
    (writeType tagCode spec family schedule s).Follows s := by
  unfold writeType
  split
  · exact refuse_follows _ _
  · next e he =>
    refine ite_follows (fun _ => refuse_follows _ _) fun space =>
      accept_follows (.single (s.move_setTypes _ fun ok => ⟨?_, putType_ascending ok.2⟩)) rfl
    obtain ⟨grows, replaces⟩ := putType_length e s.types
    cases found : s.findType tagCode with
    | none =>
      rw [found] at space
      have : ¬ 64 ≤ s.types.length := by simpa using space
      omega
    | some x =>
      rw [replaces ok.2 ⟨x, List.mem_of_find?_eq_some found, ?_⟩]
      · exact ok.1
      · rw [typeEntryOf_tagCode he]
        simpa using List.find?_some found

theorem deleteType_follows (tagCode : Nat) : (deleteType tagCode s).Follows s := by
  unfold deleteType
  refine ite_follows (fun _ => refuse_follows _ _) fun _ => ?_
  split
  · exact refuse_follows _ _
  · exact accept_follows (.single (s.move_setTypes _ fun ok =>
      ⟨(List.length_filter_le _ _).trans ok.1, ok.2.filter _⟩)) rfl

theorem readTypeByTagCode_follows (tagCode : Nat) : (readTypeByTagCode tagCode s).Follows s := by
  unfold readTypeByTagCode
  refine ite_follows (fun _ => refuse_follows _ _) fun _ => ?_
  split
  · exact refuse_follows _ _
  · exact accept_self_follows _

theorem readTypeByIndex_follows (index : Nat) : (readTypeByIndex index s).Follows s := by
  unfold readTypeByIndex
  refine ite_follows (fun _ => refuse_follows _ _) fun _ => ?_
  split
  · exact refuse_follows _ _
  · exact accept_self_follows _

/-! ### Tariffs -/

theorem Schedule.blank_inRange : Schedule.blank.inRange := by
  refine ⟨⟨?_, ?_, ?_, ?_⟩, ?_, ?_, ?_⟩ <;> exact Nat.zero_le _

theorem Generation.blank_inRange : Generation.blank.inRange := by
  refine ⟨Nat.zero_le _, ⟨Nat.zero_le _, Nat.zero_le _, Nat.zero_le _, Nat.zero_le _⟩, fun k => ?_⟩
  have : Generation.blank.schedules[k] = Schedule.blank := by simp [Generation.blank]
  rw [this]
  exact Schedule.blank_inRange

theorem loadWrite_follows {change : Generation → Generation} {detail : TariffIndex → Generation → Detail}
    (h : ∀ g : Generation, g.inRange → (change g).inRange) : (loadWrite s change detail).Follows s := by
  unfold loadWrite
  split
  · refine accept_follows (.single (s.move_setTariff _ _ fun _ g hg => ?_)) rfl
    cases hg
    exact h _ Generation.blank_inRange
  · next g hs =>
    refine accept_follows (.single (s.move_setTariff _ _ fun ok g' hg => ?_)) rfl
    cases hg
    exact h g (ok s.loadSlot g (by rw [hs]; rfl))
  · exact refuse_follows _ _
  · exact refuse_follows _ _

theorem writeTariffHeader_follows (generation mode feeA feeB feeC feeD : Nat) (enables : Byte) :
    (writeTariffHeader generation mode feeA feeB feeC feeD enables s).Follows s := by
  unfold writeTariffHeader
  split
  · refine ite_follows (fun _ => refuse_follows _ _) fun inRange => loadWrite_follows fun g ok => ?_
    simp only [Bool.or_eq_true, decide_eq_true_eq, not_or, not_lt] at inRange
    obtain ⟨⟨⟨⟨number, a⟩, b⟩, c⟩, d⟩ := inRange
    exact ⟨number, ⟨a, b, c, d⟩, ok.2.2⟩
  · exact refuse_follows _ _

theorem writeSchedule_follows (schedule defined depositA depositB depositC depositD bottle damaged ullage : Nat) :
    (writeSchedule schedule defined depositA depositB depositC depositD bottle damaged ullage s).Follows s := by
  unfold writeSchedule
  split
  · refine ite_follows (fun _ => refuse_follows _ _) fun inRange => loadWrite_follows fun g ok => ?_
    simp only [Bool.or_eq_true, decide_eq_true_eq, not_or, not_lt] at inRange
    obtain ⟨⟨⟨⟨⟨⟨share, a⟩, b⟩, c⟩, d⟩, bottle⟩, ullage⟩ := inRange
    refine ⟨ok.1, ok.2.1, fun k => ?_⟩
    simp only [upd_get]
    split
    · exact ⟨⟨a, b, c, d⟩, bottle, share, ullage⟩
    · exact ok.2.2 k
  · exact refuse_follows _ _

theorem readTariff_follows (slot part : Nat) : (readTariff slot part s).Follows s := by
  unfold readTariff
  split
  · exact refuse_follows _ _
  · refine ite_follows (fun _ => refuse_follows _ _) fun _ => ?_
    split
    · exact accept_self_follows _
    · split
      · exact accept_self_follows _
      · exact accept_self_follows _

theorem TariffSlot.contents_of_superseded {x : TariffSlot} {g : Generation} (h : x.superseded.contents = some g) :
    x.contents = some g := by
  cases x with
  | active g' n =>
    simp only [TariffSlot.superseded] at h
    split at h
    · exact h
    · cases h
  | empty => exact h
  | pending g' => exact h
  | retiring g' n => exact h

/-- A PENDING slot is promoted, and the former ACTIVE one superseded (R121). -/
theorem State.moves_promote {i : TariffIndex} {g : Generation} (pending : s.tariffs[i].state = .pending)
    (h : s.tariffs[i].contents = some g) : s.Moves (s.promote i g) := by
  unfold State.promote
  split
  · next o active =>
    have other : i ≠ o := fun e => by
      rw [e, State.state_of_activeTariff active] at pending
      cases pending
    refine (Relation.ReflTransGen.single (s.move_setTariff o _ fun ok g' hg =>
      ok o g' (TariffSlot.contents_of_superseded hg))).tail (State.move_setTariff _ i _ fun ok g' hg => ?_)
    cases hg
    refine ok i g ?_
    rw [State.setTariff, upd_other _ _ _ _ other]
    exact h
  · refine .single (s.move_setTariff i _ fun ok g' hg => ?_)
    cases hg
    exact ok i g h

theorem promoteTariff_follows (expected : Nat) : (promoteTariff expected s).Follows s := by
  unfold promoteTariff
  refine ite_follows (fun _ => refuse_follows _ _) fun _ => ?_
  split
  · exact refuse_follows _ _
  · next i g found =>
    refine ite_follows (fun _ => refuse_follows _ _) fun _ => ite_follows (fun _ => refuse_follows _ _) fun _ =>
      ite_follows (fun _ => refuse_follows _ _) fun _ => ?_
    obtain ⟨j, pending, held⟩ := Option.bind_eq_some_iff.1 found
    obtain ⟨g', contents, same⟩ := Option.map_eq_some_iff.1 held
    cases same
    refine accept_follows (State.moves_promote ?_ contents) ?_
    · simpa using List.find?_some pending
    · unfold State.promote
      split <;> rfl

theorem discardPending_follows : (discardPending s).Follows s := by
  unfold discardPending
  split
  · exact refuse_follows _ _
  · exact accept_follows (.single (s.move_setTariff _ _ fun _ g hg => nomatch hg)) rfl

/-! ### Accounts -/

theorem State.duplicateOf_eq_none {a : AccountSlot} {n : Nat} (h : s.duplicateOf a n = none) (b : AccountSlot)
    (hb : b ≠ a) : s.accounts[b].number ≠ n := by
  rw [State.duplicateOf, allAccounts, find?_finRange_eq_none] at h
  simpa [hb, -Fin.getElem_fin] using h b

theorem Account.written_number (r : Account) (n : Nat) (cls : CustomerClass) (frozen : Bool) (ceiling : Nat) :
    (r.written n cls frozen ceiling).number = n := by
  unfold Account.written
  split <;> rfl

theorem Account.inRange.written {r : Account} (h : r.inRange) {n ceiling : Nat} (hn : n ≤ 16777215)
    (hc : ceiling ≤ 4294967295) (cls : CustomerClass) (frozen : Bool) : (r.written n cls frozen ceiling).inRange := by
  obtain ⟨-, floats, held, paid, -⟩ := h
  obtain ⟨-, floats', held', paid', -⟩ := Account.empty_inRange
  unfold Account.written
  split
  · exact ⟨hn, floats', held', paid', hc⟩
  · exact ⟨hn, floats, held, paid, hc⟩

theorem writeAccount_follows (slot account cls frozen ceiling : Nat) :
    (writeAccount slot account cls frozen ceiling s).Follows s := by
  unfold writeAccount
  split
  · next a cl f _ _ _ =>
    refine ite_follows (fun _ => refuse_follows _ _) fun inRange => ?_
    simp only [Bool.or_eq_true, Bool.not_eq_true', decide_eq_true_eq, not_or, not_lt, Bool.not_eq_false,
      accountInRange, Bool.and_eq_true] at inRange
    unfold writeAccountAt
    split
    · exact refuse_follows _ _
    · next unique =>
      refine ite_follows (fun _ => refuse_follows _ _) fun _ => accept_follows (.single (.aside rfl rfl rfl ?_)) rfl
      have number : ∀ b : AccountSlot, (upd s.accounts a fun r => r.written account cl f ceiling)[b].number =
          if b = a then account else s.accounts[b].number := fun b => by
        rw [upd_get]
        split
        · exact Account.written_number _ _ _ _ _
        · rfl
      exact { State.KeepsRest.refl s with
        accounts := fun ok => State.accounts_upd_inRange (fun h => h.written inRange.1.2 inRange.2 cl f) ok
        accountsUnique := fun ok b c => by
          have other := State.duplicateOf_eq_none unique
          simp only [State.modifyAccount, number]
          intro live same
          by_cases hb : b = a <;> by_cases hc : c = a
          · rw [hb, hc]
          · rw [if_pos hb, if_neg hc] at same; exact absurd same.symm (other c hc)
          · rw [if_neg hb, if_pos hc] at same; exact absurd same (other b hb)
          · rw [if_neg hb] at live same; rw [if_neg hc] at same; exact ok b c live same }
  · exact refuse_follows _ _

theorem deleteAccount_follows (account : Nat) : (deleteAccount account s).Follows s := by
  unfold deleteAccount
  refine withAccount_follows fun a => ite_follows (fun _ => refuse_follows _ _) fun _ =>
    ite_follows (fun _ => refuse_follows _ _) fun _ => accept_follows (.single (.aside rfl rfl rfl ?_)) rfl
  have number : ∀ b : AccountSlot, (upd s.accounts a fun _ => Account.empty)[b].number =
      if b = a then 0 else s.accounts[b].number := fun b => by
    rw [upd_get]
    split <;> rfl
  exact { State.KeepsRest.refl s with
    accounts := fun ok => State.accounts_upd_inRange (fun _ => Account.empty_inRange) ok
    accountsUnique := fun ok b c => by
      simp only [State.modifyAccount, number]
      intro live same
      by_cases hb : b = a
      · rw [if_pos hb] at live; exact absurd rfl live
      · rw [if_neg hb] at live same
        by_cases hc : c = a
        · rw [if_pos hc] at same; exact absurd same live
        · rw [if_neg hc] at same; exact ok b c live same }

theorem readAccount_follows (key : AccountKey) : (readAccount key s).Follows s := by
  unfold readAccount
  split
  · exact withAccount_follows fun a => accept_self_follows _
  · split
    · exact refuse_follows _ _
    · exact accept_self_follows _

theorem Account.inRange.setFloat {r : Account} (h : r.inRange) (f : Family) {n : Nat} (hn : n ≤ 65535) :
    Account.inRange { r with floats := upd r.floats f (fun _ => n) } := by
  obtain ⟨number, floats, held, paid, ceiling⟩ := h
  refine ⟨number, fun g => ?_, held, paid, ceiling⟩
  simp only [upd_get]
  split
  · exact hn
  · exact floats g

theorem State.move_setFloatValue (a : AccountSlot) (f : Family) {n : Nat} (hn : n ≤ 65535) :
    s.Move (s.setFloatValue a f n) :=
  s.move_modifyAccount a _ rfl fun h => h.setFloat f hn

theorem issueContainers_follows (account family count : Nat) : (issueContainers account family count s).Follows s := by
  unfold issueContainers
  split
  · exact refuse_follows _ _
  · next f _ =>
    refine ite_follows (fun _ => refuse_follows _ _) fun _ => withAccount_follows fun a => ?_
    dsimp only
    have set := State.move_setFloatValue (s := s) a f (satAdd_le Config.top16 (s.float a f) count)
    refine accept_follows ?_ ?_
    · unfold State.addFloat State.latchPartIf
      split
      · exact (Relation.ReflTransGen.single set).tail (State.move_latchPart _ _)
      · exact .single set
    · obtain ⟨flags, e⟩ := s.addFloat_frame a f count
      rw [e]

theorem setFloat_follows (account family value : Nat) : (setFloat account family value s).Follows s := by
  unfold setFloat
  split
  · exact refuse_follows _ _
  · exact ite_follows (fun _ => refuse_follows _ _) fun inRange => withAccount_follows fun a =>
      accept_follows (.single (State.move_setFloatValue a _ (Nat.not_lt.1 inRange))) rfl

theorem freezeRun_follows (start count mark : Nat) : (freezeRun start count mark s).Follows s := by
  unfold freezeRun
  split
  · exact refuse_follows _ _
  · refine ite_follows (fun _ => refuse_follows _ _) fun _ =>
      accept_follows (.single (State.move_accounts rfl fun a => ?_)) (s.freezeSlots_responses _ _ _)
    rw [State.freezeSlots, ofFn_get]
    split <;> exact ⟨rfl, id⟩

theorem dayClose_follows : (dayClose s).Follows s := by
  refine accept_follows (.single (State.move_accounts rfl fun a => ?_)) s.clearPaid_responses
  rw [State.clearPaid, updAll_get]
  exact ⟨rfl, fun ⟨number, floats, held, _, ceiling⟩ => ⟨number, floats, held, Nat.zero_le _, ceiling⟩⟩

theorem releaseHeld_follows (account amount : Nat) : (releaseHeld account amount s).Follows s := by
  unfold releaseHeld
  refine ite_follows (fun _ => refuse_follows _ _) fun _ => withAccount_follows fun a =>
    ite_follows (fun _ => refuse_follows _ _) fun _ => ite_follows (fun _ => refuse_follows _ _) fun space =>
      accept_follows (.single (.aside rfl rfl rfl ?_)) rfl
  exact { State.KeepsRest.refl s with
    settlementQueue := fun _ => by
      rw [State.releaseAt, State.setSettlementQueue, List.length_append, List.length_singleton]
      exact Nat.not_le.1 space
    accounts := fun ok => State.accounts_upd_inRange (fun ⟨number, floats, held, _, ceiling⟩ =>
      ⟨number, floats, (Nat.sub_le _ _).trans held, satAdd_le _ _ _, ceiling⟩) ok
    accountsUnique := fun ok => State.accounts_upd_unique rfl ok }

/-! ### The part -/

theorem State.moves_clearFlags : s.Moves s.clearFlags := by
  have part : s.Move (s.setPartFlags 0) :=
    .aside rfl rfl rfl (.of_same ⟨rfl, rfl, rfl, rfl, rfl, rfl, rfl, rfl⟩ rfl id id)
  exact (Relation.ReflTransGen.single part).tail
    (State.move_mapLanes _ _ fun l => .of_same rfl rfl rfl rfl id id id id)

theorem setMasks_follows (part : Byte) (lanes : LaneMaskFields) : (setMasks part lanes s).Follows s := by
  unfold setMasks
  split
  · exact accept_follows (.single (s.move_setMaskSets _ _)) rfl
  · exact refuse_follows _ _

theorem appliedGrace_range (n : Nat) : 1 ≤ appliedGrace n ∧ appliedGrace n ≤ 60 := by
  unfold appliedGrace
  split <;> omega

theorem setPartParameters_follows (grace aging : Nat) : (setPartParameters grace aging s).Follows s :=
  accept_follows (.single (s.move_setParameters (appliedGrace_range grace) (Nat.min_le_right _ _))) rfl

theorem partReset_follows : (partReset s).Follows s := by
  refine ⟨.single State.move_resetPart, ?_⟩
  obtain ⟨_, e, -⟩ := s.resetPart_eq
  rw [partReset, accept, e]
  exact List.length_take_le' _ _

/-- Every request's rule follows the changes (R162, R163). -/
theorem answerTo_follows (r : Request) : (answerTo r s).Follows s := by
  cases r with
  | openVisit a ls m => exact openVisit_follows a ls m
  | bindLanes v ls => exact bindLanes_follows v ls
  | releaseLanes v ls => exact releaseLanes_follows v ls
  | nextSegment v a => exact nextSegment_follows v a
  | closeVisit v => exact closeVisit_follows v
  | cancelVisit v => exact cancelVisit_follows v
  | readVisit k i => exact readVisit_follows k i
  | configureLane l en k lv rep => exact configureLane_follows l en k lv rep
  | laneReset l => exact laneReset_follows l
  | readLane l => exact readLane_follows l
  | writeType t spec f sch => exact writeType_follows t spec f sch
  | deleteType t => exact deleteType_follows t
  | readTypeByTagCode t => exact readTypeByTagCode_follows t
  | readTypeByIndex i => exact readTypeByIndex_follows i
  | writeTariffHeader g m a b c d en => exact writeTariffHeader_follows g m a b c d en
  | writeSchedule k d a b c e bt f u => exact writeSchedule_follows k d a b c e bt f u
  | readTariff t p => exact readTariff_follows t p
  | promoteTariff e => exact promoteTariff_follows e
  | discardPending => exact discardPending_follows
  | writeAccount sl a cl fr ce => exact writeAccount_follows sl a cl fr ce
  | deleteAccount a => exact deleteAccount_follows a
  | readAccount k => exact readAccount_follows k
  | issueContainers a f n => exact issueContainers_follows a f n
  | setFloat a f n => exact setFloat_follows a f n
  | freezeRun st n m => exact freezeRun_follows st n m
  | dayClose => exact dayClose_follows
  | releaseHeld a n => exact releaseHeld_follows a n
  | identify => exact accept_self_follows _
  | readStatus => exact accept_follows State.moves_clearFlags rfl
  | setMasks p ls => exact setMasks_follows p ls
  | setPartParameters g a => exact setPartParameters_follows g a
  | partReset => exact partReset_follows

/-- A request taken: its rule, its response, the end of the event, or the overrun (R160, R161). -/
theorem State.moves_serve (tag code : Byte) {m : State → Answer} (h : (m s).Follows s) :
    s.Moves (s.serve tag code m) := by
  unfold State.serve
  split
  · next room =>
    exact (h.1.tail (State.move_respond _ _ (h.2.trans_lt room))).tail (State.move_finish _)
  · exact (Relation.ReflTransGen.single (s.move_latchPart _)).tail (State.move_finish _)

end Sys2Proof.Machine

/-! ## Reads that arrive, and reads that leave a lane -/

namespace Sys2Proof.Machine

variable {s : State}

/-! ### Reads that leave one lane -/

/-- Reads leave a lane or are staged there, and nothing else that links lanes and visits changes. -/
structure State.Takes (s x : State) (l : Lane) : Prop where
  rest : s.KeepsRest x
  keeps : ∀ m : Lane, LanePort.Keeps s.lanes[m] x.lanes[m]
  bound : ∀ (m : Lane) u, x.lanes[m].state = .bound u ↔ s.lanes[m].state = .bound u
  hold : ∀ m : Lane, s.lanes[m].holdSound → x.lanes[m].holdSound
  queued : ∀ e ∈ x.lanes[l].queue, e ∈ s.lanes[l].queue
  staged : ∀ c : StackContext, x.lanes[l].context = some c →
    (∃ y, s.lanes[l].context = some y ∧ c.tag = y.tag ∧ c.segment = y.segment) ∨
      s.names c.tag ∧ c.segment < s.visits[c.tag.slot].segments.length
  others : ∀ m : Lane, m ≠ l → x.lanes[m].queue = s.lanes[m].queue ∧ x.lanes[m].context = s.lanes[m].context
  visits : ∀ v : VisitSlot, Visit.SameLinks s.visits[v] x.visits[v]
  wait : x.settleWait = s.settleWait

theorem State.lowerTagged_visit (x : State) (u : VisitTag) (n : Nat) (v : VisitSlot) :
    (x.lowerTagged u n).visits[v] = { x.visits[v] with
      tagged := x.visits[v].tagged - if x.visits[v].state ≠ .free ∧ x.visitTag v = u then n else 0 } := by
  by_cases live : x.tagLive u = true
  · obtain ⟨state, number⟩ := (x.tagLive_iff u).1 live
    rw [x.lowerTagged_live live, State.modifyVisit_visits, upd_get]
    by_cases e : v = u.slot
    · subst e
      rw [if_pos rfl, if_pos ⟨state, by rw [State.visitTag, number]⟩]
    · rw [if_neg e, if_neg fun h => e (congrArg VisitTag.slot h.2)]
      rfl
  · rw [State.lowerTagged, if_neg live, if_neg]
    · rfl
    · rintro ⟨state, rfl⟩
      exact live ((x.tagLive_iff _).2 ⟨state, rfl⟩)

theorem State.keepsRest_lowerTagged (x : State) (u : VisitTag) (n : Nat) : x.KeepsRest (x.lowerTagged u n) := by
  obtain ⟨visits, e⟩ := x.lowerTagged_frame u n
  have same : x.SameTables (x.lowerTagged u n) := by rw [e]; exact ⟨rfl, rfl, rfl, rfl, rfl, rfl, rfl, rfl⟩
  refine .of_tables same (by rw [e]; exact id) (by rw [e]; exact id) fun v => ?_
  rw [x.lowerTagged_visit]
  by_cases free : x.visits[v].state = .free
  · rw [if_neg fun h => h.1 free]
    exact .refl _ _
  · exact .of_segments rfl fun _ h => h.of_live free rfl rfl rfl rfl rfl id

/-- Reads that carry one tag leave a lane, and the tagged count follows (R6). -/
theorem State.Takes.lowered {x : State} {l : Lane} (h : s.Takes x l) (u : VisitTag) (n : Nat)
    (count : s.TagsSound → ∀ w : VisitTag, x.lanes[l].chosenCount (Choice.ofVisit w) + (if w = u then n else 0) =
      s.lanes[l].chosenCount (Choice.ofVisit w)) : s.Move (x.lowerTagged u n) := by
  obtain ⟨visits, e⟩ := x.lowerTagged_frame u n
  have lanes : (x.lowerTagged u n).lanes = x.lanes := by rw [e]
  have wait : (x.lowerTagged u n).settleWait = x.settleWait := by rw [e]
  have visit := x.lowerTagged_visit u n
  refine ⟨⟨h.rest.trans (x.keepsRest_lowerTagged u n), by rw [lanes]; exact h.keeps⟩, .leave [] ?_⟩
  exact {
    bound := by rw [lanes]; exact h.bound
    hold := by rw [lanes]; exact h.hold
    queued := fun m y hy => by
      rw [lanes] at hy
      by_cases hm : m = l
      · subst hm; exact h.queued y hy
      · rwa [(h.others m hm).1] at hy
    staged := fun m c hc => by
      rw [lanes] at hc
      by_cases hm : m = l
      · subst hm; exact h.staged c hc
      · rw [(h.others m hm).2] at hc; exact .inl ⟨c, hc, rfl, rfl⟩
    nodup := List.nodup_nil
    number := fun v => by rw [visit]; exact (h.visits v).number
    laneSet := fun v => by rw [visit]; exact (h.visits v).laneSet
    segments := fun v => by rw [visit]; exact (h.visits v).segments
    stays := fun v _ => by rw [visit]; exact (h.visits v).state
    settles := fun v hv => nomatch hv
    wait := by rw [wait, h.wait]; exact (List.append_nil _).symm
    tagged := fun sound v live => by
      have tag : x.visitTag v = s.visitTag v := by rw [State.visitTag, (h.visits v).number, State.visitTag]
      have items : (x.lowerTagged u n).taggedItems (s.visitTag v) = x.taggedItems (s.visitTag v) := by
        rw [State.taggedItems, State.taggedItems, lanes]
      have except := State.taggedItems_except (s := s) (t := x) l (s.visitTag v) fun m hm =>
        LanePort.chosenCount_congr _ (h.others m hm).1 (h.others m hm).2
      have here := count sound (s.visitTag v)
      have total := sound.tagged v live
      rw [visit, items]
      simp only [(h.visits v).tagged, (h.visits v).state, tag, live, ne_eq, not_false_eq_true, true_and]
      omega }

/-- Untagged reads leave a lane, or tagged ones are staged there. -/
theorem State.Takes.plain {x : State} {l : Lane} (h : s.Takes x l)
    (count : s.TagsSound → ∀ w : VisitTag,
      x.lanes[l].chosenCount (Choice.ofVisit w) = s.lanes[l].chosenCount (Choice.ofVisit w)) : s.Move x := by
  refine ⟨⟨h.rest, h.keeps⟩, .leave [] ?_⟩
  exact {
    bound := h.bound
    hold := h.hold
    queued := fun m y hy => by
      by_cases hm : m = l
      · subst hm; exact h.queued y hy
      · rwa [(h.others m hm).1] at hy
    staged := fun m c hc => by
      by_cases hm : m = l
      · subst hm; exact h.staged c hc
      · rw [(h.others m hm).2] at hc; exact .inl ⟨c, hc, rfl, rfl⟩
    nodup := List.nodup_nil
    number := fun v => (h.visits v).number
    laneSet := fun v => (h.visits v).laneSet
    segments := fun v => (h.visits v).segments
    stays := fun v _ => (h.visits v).state
    settles := fun v hv => nomatch hv
    wait := by rw [h.wait]; exact (List.append_nil _).symm
    tagged := fun sound v live => by
      rw [(h.visits v).tagged, sound.tagged v live]
      refine (State.taggedItems_congr _ fun m => ?_).symm
      by_cases hm : m = l
      · subst hm; exact count sound _
      · exact LanePort.chosenCount_congr _ (h.others m hm).1 (h.others m hm).2 }

end Sys2Proof.Machine

/-! ## What arrives on the links -/

namespace Sys2Proof.Machine

variable {s : State}

/-! ### Frame errors, overruns and notices -/

theorem State.move_laneError (l : Lane) : s.Move (s.laneError l) := by
  refine s.move_modifyLane l _ ?_
  split
  · refine .of_same rfl rfl rfl rfl id id id ?_
    rintro ⟨accepted, -, overruns, orphans, abandoned, downLosses⟩
    exact ⟨accepted, satAdd_le _ _ _, overruns, orphans, abandoned, downLosses⟩
  · exact .refl _

theorem State.moves_laneErrorArrival (l : Lane) : s.Moves (s.laneErrorArrival l) := by
  unfold State.laneErrorArrival
  split
  · exact (Relation.ReflTransGen.single (State.move_laneError l)).tail (State.move_finish _)
  · exact .refl

theorem State.move_overrunReads (l : Lane) (n : Nat) : s.Move (s.overrunReads l n) := by
  refine s.move_modifyLane l _ (.of_same rfl rfl rfl rfl id id id ?_)
  rintro ⟨accepted, frameErrors, -, orphans, abandoned, downLosses⟩
  exact ⟨accepted, frameErrors, satAdd_le _ _ _, orphans, abandoned, downLosses⟩

theorem State.moves_noticeArrival (l : Lane) (bytes : List Byte) : s.Moves (s.noticeArrival l bytes) := by
  unfold State.noticeArrival
  split
  · exact .refl
  · split
    · exact State.moves_laneErrorArrival l
    · exact (Relation.ReflTransGen.single (State.move_placeItem _ _)).tail (State.move_finish _)

/-! ### Reads that join a queue -/

/-- Reads that a lane's queue has room for join it under the lane's tag (R37, R38). -/
theorem State.move_acceptReads {l : Lane} {es : List ReadEntry} (room : s.lanes[l].queue.length + es.length ≤ 48)
    (tags : ∀ e ∈ es, e.tag = s.lanes[l].tag) (chain : chained es) (numbers : numbered 0 es)
    (fresh : ∀ e ∈ es, ∀ m, e.member = some m → s.lanes[l].stackPending m.stack = false) :
    s.Move (s.acceptReads l es) := by
  obtain ⟨visits, e⟩ := s.acceptReads_frame l es
  have visit := s.acceptReads_visit l es
  have oneTag : ∀ e ∈ es, ∀ f ∈ es, e.tag = f.tag := fun e he f hf => (tags e he).trans (tags f hf).symm
  refine ⟨⟨.of_tables ?_ (by rw [e]; exact id) (by rw [e]; exact id) fun v => ?_, fun m => ?_⟩, .arrive l es tags rfl⟩
  · rw [e]; exact ⟨rfl, rfl, rfl, rfl, rfl, rfl, rfl, rfl⟩
  · obtain ⟨k, e, free⟩ := visit v
    rw [e]
    by_cases live : s.visits[v].state = .free
    · rw [free live]; exact .refl _ _
    · exact .of_segments rfl fun _ h => h.of_live live rfl rfl rfl rfl rfl id
  · rw [e]
    simp only [upd_get]
    split
    · next same =>
      subst same
      rw [LanePort.rehold_eq]
      refine ⟨fun _ => ?_, id, id, id, ?_, fun h => h.arrive rfl rfl chain fresh oneTag,
        fun h => h.arrive rfl rfl chain fresh oneTag numbers⟩
      · simpa only [List.length_append] using room
      · rintro ⟨-, rest⟩
        exact ⟨satAdd_le _ _ _, rest⟩
    · exact .refl _

theorem ReadEntry.unfinished_of_unstacked {e : ReadEntry} (h : e.member = none) : e.unfinished = false := by
  rw [ReadEntry.unfinished, h, Option.any_none]

theorem singleEntry_member (t : Option VisitTag) (r : SingleRead) : (singleEntry t r).member = none := by
  cases r <;> rfl

theorem singleEntry_tag (t : Option VisitTag) (r : SingleRead) : (singleEntry t r).tag = t := by
  cases r <;> rfl

theorem State.moves_singleArrival (l : Lane) (r : SingleRead) : s.Moves (s.singleArrival l r) := by
  unfold State.singleArrival
  split
  · exact .refl
  split
  · exact State.moves_laneErrorArrival l
  split
  · exact (Relation.ReflTransGen.single (State.move_overrunReads l 1)).tail (State.move_finish _)
  · next room =>
    have member := singleEntry_member s.lanes[l].tag r
    have room : s.lanes[l].queue.length < 48 := Nat.lt_of_not_le room
    have finished := ReadEntry.unfinished_of_unstacked member
    refine (Relation.ReflTransGen.single (State.move_acceptReads ?_ ?_ ?_ ?_ ?_)).tail (State.move_finish _)
    · exact room
    · intro e he
      obtain rfl := List.mem_singleton.1 he
      exact singleEntry_tag _ r
    · exact (chained_cons _ _).2 ⟨fun h => absurd (finished.symm.trans h) nofun, trivial⟩
    · refine (numbered_cons _ _ _).2 ⟨fun _ => rfl, fun m h => absurd (member.symm.trans h) nofun, ?_⟩
      rw [ReadEntry.gone, finished]
      rfl
    · intro e he m h
      obtain rfl := List.mem_singleton.1 he
      rw [member] at h
      cases h

theorem State.moves_stackArrival (l : Lane) (stack : Byte) (reads : List CrateRead) :
    s.Moves (s.stackArrival l stack reads) := by
  unfold State.stackArrival
  split
  · exact .refl
  split
  · exact State.moves_laneErrorArrival l
  split
  · exact State.moves_laneErrorArrival l
  split
  · exact State.moves_laneErrorArrival l
  split
  · exact (Relation.ReflTransGen.single (State.move_overrunReads l _)).tail (State.move_finish _)
  · next size pending room =>
    simp only [Bool.or_eq_true, decide_eq_true_eq, not_or, Nat.not_lt] at size
    obtain ⟨some, most⟩ := size
    have free : reads.length ≤ 48 - s.lanes[l].queue.length := Nat.le_of_not_lt room
    have ne : reads ≠ [] := fun h => some (by rw [h]; rfl)
    refine (Relation.ReflTransGen.single (State.move_acceptReads ?_ (fun e he => (stackEntries_mem he).1)
      (stackEntries_chained _ _ _ _) (stackEntries_numbered _ _ 0 _ ne ?_) ?_)).tail (State.move_finish _)
    · rw [stackEntries_length]; omega
    · rw [Nat.zero_add]; exact most
    · intro e he m hm
      obtain ⟨-, m', hm', hs⟩ := stackEntries_mem he
      rw [hm, Option.some.injEq] at hm'
      subst hm'
      rw [hs]
      exact Bool.eq_false_iff.2 pending

/-! ### Stack Cancel -/

/-- Every item of a pending stack carries the tag the stack is withdrawn under (R38). -/
theorem LanePort.stackTag_of_staged {p : LanePort} {n : Nat} {c : StackContext} (hc : p.context = some c)
    (hs : c.stack = n) : p.stackTag n = some c.tag := by
  rw [LanePort.stackTag, hc, Option.filter_some, if_pos (by simpa using hs)]

theorem LanePort.StacksSound.tag_of_queued {p : LanePort} (h : p.StacksSound) {n : Nat} {e : ReadEntry}
    (he : e ∈ p.queue) (hn : e.ofStack n = true) : e.tag = p.stackTag n := by
  obtain ⟨m, hm, rfl⟩ := (e.ofStack_iff n).1 hn
  refine (LanePort.stackTag_eq ((p.stackPending_iff _).2 (.inl ⟨e, he, m, hm, rfl⟩)) (fun f hf k hk hs => ?_)
    fun c hc hs => ?_).symm
  · exact h.oneTag f hf e he k m hk hm hs
  · exact h.stagedTag c hc e he m hm hs.symm

/-- Items taken out of a list, of which all or none are counted. -/
theorem length_filter_without {α : Type} {taken counted : α → Bool} {P : Prop} [Decidable P] {as : List α}
    (h : ∀ a ∈ as, taken a = true → (counted a = true ↔ P)) :
    ((as.filter (fun a => !taken a)).filter counted).length + (if P then (as.filter taken).length else 0) =
      (as.filter counted).length := by
  induction as with
  | nil => simp
  | cons a as ih =>
    have ih := ih fun b hb => h b (List.mem_cons_of_mem _ hb)
    have head := h a List.mem_cons_self
    by_cases ht : taken a = true
    · rw [List.filter_cons_of_neg (by rw [ht]; nofun), List.filter_cons_of_pos ht]
      by_cases hp : P
      · rw [if_pos hp] at ih ⊢
        rw [List.filter_cons_of_pos ((head ht).2 hp), List.length_cons, List.length_cons]
        omega
      · rw [if_neg hp] at ih ⊢
        rw [List.filter_cons_of_neg fun hc => hp ((head ht).1 hc)]
        exact ih
    · rw [List.filter_cons_of_pos (by rw [Bool.eq_false_iff.2 ht]; rfl), List.filter_cons_of_neg ht, List.filter_cons,
        List.filter_cons]
      split
      · rw [List.length_cons, List.length_cons]; omega
      · exact ih

/-- The items of one stack leave a lane, and the tag they share alone loses them (R6, R39). -/
theorem LanePort.StacksSound.chosenCount_withoutStack {p : LanePort} (h : p.StacksSound) (n : Nat) (w : VisitTag) :
    (p.without (Choice.ofStack n)).chosenCount (Choice.ofVisit w) +
        (if p.stackTag n = some w then p.chosenCount (Choice.ofStack n) else 0) =
      p.chosenCount (Choice.ofVisit w) := by
  have queued := length_filter_without (as := p.queue) (taken := (Choice.ofStack n).queued)
    (counted := (Choice.ofVisit w).queued) (P := p.stackTag n = some w) fun e he hn => by
      simp only [Choice.ofVisit, h.tag_of_queued he hn, beq_iff_eq]
  have staged : ((p.without (Choice.ofStack n)).chosenStaged (Choice.ofVisit w)).length +
      (if p.stackTag n = some w then (p.chosenStaged (Choice.ofStack n)).length else 0) =
      (p.chosenStaged (Choice.ofVisit w)).length := by
    rw [LanePort.chosenStaged, LanePort.chosenStaged, LanePort.chosenStaged, LanePort.without_eq]
    cases hc : p.context with
    | none => simp
    | some c =>
      by_cases hs : c.stack = n
      · have tag := LanePort.stackTag_of_staged hc hs
        by_cases hw : c.tag = w <;> simp [Choice.ofStack, Choice.ofVisit, Option.filter_some, hs, tag, hw]
      · simp [Choice.ofStack, Choice.ofVisit, Option.filter_some, hs]
  have queue : (p.without (Choice.ofStack n)).queue = p.queue.filter (fun e => !(Choice.ofStack n).queued e) := by
    rw [LanePort.without_eq]
  rw [LanePort.chosenCount, LanePort.chosenCount, LanePort.chosenCount, queue]
  by_cases tag : p.stackTag n = some w
  · rw [if_pos tag] at queued staged ⊢
    omega
  · rw [if_neg tag] at queued staged ⊢
    omega

/-- The items of one stack leave a lane, each with its record (R39). -/
theorem State.takes_removeStack (l : Lane) (o : ItemOutcome) (n : Nat) :
    s.Takes (s.removeItems l o (Choice.ofStack n)) l := by
  obtain ⟨i, k, f, e, records⟩ := s.removeItems_records l o (Choice.ofStack n)
  generalize s.removeItems l o (Choice.ofStack n) = x at e records
  have lane : ∀ m : Lane, x.lanes[m] = if m = l then s.lanes[m].without (Choice.ofStack n) else s.lanes[m] :=
    fun m => by
      rw [e]
      simp only [upd_get]
      split
      · next same => rw [same]
      · rfl
  have visits : x.visits = s.visits := by rw [e]
  exact {
    rest := .of_same (by rw [e]; exact ⟨rfl, rfl, rfl, rfl, rfl, rfl, rfl, rfl⟩) visits
      records.recorded.items_length records.recorded.lossCount_le
    keeps := fun m => by
      rw [lane]
      split
      · exact .without _ (Choice.whole_ofStack n)
      · exact .refl _
    bound := fun m u => by
      rw [lane]
      split
      · rw [LanePort.without_eq]
      · rfl
    hold := fun m h => by
      rw [lane]
      split
      · exact LanePort.without_holdSound _ _
      · exact h
    queued := fun e he => by
      rw [lane, if_pos rfl, LanePort.without_eq] at he
      exact List.mem_of_mem_filter he
    staged := fun c hc => by
      rw [lane, if_pos rfl, LanePort.without_eq] at hc
      exact .inl ⟨c, (Option.filter_eq_some_iff.1 hc).1, rfl, rfl⟩
    others := fun m hm => by rw [lane, if_neg hm]; exact ⟨rfl, rfl⟩
    visits := fun v => by rw [visits]; exact .refl _
    wait := by rw [e] }

theorem State.removeItems_lane (l : Lane) (o : ItemOutcome) (c : Choice) :
    (s.removeItems l o c).lanes[l] = s.lanes[l].without c := by
  obtain ⟨i, k, f, e, -⟩ := s.removeItems_frame l o c
  rw [e]
  simp only [upd_same]

theorem State.moves_withdrawStack (l : Lane) (n : Nat) : s.Moves (s.withdrawStack l n) := by
  have takes := s.takes_removeStack l .cancelled n
  unfold State.withdrawStack
  cases tag : s.lanes[l].stackTag n with
  | some t =>
    refine (Relation.ReflTransGen.single (takes.lowered t _ fun sound w => ?_)).trans (State.moves_completeDrain _)
    have count := (sound.whole l).chosenCount_withoutStack n w
    simp only [tag, Option.some.injEq, eq_comm (a := t)] at count
    rw [State.removeItems_lane]
    exact count
  | none =>
    refine .single (takes.plain fun sound w => ?_)
    have count := (sound.whole l).chosenCount_withoutStack n w
    simp only [tag, reduceCtorEq, if_false, Nat.add_zero] at count
    rw [State.removeItems_lane]
    exact count

theorem State.moves_cancelArrival (l : Lane) (stack : Byte) : s.Moves (s.cancelArrival l stack) := by
  unfold State.cancelArrival
  split
  · exact .refl
  split
  · exact (State.moves_withdrawStack l _).tail (State.move_finish _)
  · exact (Relation.ReflTransGen.single (State.move_latchLane _ l _)).tail (State.move_finish _)

/-! ### Frames and bytes -/

theorem State.moves_laneFrameArrival (l : Lane) (f : Frame) : s.Moves (s.laneFrameArrival l f) := by
  unfold State.laneFrameArrival
  split
  · exact State.moves_singleArrival l _
  · exact State.moves_stackArrival l _ _
  · exact State.moves_cancelArrival l _
  · exact State.moves_noticeArrival l _
  · exact State.moves_laneErrorArrival l

theorem State.moves_trunkError : s.Moves s.trunkError :=
  (Relation.ReflTransGen.single (State.move_latchPart _ _)).tail (State.move_finish _)

theorem LanePort.Minor.offer (p : LanePort) (f : Frame) : p.Minor (p.offer f) := by
  unfold LanePort.offer
  split
  · next room =>
    rw [Bool.and_eq_true, decide_eq_true_eq] at room
    have room : p.txQueue.length < 4 := room.2
    exact .of_same rfl rfl rfl rfl (fun _ => by rw [List.length_append, List.length_singleton]; omega) id id id
  · refine .of_same rfl rfl rfl rfl id id id ?_
    rintro ⟨accepted, frameErrors, overruns, orphans, abandoned, -⟩
    exact ⟨accepted, frameErrors, overruns, orphans, abandoned, satAdd_le _ _ _⟩

theorem State.moves_downstreamArrival (f : Frame) : s.Moves (s.downstreamArrival f) := by
  refine (Relation.ReflTransGen.single (s.move_mapLanes _ fun l => ?_)).tail (State.move_finish _)
  split
  · exact .offer _ f
  · exact .refl _

theorem unknownRequest_follows (code : Byte) : (unknownRequest code s).Follows s := refuse_follows _ _

theorem answerForm_follows (f : RequestForm) : (answerForm f s).Follows s := by
  cases f with
  | request r => exact answerTo_follows r
  | unknown code => exact unknownRequest_follows code
  | malformed _ => exact refuse_follows _ _

theorem State.moves_trunkFrameArrival (f : Frame) : s.Moves (s.trunkFrameArrival f) := by
  unfold State.trunkFrameArrival
  split
  · split
    · exact State.moves_serve _ _ (answerForm_follows _)
    · exact State.moves_trunkError
  · split
    · exact State.moves_downstreamArrival f
    · exact State.moves_trunkError

/-- What holds of each change holds of a run of changes, one after another. -/
theorem State.moves_foldl {α : Type} {F : State → α → State} (h : ∀ s a, State.Moves s (F s a)) (as : List α) (s : State) :
    s.Moves (as.foldl F s) := by
  induction as generalizing s with
  | nil => exact .refl
  | cons a as ih => exact (h s a).trans (ih _)

theorem State.moves_laneByte (l : Lane) (b : Byte) : s.Moves (s.laneByte l b) := by
  refine (Relation.ReflTransGen.single (s.move_modifyLane l _ ?_)).trans (State.moves_foldl (fun t e => ?_) _ _)
  · exact .of_same rfl rfl rfl rfl id id id id
  · cases e with
    | error => exact State.moves_laneErrorArrival l
    | frame f => exact State.moves_laneFrameArrival l f

theorem State.moves_trunkByte (b : Byte) : s.Moves (s.trunkByte b) := by
  refine (Relation.ReflTransGen.single (s.move_setTrunkRx _)).trans (State.moves_foldl (fun t e => ?_) _ _)
  cases e with
  | error => exact State.moves_trunkError
  | frame f => exact State.moves_trunkFrameArrival f

end Sys2Proof.Machine

/-! ## Commits: what an item changes -/

namespace Sys2Proof.Machine

/-! ### Segments -/

theorem Tally.inRange.add {t : Tally} (h : t.inRange) (c : Condition) (bottles credit : Nat) :
    (t.add c bottles credit).inRange := by
  obtain ⟨sound, damaged, scrap, -, -⟩ := h
  have counts : ∀ (d : Condition) (n : Nat), n ≤ 65535 → (if c = d then satAdd Config.top16 n 1 else n) ≤ 65535 := by
    intro d n hn
    split
    · exact satAdd_le _ _ _
    · exact hn
  exact ⟨counts .sound _ sound, counts .damaged _ damaged, counts .scrap _ scrap, satAdd_le _ _ _, satAdd_le _ _ _⟩

theorem Segment.linesSound.addToLine {g : Segment} (h : g.linesSound) (i : CommitItem) :
    (g.addToLine i).linesSound := by
  obtain ⟨length, distinct⟩ := h
  unfold Segment.addToLine
  split
  · refine ⟨by rw [List.length_map]; exact length, ?_⟩
    rw [List.map_map]
    refine Eq.subst (motive := List.Nodup) (List.map_congr_left fun x _ => ?_) distinct
    simp only [Function.comp]
    split <;> rfl
  · next absent =>
    split
    · next room =>
      refine ⟨by rw [List.length_append]; exact room, ?_⟩
      rw [List.map_append, List.map_singleton]
      refine distinct.append (List.nodup_singleton _) fun n hn same => absent ?_
      obtain rfl := List.mem_singleton.1 same
      obtain ⟨x, hx, ht⟩ := List.mem_map.1 hn
      exact List.any_eq_true.2 ⟨x, hx, beq_iff_eq.2 ht⟩
    · exact ⟨length, distinct⟩

theorem Segment.inRange.addToLine {g : Segment} (h : g.inRange) (i : CommitItem) : (g.addToLine i).inRange := by
  obtain ⟨gross, excessCredit, unlisted, diverted, excess, taken, overflow, lines⟩ := h
  unfold Segment.addToLine
  split
  · refine ⟨gross, excessCredit, unlisted, diverted, excess, taken, overflow, fun x hx => ?_⟩
    obtain ⟨y, hy, rfl⟩ := List.mem_map.1 hx
    split
    · exact (lines y hy).add _ _ _
    · exact lines y hy
  · split
    · refine ⟨gross, excessCredit, unlisted, diverted, excess, taken, overflow, fun x hx => ?_⟩
      rcases List.mem_append.1 hx with hx | hx
      · exact lines x hx
      · obtain rfl := List.mem_singleton.1 hx
        have zero : (⟨0, 0, 0, 0, 0⟩ : Tally).inRange :=
          ⟨Nat.zero_le _, Nat.zero_le _, Nat.zero_le _, Nat.zero_le _, Nat.zero_le _⟩
        exact zero.add _ _ _
    · exact ⟨gross, excessCredit, unlisted, diverted, excess, taken, overflow.add _ _ _, lines⟩

theorem Segment.credit_lines (g : Segment) (amount : Nat) (t : Target) : (g.credit amount t).lines = g.lines := by
  cases t <;> rfl

theorem Segment.inRange.credit {g : Segment} (h : g.inRange) (amount : Nat) (t : Target) :
    (g.credit amount t).inRange := by
  obtain ⟨gross, excessCredit, unlisted, diverted, excess, taken, overflow, lines⟩ := h
  cases t with
  | gross => exact ⟨satAdd_le _ _ _, excessCredit, unlisted, diverted, excess, taken, overflow, lines⟩
  | grossTaking f =>
    refine ⟨satAdd_le _ _ _, excessCredit, unlisted, diverted, excess, fun f' => ?_, overflow, lines⟩
    simp only [Segment.credit, upd_get]
    split
    · exact satAdd_le _ _ _
    · exact taken f'
  | excess => exact ⟨gross, satAdd_le _ _ _, unlisted, diverted, satAdd_le _ _ _, taken, overflow, lines⟩

/-- A segment that keeps its count lines sound and its numbers in range. -/
structure Segment.Keeps (g g' : Segment) : Prop where
  lines : g.linesSound → g'.linesSound
  ranges : g.inRange → g'.inRange

theorem divertedPassage_keeps (g : Segment) (causes : Causes) : g.Keeps (divertedPassage g causes).segment where
  lines := id
  ranges := fun ⟨gross, excessCredit, unlisted, _, rest⟩ => ⟨gross, excessCredit, unlisted, satAdd_le _ _ _, rest⟩

theorem creditedPassage_keeps (g : Segment) (i : CommitItem) (t : Target) (causes : Causes) :
    g.Keeps (creditedPassage g i t causes).segment where
  lines h := by
    have lines : (creditedPassage g i t causes).segment.lines = (g.addToLine i).lines := Segment.credit_lines _ _ _
    rw [Segment.linesSound, lines]
    exact h.addToLine i
  ranges h := (h.addToLine i).credit _ t

/-- One item's passage keeps its segment sound (R83 to R91). -/
theorem passage_keeps (enables : Conditions) (floats : Vector Nat 8) (g : Segment) (i : CommitItem) :
    g.Keeps (passage enables floats g i).segment := by
  unfold passage
  split
  · exact ⟨id, fun ⟨gross, excessCredit, _, rest⟩ => ⟨gross, excessCredit, satAdd_le _ _ _, rest⟩⟩
  split
  · exact divertedPassage_keeps g _
  dsimp only
  split
  · split
    · exact divertedPassage_keeps g _
    · exact creditedPassage_keeps g i _ _
  · exact creditedPassage_keeps g i _ _

theorem Visit.keeps_setSegment {r : Visit} {k : Nat} {g g' : Segment} (hk : r.segments[k]? = some g) (h : g.Keeps g')
    (G : Prop) : Visit.Keeps G r { r with segments := r.segments.set k g' } where
  count := by rw [List.length_set]; exact id
  lines ok x hx := by
    rcases List.mem_or_eq_of_mem_set hx with hx | rfl
    · exact ok x hx
    · exact h.lines (ok g (List.mem_of_getElem? hk))
  ranges ok x hx := by
    rcases List.mem_or_eq_of_mem_set hx with hx | rfl
    · exact ok x hx
    · exact h.ranges (ok g (List.mem_of_getElem? hk))
  range _ ok := by
    by_cases free : r.state = .free
    · rw [ok.free free] at hk; cases hk
    · refine ok.of_live free rfl rfl rfl rfl rfl fun ne => ne_nil_of_length_le ne ?_
      rw [List.length_set]

/-! ### Changes that keep all links -/

/-- A change of records and lanes that keeps all links: what a commit makes. -/
structure State.Side (s t : State) : Prop where
  rest : s.KeepsRest t
  lanes : ∀ l : Lane, LanePort.Minor s.lanes[l] t.lanes[l]
  visits : ∀ v : VisitSlot, Visit.SameLinks s.visits[v] t.visits[v]
  wait : t.settleWait = s.settleWait

theorem State.Side.refl (s : State) : s.Side s := ⟨.refl s, fun _ => .refl _, fun _ => .refl _, rfl⟩

theorem State.Side.trans {s t u : State} (h : s.Side t) (h' : t.Side u) : s.Side u :=
  ⟨h.rest.trans h'.rest, fun l => (h.lanes l).trans (h'.lanes l), fun v => (h.visits v).trans (h'.visits v),
    h'.wait.trans h.wait⟩

variable (s : State)

theorem State.side_modifyLane (l : Lane) (f : LanePort → LanePort) (h : LanePort.Minor s.lanes[l] (f s.lanes[l])) :
    s.Side (s.modifyLane l f) where
  rest := .of_same ⟨rfl, rfl, rfl, rfl, rfl, rfl, rfl, rfl⟩ rfl id id
  lanes m := by
    rw [State.modifyLane, upd_get]
    split
    · next e => subst e; exact h
    · exact .refl _
  visits _ := .refl _
  wait := rfl

theorem State.side_latchLaneIf (l : Lane) (f : LaneFlag) (b : Bool) : s.Side (s.latchLaneIf l f b) := by
  cases b
  · exact .refl s
  · exact s.side_modifyLane l _ (.latch _ f)

theorem State.side_offerRecord (r : ItemRecord) : s.Side (s.offerRecord r) := by
  obtain ⟨i, n, f, e, length, loss⟩ := s.offerRecord_frame r
  rw [e]
  exact ⟨.of_same ⟨rfl, rfl, rfl, rfl, rfl, rfl, rfl, rfl⟩ rfl (fun h => by simp only; omega) loss, fun _ => .refl _,
    fun _ => .refl _, rfl⟩

theorem State.side_takeFloat (a : AccountSlot) (f : Option Family) : s.Side (s.takeFloat a f) := by
  cases f with
  | none => exact .refl s
  | some f =>
    refine ⟨.of_accounts rfl fun b => ?_, fun _ => .refl _, fun _ => .refl _, rfl⟩
    simp only [State.takeFloat, State.setFloatValue, State.modifyAccount, upd_get]
    split
    · next e =>
      subst e
      exact ⟨rfl, fun h => h.setFloat f ((Nat.sub_le _ _).trans (h.2.1 f))⟩
    · exact ⟨rfl, id⟩

theorem State.side_setSegment {v : VisitSlot} {k : Nat} {g g' : Segment} (hk : s.visits[v].segments[k]? = some g)
    (h : g.Keeps g') : s.Side (s.setSegment v k g') where
  rest := .of_tables ⟨rfl, rfl, rfl, rfl, rfl, rfl, rfl, rfl⟩ id id
    (State.keeps_upd (Visit.keeps_setSegment hk h _))
  lanes _ := .refl _
  visits w := by
    rw [State.setSegment, State.modifyVisit, upd_get]
    split
    · next e => subst e; exact ⟨rfl, rfl, rfl, rfl, by rw [List.length_set]⟩
    · exact .refl _
  wait := rfl

theorem State.side_commitItem (l : Lane) (v : VisitSlot) (k : Nat) (enables : Conditions) (i : CommitItem) :
    s.Side (s.commitItem l v k enables i) := by
  unfold State.commitItem
  split
  · exact .refl s
  · next g hk =>
    exact ((((s.side_setSegment hk (passage_keeps _ _ g i)).trans (State.side_takeFloat _ _ _)).trans
      (State.side_latchLaneIf _ l _ _)).trans (State.side_latchLaneIf _ l _ _)).trans (State.side_offerRecord _ _)

theorem State.side_commitItems (l : Lane) (v : VisitSlot) (k : Nat) (enables : Conditions) (is : List CommitItem) :
    s.Side (s.commitItems l v k enables is) := by
  unfold State.commitItems
  induction is generalizing s with
  | nil => exact .refl s
  | cons i is ih => exact (s.side_commitItem l v k enables i).trans (ih _)

theorem State.side_latchPricing (l : Lane) (p : Pricing) : s.Side (s.latchPricing l p) :=
  (s.side_latchLaneIf l _ _).trans (State.side_latchLaneIf _ l _ _)

end Sys2Proof.Machine

/-! ## Grants -/

namespace Sys2Proof.Machine

variable {s : State}

/-! ### The lane that a grant is made on -/

/-- A lane whose head was taken, with the Stack Context that the grant leaves (R42, R46). -/
def LanePort.grantedTo (p : LanePort) (rest : List ReadEntry) (c : Option StackContext) : LanePort :=
  LanePort.rehold { p with queue := rest, passCount := 0, context := c }

/-- The Stack Context once an item is staged (R42). -/
def stagedOnto (c : Option StackContext) (t : VisitTag) (k stack : Nat) (i : StagedItem) : StackContext :=
  match c with
  | some c => { c with items := c.items ++ [i] }
  | none => { stack := stack, tag := t, segment := k, items := [i] }

section lane

variable {p : LanePort} {e : ReadEntry} {rest : List ReadEntry}

/-- What a taken lane holds for a visit: its staged items and its queued reads. -/
theorem LanePort.chosenCount_grantedTo (p : LanePort) (rest : List ReadEntry) (c : Option StackContext) (w : VisitTag) :
    (p.grantedTo rest c).chosenCount (Choice.ofVisit w) =
      (match c with | some x => if x.tag = w then x.items.length else 0 | none => 0) +
        (rest.filter (Choice.ofVisit w).queued).length := by
  cases c with
  | none => rfl
  | some x => by_cases h : x.tag = w <;>
      simp [LanePort.grantedTo, LanePort.rehold, LanePort.chosenCount, LanePort.chosenStaged, Choice.ofVisit, h]

variable (head : p.queue = e :: rest)

include head

theorem LanePort.length_filter_head (w : VisitTag) : (p.queue.filter (Choice.ofVisit w).queued).length =
    (if e.tag = some w then 1 else 0) + (rest.filter (Choice.ofVisit w).queued).length := by
  by_cases h : e.tag = some w
  · rw [head, List.filter_cons_of_pos (by simpa [Choice.ofVisit] using h), if_pos h, List.length_cons, Nat.add_comm]
  · rw [head, List.filter_cons_of_neg (by simpa [Choice.ofVisit] using h), if_neg h, Nat.zero_add]

/-- The head of a queue leaves a lane whose Stack Context stays. -/
theorem LanePort.chosenCount_head (w : VisitTag) :
    (p.grantedTo rest p.context).chosenCount (Choice.ofVisit w) + (if e.tag = some w then 1 else 0) =
      p.chosenCount (Choice.ofVisit w) := by
  have staged : (p.grantedTo rest p.context).chosenStaged (Choice.ofVisit w) = p.chosenStaged (Choice.ofVisit w) := rfl
  have queue : (p.grantedTo rest p.context).queue = rest := rfl
  rw [LanePort.chosenCount, LanePort.chosenCount, LanePort.length_filter_head head, staged, queue]
  omega

/-- Nothing is staged on a lane whose head is an orphan or has no stack (R42). -/
theorem LanePort.StacksSound.context_eq_none (h : p.StacksSound) (single : e.tag = none ∨ e.member = none) :
    p.context = none := by
  cases hc : p.context with
  | none => rfl
  | some c =>
    obtain ⟨e', rest', m, hq, ht, hm, -⟩ := h.staged c hc
    rw [head, List.cons.injEq] at hq
    obtain ⟨rfl, rfl⟩ := hq
    rcases single with h | h
    · rw [h] at ht; cases ht
    · rw [h] at hm; cases hm

variable {t : VisitTag} (tag : e.tag = some t)

include tag

theorem LanePort.StacksSound.stagedOnto_tag (h : p.StacksSound) (k stack : Nat) (i : StagedItem) :
    (stagedOnto p.context t k stack i).tag = t := by
  cases hc : p.context with
  | none => rfl
  | some c =>
    obtain ⟨e', rest', m, hq, ht, -⟩ := h.staged c hc
    rw [head, List.cons.injEq] at hq
    obtain ⟨rfl, rfl⟩ := hq
    rw [tag, Option.some.injEq] at ht
    exact ht.symm

/-- The head of a queue is staged, and each visit keeps its items. -/
theorem LanePort.StacksSound.chosenCount_staged (h : p.StacksSound) (k stack : Nat) (i : StagedItem) (w : VisitTag) :
    (if w = t then (stagedOnto p.context t k stack i).items.length else 0) +
        (rest.filter (Choice.ofVisit w).queued).length = p.chosenCount (Choice.ofVisit w) := by
  have onto := h.stagedOnto_tag head tag k stack i
  rw [LanePort.chosenCount, LanePort.length_filter_head head, tag, LanePort.chosenStaged]
  cases hc : p.context with
  | none => simp [stagedOnto, eq_comm (a := t)]
  | some c =>
    rw [hc] at onto
    have onto : c.tag = t := onto
    by_cases hw : w = t
    · simp [stagedOnto, Choice.ofVisit, onto, hw, Nat.add_assoc]
    · simp [Choice.ofVisit, onto, hw, Ne.symm hw]

end lane

theorem LanePort.Minor.setContext {p q : LanePort} (h : p.Minor q) (c : Option StackContext) :
    LanePort.Minor { p with context := c } { q with context := c } where
  keeps := .of_queue h.links.queue rfl h.keeps.tx h.keeps.pass h.keeps.level h.keeps.counters
  links := ⟨h.links.bound, h.links.hold, h.links.queue, rfl⟩

/-! ### What a grant changes -/

/-- The head of a lane's queue is taken, the lane's Stack Context becomes `c`, and all else that links lanes and
visits stays. -/
structure State.Grants (s x : State) (l : Lane) (rest : List ReadEntry) (c : Option StackContext) : Prop where
  tables : s.KeepsRest x
  lane : LanePort.Minor (s.lanes[l].grantedTo rest c) x.lanes[l]
  others : ∀ m : Lane, m ≠ l → LanePort.Minor s.lanes[m] x.lanes[m]
  visits : ∀ v : VisitSlot, Visit.SameLinks s.visits[v] x.visits[v]
  wait : x.settleWait = s.settleWait

theorem State.grants_takeEntry (l : Lane) (rest : List ReadEntry) :
    s.Grants (s.takeEntry l rest) l rest s.lanes[l].context := by
  have lane : ∀ m : Lane, (s.takeEntry l rest).lanes[m] =
      if m = l then LanePort.rehold { s.lanes[m] with queue := rest, passCount := 0 }
      else if s.lanes[m].waiting && s.lanes[m].effectiveLevel s.agingLimit < s.level l then
        { s.lanes[m] with passCount := satAdd Config.passTop s.lanes[m].passCount 1 }
      else s.lanes[m] := fun m => ofFn_get _ m
  refine ⟨.of_same ⟨rfl, rfl, rfl, rfl, rfl, rfl, rfl, rfl⟩ rfl id id, ?_, fun m hm => ?_, fun _ => .refl _, rfl⟩
  · rw [lane, if_pos rfl]
    exact .refl _
  · rw [lane, if_neg hm]
    split
    · exact .of_same rfl rfl rfl rfl id (fun _ => satAdd_le _ _ _) id id
    · exact .refl _

section grants

variable {x y : State} {l : Lane} {rest : List ReadEntry} {c : Option StackContext}

theorem State.Grants.side (h : s.Grants x l rest c) (side : x.Side y) : s.Grants y l rest c :=
  ⟨h.tables.trans side.rest, h.lane.trans (side.lanes l), fun m hm => (h.others m hm).trans (side.lanes m),
    fun v => (h.visits v).trans (side.visits v), side.wait.trans h.wait⟩

theorem State.Grants.setContext (h : s.Grants x l rest c) {f : LanePort → LanePort} {c' : Option StackContext}
    (hf : f x.lanes[l] = { x.lanes[l] with context := c' }) : s.Grants (x.modifyLane l f) l rest c' where
  tables := h.tables.trans (.of_same ⟨rfl, rfl, rfl, rfl, rfl, rfl, rfl, rfl⟩ rfl id id)
  lane := by
    rw [State.modifyLane, upd_same, hf]
    exact h.lane.setContext c'
  others m hm := by
    rw [State.modifyLane, upd_other _ _ _ _ hm]
    exact h.others m hm
  visits := h.visits
  wait := h.wait

theorem State.Grants.context (h : s.Grants x l rest c) : x.lanes[l].context = c := h.lane.links.context

theorem State.Grants.stageItem (h : s.Grants x l rest c) (t : VisitTag) (k stack : Nat) (i : StagedItem) :
    s.Grants (x.stageItem l t k stack i) l rest (some (stagedOnto c t k stack i)) := by
  refine h.setContext ?_
  simp only [h.context]
  cases c <;> rfl

theorem State.Grants.chosenCount (h : s.Grants x l rest c) (w : VisitTag) :
    x.lanes[l].chosenCount (Choice.ofVisit w) = (s.lanes[l].grantedTo rest c).chosenCount (Choice.ofVisit w) :=
  LanePort.chosenCount_congr _ h.lane.links.queue h.lane.links.context

theorem State.Grants.takes (h : s.Grants x l rest c) {e : ReadEntry} (head : s.lanes[l].queue = e :: rest)
    (sound : s.lanes[l].StacksSound → (s.lanes[l].grantedTo rest c).StacksSound)
    (numbered : s.lanes[l].StacksNumbered → (s.lanes[l].grantedTo rest c).StacksNumbered)
    (staged : ∀ z, c = some z → (∃ y, s.lanes[l].context = some y ∧ z.tag = y.tag ∧ z.segment = y.segment) ∨
      s.names z.tag ∧ z.segment < s.visits[z.tag.slot].segments.length) : s.Takes x l where
  rest := h.tables
  keeps m := by
    by_cases hm : m = l
    · subst hm
      refine .trans (q := s.lanes[m].grantedTo rest c) ⟨fun le => ?_, id, fun _ => Nat.zero_le _, id, id, sound, numbered⟩ h.lane.keeps
      rw [head, List.length_cons] at le
      exact Nat.le_of_succ_le le
    · exact (h.others m hm).keeps
  bound m u := by
    by_cases hm : m = l
    · subst hm; exact h.lane.links.bound u
    · exact (h.others m hm).links.bound u
  hold m := by
    by_cases hm : m = l
    · subst hm; exact fun _ => h.lane.links.hold (LanePort.rehold_holdSound _)
    · exact (h.others m hm).links.hold
  queued e' he := by
    rw [h.lane.links.queue] at he
    rw [head]
    exact List.mem_cons_of_mem _ he
  staged z hz := staged z (h.context.symm.trans hz)
  others m hm := ⟨(h.others m hm).links.queue, (h.others m hm).links.context⟩
  visits := h.visits
  wait := h.wait

end grants

/-! ### The grant's cases -/

section cases

variable {x : State} {l : Lane} {e : ReadEntry} {rest : List ReadEntry} (head : s.lanes[l].queue = e :: rest)

include head

/-- The head goes, and nothing is staged on the lane: it is an orphan or has no stack. -/
theorem State.Grants.takes_single (h : s.Grants x l rest s.lanes[l].context)
    (single : e.tag = none ∨ e.member = none) : s.Takes x l := by
  have fin : e.tag = none ∨ e.unfinished = false := single.imp id ReadEntry.unfinished_of_unstacked
  refine h.takes head (fun sound => ?_) (fun numbered => ?_) fun z hz => .inl ⟨z, hz, rfl, rfl⟩
  · have none := sound.context_eq_none head single
    exact sound.taken head rfl none
  · have none := numbered.whole.context_eq_none head single
    exact numbered.taken head rfl none fin

theorem State.moves_grantOrphan (tag : e.tag = none) : s.Moves ((s.takeEntry l rest).grantOrphan l e) := by
  have grants : s.Grants ((s.takeEntry l rest).grantOrphan l e) l rest s.lanes[l].context := by
    refine ((s.grants_takeEntry l rest).side (State.side_modifyLane _ l _ ?_)).side
      ((State.side_modifyLane _ l _ (.latch _ _)).trans (State.side_offerRecord _ _))
    refine .of_same rfl rfl rfl rfl id id id ?_
    rintro ⟨accepted, frameErrors, overruns, -, abandoned, downLosses⟩
    exact ⟨accepted, frameErrors, overruns, satAdd_le _ _ _, abandoned, downLosses⟩
  refine .single ((grants.takes_single head (.inl tag)).plain fun _ w => ?_)
  have count := LanePort.chosenCount_head head w
  simp only [tag, reduceCtorEq, if_false, Nat.add_zero] at count
  rw [grants.chosenCount, count]

variable {t : VisitTag} {c : GrantContext} (tag : e.tag = some t)

include tag

theorem State.Grants.moves_commitSingle (h : s.Grants x l rest s.lanes[l].context) (member : e.member = none)
    (p : PricedResult) : s.Moves (x.commitSingle l t c e p) := by
  have grants := h.side (x.side_commitItem l t.slot c.segment c.generation.header.enables
    { tagCode := e.tagCode, condition := e.condition, priced := p, stack := none })
  refine (Relation.ReflTransGen.single ((grants.takes_single head (.inr member)).lowered t 1 fun _ w => ?_)).trans
    (State.moves_completeDrain _)
  have count := LanePort.chosenCount_head head w
  simp only [tag, Option.some.injEq, eq_comm (a := t)] at count
  rw [grants.chosenCount]
  exact count

variable {m : StackMember} (member : e.member = some m)

include member

theorem State.Grants.move_staged {i : StagedItem} (position : i.position = m.position) (last : m.last = false)
    (names : s.names t) {k : Nat} (below : k < s.visits[t.slot].segments.length)
    (h : s.Grants x l rest (some (stagedOnto s.lanes[l].context t k m.stack i))) : s.Move x := by
  have stages : (s.lanes[l].context = none ∧ (stagedOnto s.lanes[l].context t k m.stack i).stack = m.stack ∧
      (stagedOnto s.lanes[l].context t k m.stack i).tag = t ∧
      (stagedOnto s.lanes[l].context t k m.stack i).items = [i]) ∨
      ∃ y, s.lanes[l].context = some y ∧ (stagedOnto s.lanes[l].context t k m.stack i).stack = y.stack ∧
        (stagedOnto s.lanes[l].context t k m.stack i).tag = y.tag ∧
        (stagedOnto s.lanes[l].context t k m.stack i).items = y.items ++ [i] := by
    cases s.lanes[l].context with
    | none => exact .inl ⟨rfl, rfl, rfl, rfl⟩
    | some y => exact .inr ⟨y, rfl, rfl, rfl, rfl⟩
  have takes : s.Takes x l := by
    refine h.takes head (fun sound => ?_) (fun numbered => ?_) fun z hz => ?_
    · exact sound.stagedOn head rfl tag member last rfl stages
    · exact numbered.stagedOn head rfl tag member last rfl position stages
    · rw [Option.some.injEq] at hz
      subst hz
      cases s.lanes[l].context with
      | none => exact .inr ⟨names, below⟩
      | some y => exact .inl ⟨y, rfl, rfl, rfl⟩
  refine takes.plain fun sound w => ?_
  rw [h.chosenCount, LanePort.chosenCount_grantedTo, ← (sound.whole l).chosenCount_staged head tag k m.stack i w]
  simp only [(sound.whole l).stagedOnto_tag head tag, eq_comm (a := t)]

theorem State.Grants.moves_commitStack {i : StagedItem} (last : m.last = true) (k : Nat) (enables : Conditions)
    (h : s.Grants x l rest (some (stagedOnto s.lanes[l].context t k m.stack i))) :
    s.Moves (x.commitStack l enables) := by
  have finished : e.unfinished = false := by rw [ReadEntry.unfinished, member, Option.any_some, last]; rfl
  unfold State.commitStack
  rw [h.context]
  generalize onto : stagedOnto s.lanes[l].context t k m.stack i = c at h
  have grants := (h.side (x.side_commitItems l c.tag.slot c.segment enables
    (c.items.map (StagedItem.toCommit c.stack)))).setContext (c' := none) (f := fun p => { p with context := none }) rfl
  have takes := grants.takes head (fun sound => sound.taken head rfl rfl)
    (fun numbered => numbered.taken head rfl rfl (.inr finished)) fun z hz => nomatch hz
  refine (Relation.ReflTransGen.single (takes.lowered _ _ fun sound w => ?_)).trans (State.moves_completeDrain _)
  have count := (sound.whole l).chosenCount_staged head tag k m.stack i w
  have same := (sound.whole l).stagedOnto_tag head tag k m.stack i
  rw [onto] at count same
  rw [grants.chosenCount, LanePort.chosenCount_grantedTo, same, ← count]
  dsimp only
  omega

end cases

/-- A tagged entry's context: the visit its tag names is live, and the segment it is for exists (R46). -/
theorem State.grantContext_some {l : Lane} {e : ReadEntry} {t : VisitTag} {c : GrantContext}
    (h : s.grantContext l e t = some c) : s.names t ∧ c.segment < s.visits[t.slot].segments.length := by
  unfold State.grantContext at h
  split at h
  · next live =>
    simp only [Bool.and_eq_true, Bool.or_eq_true, beq_iff_eq] at live
    split at h
    · next g seg _ found =>
      cases h
      exact ⟨live, (List.getElem?_eq_some_iff.1 found).1⟩
    · cases h
  · cases h

theorem State.moves_grantTagged {l : Lane} {e : ReadEntry} {rest : List ReadEntry} {t : VisitTag} {c : GrantContext}
    (head : s.lanes[l].queue = e :: rest) (tag : e.tag = some t) (context : s.grantContext l e t = some c) :
    s.Moves ((s.takeEntry l rest).grantTagged l e t c) := by
  obtain ⟨names, below⟩ := State.grantContext_some context
  unfold State.grantTagged
  generalize price _ c.generation c.cls e = p
  have grants := (s.grants_takeEntry l rest).side (State.side_latchPricing _ l p)
  cases member : e.member with
  | none => exact grants.moves_commitSingle head tag member _
  | some m =>
    have staged := grants.stageItem t c.segment m.stack
      { position := m.position, tagCode := e.tagCode, condition := e.condition, priced := p.result }
    dsimp only
    split
    · next last => exact staged.moves_commitStack head tag member last _ _
    · next last => exact .single (staged.move_staged head tag member rfl (Bool.eq_false_iff.2 last) names below)

/-- A grant (R45 to R47). -/
theorem execGrant_moves {u : State} (h : execGrant s = .next u) : s.Moves u := by
  unfold execGrant at h
  split at h
  · cases h; exact .refl
  split at h
  · cases h; exact .refl
  next head =>
  split at h
  · next tag =>
    cases h
    exact (State.moves_grantOrphan head tag).tail (State.move_finish _)
  · next tag =>
    split at h
    · cases h
    · next context =>
      cases h
      exact (State.moves_grantTagged head tag context).tail (State.move_finish _)

end Sys2Proof.Machine

/-! ## Timers, settlement and completions -/

namespace Sys2Proof.Machine

variable {s : State}

/-! ### Grace expiry -/

theorem LanePort.abandon_bound (p : LanePort) (u : VisitTag) : (p.abandon u).state = p.state := by
  unfold LanePort.abandon
  split
  · rfl
  · rw [LanePort.latch, LanePort.without_eq]

theorem LanePort.abandon_holdSound {p : LanePort} (h : p.holdSound) (u : VisitTag) : (p.abandon u).holdSound := by
  unfold LanePort.abandon
  split
  · exact h
  · exact (p.without_holdSound _).congr Iff.rfl rfl rfl

theorem LanePort.Keeps.abandon (p : LanePort) (u : VisitTag) : p.Keeps (p.abandon u) := by
  unfold LanePort.abandon
  split
  · exact .refl p
  · refine (LanePort.Keeps.without p (Choice.whole_ofVisit u)).trans (.of_queue rfl rfl id id id ?_)
    rintro ⟨accepted, frameErrors, overruns, orphans, -, downLosses⟩
    exact ⟨accepted, frameErrors, overruns, orphans, satAdd_le _ _ _, downLosses⟩

theorem LanePort.abandon_chosenCount (p : LanePort) (u w : VisitTag) : (p.abandon u).chosenCount (Choice.ofVisit w) =
    if w = u then 0 else p.chosenCount (Choice.ofVisit w) := by
  unfold LanePort.abandon
  split
  · next zero =>
    split
    · next same => rw [same, zero]
    · rfl
  · exact LanePort.chosenCount_withoutVisit (by rw [LanePort.latch, LanePort.without_eq])
      (by rw [LanePort.latch, LanePort.without_eq]) w

theorem LanePort.abandon_mem {p : LanePort} {u : VisitTag} :
    (∀ e ∈ (p.abandon u).queue, e ∈ p.queue) ∧ ∀ c, (p.abandon u).context = some c → p.context = some c := by
  unfold LanePort.abandon
  split
  · exact ⟨fun _ => id, fun _ => id⟩
  · rw [LanePort.latch, LanePort.without_eq]
    exact ⟨fun _ => List.mem_of_mem_filter, fun _ h => (Option.filter_eq_some_iff.1 h).1⟩

/-- A CLOSING visit loses its items and enters SETTLING (R20). -/
theorem State.move_abandoned {v : VisitSlot} (closing : s.visits[v].state = .closing) (i : List ItemEntry) (n : Nat)
    (f : PartFlags) (items : s.items.length ≤ 32 → i.length ≤ 32) (loss : s.lossCount ≤ 65535 → n ≤ 65535) :
    s.Move { s with
      lanes := updAll s.lanes (LanePort.abandon (s.visitTag v))
      visits := upd s.visits v (fun r => { r with tagged := 0, state := .settling, grace := 0 })
      settleWait := s.settleWait ++ [s.visitTag v]
      items := i, lossCount := n, partFlags := f } := by
  have live : s.visits[v].state ≠ .free := by rw [closing]; nofun
  have other : ∀ w, w ≠ v → (upd s.visits v fun r => { r with tagged := 0, state := .settling, grace := 0 })[w] =
      s.visits[w] := fun w hw => upd_other _ _ _ _ hw
  have kept : ∀ w : VisitSlot, ∃ r : Visit,
      (upd s.visits v fun r => { r with tagged := 0, state := .settling, grace := 0 })[w] = r ∧
      r.number = s.visits[w].number ∧ r.laneSet = s.visits[w].laneSet ∧ r.segments = s.visits[w].segments := fun w => by
    refine ⟨_, rfl, ?_⟩
    rw [upd_get]
    split
    · next e => subst e; exact ⟨rfl, rfl, rfl⟩
    · exact ⟨rfl, rfl, rfl⟩
  refine ⟨⟨.of_tables ⟨rfl, rfl, rfl, rfl, rfl, rfl, rfl, rfl⟩ items loss (State.keeps_upd (.of_segments rfl
    fun _ h => h.settled live rfl rfl rfl rfl rfl rfl)), fun l => by simp only [updAll_get]; exact .abandon _ _⟩,
    .leave [v] ?_⟩
  exact {
    bound := fun l u => by simp only [updAll_get, LanePort.abandon_bound]
    hold := fun l h => by simp only [updAll_get]; exact LanePort.abandon_holdSound h _
    queued := fun l e he => by simp only [updAll_get] at he; exact LanePort.abandon_mem.1 e he
    staged := fun l c hc => by
      simp only [updAll_get] at hc
      exact .inl ⟨c, LanePort.abandon_mem.2 c hc, rfl, rfl⟩
    nodup := List.nodup_singleton v
    number := fun w => by obtain ⟨r, e, number, -⟩ := kept w; simp only [e, number]
    laneSet := fun w => by obtain ⟨r, e, -, laneSet, -⟩ := kept w; simp only [e, laneSet]
    segments := fun w => by obtain ⟨r, e, -, -, segments⟩ := kept w; simp only [e, segments]; exact le_rfl
    stays := fun w hw => by simp only [other w fun e => hw (List.mem_singleton.2 e)]
    settles := fun w hw => by
      obtain rfl := List.mem_singleton.1 hw
      simp only [upd_same]
      exact ⟨closing, trivial, trivial⟩
    wait := rfl
    tagged := fun sound w hw => by
      by_cases e : w = v
      · subst e
        simp only [upd_same]
        refine (State.taggedItems_eq_zero fun l => ?_).symm
        simp only [updAll_get, LanePort.abandon_chosenCount, if_true]
      · simp only [other w e]
        rw [sound.tagged w hw]
        refine (State.taggedItems_congr _ fun l => ?_).symm
        simp only [updAll_get, LanePort.abandon_chosenCount]
        rw [if_neg fun same => e (s.visitTag_injective same)] }

theorem State.moves_expireGrace {v : VisitSlot} (closing : s.visits[v].state = .closing) :
    s.Moves (s.expireGrace v) := by
  obtain ⟨i, n, f, e, records⟩ := s.expireGrace_eq v
  have items := records.recorded.items_length
  have loss := records.recorded.lossCount_le
  rw [e, State.finish_items] at items
  rw [e, State.finish_lossCount] at loss
  rw [e]
  exact (Relation.ReflTransGen.single (State.move_abandoned closing i n f items loss)).tail (State.move_finish _)

/-! ### Open-time expiry and the tick -/

theorem Visit.count_opened {r : Visit} (h : r.state = .opened) : r.count = { r with elapsed := r.elapsed + 1 } := by
  simp only [Visit.count, h]

theorem Visit.count_closing {r : Visit} (h : r.state = .closing) : r.count = { r with grace := r.grace - 1 } := by
  simp only [Visit.count, h]

theorem Visit.count_still {r : Visit} (h : r.state = .free ∨ r.state = .settling) : r.count = r := by
  rcases h with h | h <;> simp only [Visit.count, h]

theorem State.moves_expireOpen {v : VisitSlot} (opened : s.visits[v].state = .opened) : s.Moves (s.expireOpen v) :=
  ((State.moves_leaveOpen opened _).tail (State.move_latchPart _ _)).tail (State.move_finish _)

/-- A visit whose timer is counted and that is not due keeps its ranges (R14, R18). -/
theorem Visit.keeps_count {r : Visit} (open_ : ¬ r.count.openDue = true) (grace : ¬ r.count.graceDue = true)
    (G : Prop) : Visit.Keeps G r r.count := by
  rw [Visit.openDue_iff, r.count_state] at open_
  rw [Visit.graceDue_iff, r.count_state] at grace
  cases state : r.state with
  | free => rw [Visit.count_still (.inl state)]; exact .refl _ _
  | settling => rw [Visit.count_still (.inr state)]; exact .refl _ _
  | opened =>
    rw [Visit.count_opened state] at open_ ⊢
    have below : r.elapsed + 1 < r.openLimit := Nat.lt_of_not_le fun h => open_ ⟨state, h⟩
    exact .of_segments rfl fun _ h => ⟨fun e => absurd (state.symm.trans e) nofun, h.live, below.le, fun _ => below,
      h.grace, fun e => absurd (state.symm.trans e) nofun⟩
  | closing =>
    rw [Visit.count_closing state] at grace ⊢
    have remains : 1 ≤ r.grace - 1 := Nat.one_le_iff_ne_zero.2 fun h => grace ⟨state, h⟩
    exact .of_segments rfl fun _ h => ⟨fun e => absurd (state.symm.trans e) nofun, h.live, h.elapsed,
      fun e => absurd (state.symm.trans e) nofun, (Nat.sub_le _ _).trans h.grace, fun _ => remains⟩

theorem Visit.sameLinks_count (r : Visit) : r.SameLinks r.count := by
  cases state : r.state with
  | free => rw [Visit.count_still (.inl state)]; exact .refl _
  | settling => rw [Visit.count_still (.inr state)]; exact .refl _
  | opened => rw [Visit.count_opened state]; exact ⟨rfl, rfl, rfl, rfl, le_rfl⟩
  | closing => rw [Visit.count_closing state]; exact ⟨rfl, rfl, rfl, rfl, le_rfl⟩

/-- The tick at a visit that it does not make due. -/
theorem State.move_counted {v : VisitSlot} (open_ : ¬ s.visits[v].count.openDue = true)
    (grace : ¬ s.visits[v].count.graceDue = true) : s.Move (s.counted v) := by
  refine .minor (.of_tables ⟨rfl, rfl, rfl, rfl, rfl, rfl, rfl, rfl⟩ id id
    (State.keeps_upd (Visit.keeps_count open_ grace _))) (fun _ => .refl _) (fun w => ?_) rfl
  rw [State.counted_visits, upd_get]
  split
  · next e => subst e; exact Visit.sameLinks_count _
  · exact .refl _

/-- The tick at a visit whose open time it ends (R14 to R16). -/
theorem State.moves_counted_expireOpen {v : VisitSlot} (due : s.visits[v].count.openDue = true) :
    s.Moves ((s.counted v).expireOpen v) := by
  obtain ⟨opened, -⟩ := Visit.ticked_of_openDue due 0
  have count := Visit.count_opened opened
  have left := State.moves_left opened (s.visits[v].elapsed + 1) (fun h => h.opened opened) .expired
    (s.partFlags ||| 0x02#7)
  rw [State.expireOpen_eq]
  refine Relation.ReflTransGen.tail (Eq.subst (motive := fun t => State.Moves s t) ?_ left) (State.move_finish _)
  have visit : (s.counted v).visits[v] = { s.visits[v] with elapsed := s.visits[v].elapsed + 1 } :=
    (upd_same _ _ _).trans count
  have visits : upd (s.counted v).visits v (fun r => r.left .expired (s.counted v).graceSeconds) =
      upd s.visits v (fun r => Visit.left { r with elapsed := s.visits[v].elapsed + 1 } .expired s.graceSeconds) := by
    rw [State.counted_visits, upd_upd]
    exact upd_congr (congrArg (fun r => Visit.left r .expired s.graceSeconds) count)
  rw [visits, visit, State.waitAfter, State.waitAfter, State.counted_visitTag]
  rfl

/-- The tick at a visit whose grace it ends (R18, R20). -/
theorem State.moves_counted_expireGrace {v : VisitSlot} (due : s.visits[v].count.graceDue = true) :
    s.Moves ((s.counted v).expireGrace v) := by
  obtain ⟨closing, -⟩ := Visit.ticked_of_graceDue due 0
  obtain ⟨i, n, f, e, records⟩ := (s.counted v).expireGrace_eq v
  have items := records.recorded.items_length
  have loss := records.recorded.lossCount_le
  rw [e, State.finish_items] at items
  rw [e, State.finish_lossCount] at loss
  rw [e]
  refine Relation.ReflTransGen.tail (Eq.subst (motive := fun t => State.Moves s t) ?_
    (.single (State.move_abandoned closing i n f items loss))) (State.move_finish _)
  have visits : upd (s.counted v).visits v (fun r => { r with tagged := 0, state := .settling, grace := 0 }) =
      upd s.visits v (fun r => { r with tagged := 0, state := .settling, grace := 0 }) := by
    rw [State.counted_visits, upd_upd]
    exact upd_congr (by simp only [Visit.count_closing closing])
  rw [visits, State.counted_visitTag]
  rfl

theorem State.moves_tickVisit (s : State) (v : VisitSlot) : s.Moves (s.tickVisit v) := by
  rw [State.tickVisit_eq]
  by_cases due : s.visits[v].count.openDue = true
  · rw [if_pos due]; exact State.moves_counted_expireOpen due
  · by_cases grace : s.visits[v].count.graceDue = true
    · rw [if_neg due, if_pos grace]; exact State.moves_counted_expireGrace grace
    · rw [if_neg due, if_neg grace]; exact .single (State.move_counted due grace)

theorem execOpenTimeExpiry_moves {v : VisitSlot} {t : State} (h : execOpenTimeExpiry v s = .next t) : s.Moves t := by
  unfold execOpenTimeExpiry at h
  cases h
  split
  · next due => exact State.moves_expireOpen ((Visit.openDue_iff _).1 due).1
  · exact .refl

theorem execGraceExpiry_moves {v : VisitSlot} {t : State} (h : execGraceExpiry v s = .next t) : s.Moves t := by
  unfold execGraceExpiry at h
  cases h
  split
  · next due => exact State.moves_expireGrace ((Visit.graceDue_iff _).1 due).1
  · exact .refl

/-! ### Settlement -/

/-- A settled account stays in its ranges: the payout within its room, the held amount within its top
(R150 to R152). -/
theorem Account.inRange.settle {r : Account} (h : r.inRange) (x : TariffHeader) (g : Segment) :
    (r.settle (amountsOf x r g)).inRange := by
  obtain ⟨number, floats, held, paid, ceiling⟩ := h
  refine ⟨number, floats, ?_, ?_, ceiling⟩
  · simp only [Account.settle, amountsOf, Config.top32]
    omega
  · simp only [Account.settle, amountsOf, Account.room]
    split <;> omega

theorem State.keepsRest_settleSegments (h : TariffHeader) (v : SettleVisit) (k : Nat) (gs : List Segment)
    (s : State) (room : gs.length ≤ 8 - s.settlementQueue.length) : s.KeepsRest (s.settleSegments h v k gs) := by
  induction gs generalizing s k with
  | nil => exact .refl s
  | cons g gs ih =>
    rw [List.length_cons] at room
    obtain ⟨f, e⟩ := s.settleSegment_frame h v k g
    have one : s.KeepsRest (s.settleSegment h v k g) := by
      have accounts := State.KeepsRest.of_accounts (s := s) (t := { s with
        accounts := upd s.accounts g.accountSlot (fun a => a.settle (amountsOf h s.accounts[g.accountSlot] g)) })
        rfl fun a => by
          simp only [upd_get]
          split
          · next e => subst e; exact ⟨rfl, fun ok => ok.settle h g⟩
          · exact ⟨rfl, id⟩
      rw [e]
      exact { accounts with
        settlementQueue := fun _ => by simp only [List.length_append, List.length_singleton]; omega }
    refine one.trans (ih _ _ ?_)
    rw [e, List.length_append, List.length_singleton]
    omega

theorem State.keepsRest_freeVisit (s : State) (v : VisitSlot) : s.KeepsRest (s.freeVisit v) := by
  obtain ⟨f, e, -⟩ := s.freeVisit_eq v
  rw [e]
  exact { State.KeepsRest.refl s with
    accounts := fun ok a => by simp only [ofFn_get]; exact ok a
    accountsUnique := fun ok a b => by simp only [ofFn_get]; exact ok a b
    tariffs := fun ok i g hg => by
      simp only [ofFn_get] at hg
      exact ok i g (TariffSlot.contents_of_released hg)
    visits := State.keeps_upd (Visit.keeps_free _ _) }

theorem State.keepsRest_setSettleWait (s : State) (ts : List VisitTag) : s.KeepsRest (s.setSettleWait ts) :=
  .of_same ⟨rfl, rfl, rfl, rfl, rfl, rfl, rfl, rfl⟩ rfl id id

/-- The head of the settle-wait list is settled whole and freed (R148). -/
theorem State.move_settleVisit {v : VisitSlot} {p : Pin} {h : TariffHeader}
    (room : s.visits[v].segments.length ≤ 8 - s.settlementQueue.length) (settling : s.visits[v].state = .settling)
    (head : ∃ rest, s.settleWait = s.visitTag v :: rest) : s.Move (s.settleVisit v p h) := by
  obtain ⟨rest, head⟩ := head
  unfold State.settleVisit
  dsimp only
  generalize SettleVisit.mk s.visits[v].number s.visits[v].segments.length p.generation s.visits[v].cause = x
  have settled := State.keepsRest_settleSegments h x 0 s.visits[v].segments s room
  obtain ⟨accounts, queue, flags, e, -⟩ := s.settleSegments_frame h x 0 s.visits[v].segments
  have tables := (settled.trans (State.keepsRest_setSettleWait _ (s.settleWait.drop 1))).trans
    (State.keepsRest_freeVisit _ v)
  rw [e] at tables ⊢
  obtain ⟨a, i, f, e'⟩ := State.freeVisit_frame (({ s with
    accounts := accounts, settlementQueue := queue, partFlags := flags } : State).setSettleWait (s.settleWait.drop 1)) v
  rw [e'] at tables ⊢
  exact ⟨⟨tables, fun l => .refl _⟩, .settled v (fun _ => .refl _) rfl settling (by rw [head]; rfl)⟩

theorem execSettlement_moves {t : State} (h : execSettlement s = .next t) : s.Moves t := by
  unfold execSettlement at h
  split at h
  · cases h; exact .refl
  next u rest head =>
  split at h
  · cases h; exact .refl
  next room =>
  split at h
  · next named =>
    simp only [Bool.and_eq_true, decide_eq_true_eq, beq_iff_eq] at named
    obtain ⟨settling, number⟩ := named
    split at h
    · cases h
      refine (Relation.ReflTransGen.single (State.move_settleVisit (Nat.not_lt.1 room) settling ⟨rest, ?_⟩)).tail
        (State.move_finish _)
      rw [head, State.visitTag, number]
    · cases h
  · cases h

/-! ### Completions and power-on reset -/

theorem State.move_laneFrameCompletion (l : Lane) :
    s.Move (s.modifyLane l (fun p => { p with txQueue := p.txQueue.drop 1 })) := by
  refine s.move_modifyLane l _ (.of_same rfl rfl rfl rfl (fun h => ?_) id id id)
  rw [List.length_drop]
  omega

theorem State.moves_completeFirstFrame : s.Moves s.completeFirstFrame := by
  unfold State.completeFirstFrame
  split
  · split
    · exact .single (State.move_setTrunkTx _ _)
    · exact .refl
  · exact .refl
  · exact .refl
  · exact .refl

theorem State.moves_completeMessage : s.Moves s.completeMessage := by
  unfold State.completeMessage
  split
  · exact ((Relation.ReflTransGen.single (State.move_dropOldest _ _)).tail (State.move_setTrunkTx _ _)).tail
      (State.move_finish _)
  · exact ((Relation.ReflTransGen.single (State.move_dropOldest _ _)).tail (State.move_setTrunkTx _ _)).tail
      (State.move_finish _)
  · exact .refl
  · exact .refl

theorem State.move_powerOn : s.Move s.powerOn where
  keeps := {
    rest := {
      responses := fun _ => State.reset_withinCapacity.responses
      items := fun _ => State.reset_withinCapacity.items
      settlementQueue := fun _ => State.reset_withinCapacity.settlementQueue
      types := fun _ => ⟨State.reset_withinCapacity.types, State.reset_withinCapacity.ascending⟩
      accounts := fun _ => State.reset_inRange.accounts
      accountsUnique := fun _ => State.reset_namesUnique.accounts
      tariffs := fun _ => State.reset_inRange.tariffs
      lossCount := fun _ => State.reset_inRange.lossCount
      sources := fun _ => ⟨State.reset_inRange.grace, State.reset_inRange.counter⟩
      aging := fun _ => State.reset_inRange.aging
      visits := fun v => by rw [State.powerOn_visit]; exact Visit.keeps_free _ _ }
    lanes := fun l => by
      rw [State.powerOn_lane]
      exact ⟨fun _ => Nat.zero_le _, fun _ => Nat.zero_le _, fun _ => Nat.zero_le _, fun _ => by decide,
        fun _ => LanePort.reset_countersInRange, fun _ => LanePort.stacksSound_empty rfl rfl,
        fun _ => LanePort.stacksNumbered_empty rfl rfl⟩ }
  links := .powerOn rfl

end Sys2Proof.Machine

/-! ## Every step follows the changes, and the invariants of lanes, tags, ranges and capacities -/

namespace Sys2Proof.Machine

variable {s t : State}

/-! ### Every command is a run of changes -/

theorem exec_moves (c : Instr) (h : exec c s = .next t) : s.Moves t := by
  have moved : ∀ {u : State}, s.Moves u → (Host.Outcome.next u : Host.Outcome State Fault Refusal) = .next t →
      s.Moves t := fun moves e => by cases e; exact moves
  have served : ∀ {tag code : Byte} (r : Request),
      (Host.Outcome.next (s.serve tag code (answerTo r)) : Host.Outcome State Fault Refusal) = .next t → s.Moves t :=
    fun r => moved (State.moves_serve _ _ (answerTo_follows r))
  cases c with
  | powerOnReset => exact moved (.single State.move_powerOn) h
  | openVisit tag account lanes minutes => exact served (.openVisit account lanes minutes) h
  | bindLanes tag visit lanes => exact served (.bindLanes visit lanes) h
  | releaseLanes tag visit lanes => exact served (.releaseLanes visit lanes) h
  | nextSegment tag visit account => exact served (.nextSegment visit account) h
  | closeVisit tag visit => exact served (.closeVisit visit) h
  | cancelVisit tag visit => exact served (.cancelVisit visit) h
  | readVisit tag key segment => exact served (.readVisit key segment) h
  | configureLane tag lane enabled kind level reporting =>
    exact served (.configureLane lane enabled kind level reporting) h
  | laneReset tag lane => exact served (.laneReset lane) h
  | readLane tag lane => exact served (.readLane lane) h
  | writeType tag tagCode spec family schedule => exact served (.writeType tagCode spec family schedule) h
  | deleteType tag tagCode => exact served (.deleteType tagCode) h
  | readTypeByTagCode tag tagCode => exact served (.readTypeByTagCode tagCode) h
  | readTypeByIndex tag index => exact served (.readTypeByIndex index) h
  | writeTariffHeader tag generation mode feeA feeB feeC feeD enables =>
    exact served (.writeTariffHeader generation mode feeA feeB feeC feeD enables) h
  | writeSchedule tag schedule defined depositA depositB depositC depositD bottle damaged ullage =>
    exact served (.writeSchedule schedule defined depositA depositB depositC depositD bottle damaged ullage) h
  | readTariff tag slot part => exact served (.readTariff slot part) h
  | promoteTariff tag expected => exact served (.promoteTariff expected) h
  | discardPending tag => exact served .discardPending h
  | writeAccount tag slot account cls frozen ceiling => exact served (.writeAccount slot account cls frozen ceiling) h
  | deleteAccount tag account => exact served (.deleteAccount account) h
  | readAccount tag key => exact served (.readAccount key) h
  | issueContainers tag account family count => exact served (.issueContainers account family count) h
  | setFloat tag account family value => exact served (.setFloat account family value) h
  | freezeRun tag start count mark => exact served (.freezeRun start count mark) h
  | dayClose tag => exact served .dayClose h
  | releaseHeld tag account amount => exact served (.releaseHeld account amount) h
  | identify tag => exact served .identify h
  | readStatus tag => exact served .readStatus h
  | setMasks tag part lanes => exact served (.setMasks part lanes) h
  | setPartParameters tag grace aging => exact served (.setPartParameters grace aging) h
  | partReset tag => exact served .partReset h
  | unknownRequest tag code =>
    refine moved ?_ h
    split
    · exact .refl
    · exact State.moves_serve _ _ (unknownRequest_follows code)
  | requestOverrun =>
    refine moved ?_ h
    split
    · exact .refl
    · exact (Relation.ReflTransGen.single (State.move_latchPart _ _)).tail (State.move_finish _)
  | downstreamFrame frame => exact moved (State.moves_trunkFrameArrival frame) h
  | trunkFrameError => exact moved State.moves_trunkError h
  | singleRead lane read => exact moved (State.moves_singleArrival lane read) h
  | stackFrame lane stack reads => exact moved (State.moves_stackArrival lane stack reads) h
  | stackCancel lane stack => exact moved (State.moves_cancelArrival lane stack) h
  | laneNotice lane bytes => exact moved (State.moves_noticeArrival lane bytes) h
  | laneFrameError lane => exact moved (State.moves_laneErrorArrival lane) h
  | grant => exact execGrant_moves h
  | tick => exact moved (State.moves_foldl State.moves_tickVisit allVisits s) h
  | openTimeExpiry slot => exact execOpenTimeExpiry_moves h
  | graceExpiry slot => exact execGraceExpiry_moves h
  | settlement => exact execSettlement_moves h
  | laneFrameCompletion lane => exact moved (.single (State.move_laneFrameCompletion lane)) h
  | firstFrameCompletion => exact moved State.moves_completeFirstFrame h
  | messageCompletion => exact moved State.moves_completeMessage h
  | byteReceived link byte =>
    refine moved ?_ h
    cases link with
    | lane l => exact State.moves_laneByte l byte
    | trunk => exact State.moves_trunkByte byte

theorem step_moves (h : step s = .next t) : s.Moves t := by
  unfold step at h
  split at h
  · cases h; exact .refl
  · next c rest _ => exact (Relation.ReflTransGen.single (s.move_setPending rest)).trans (exec_moves c h)

/-- What every change keeps, every step keeps. -/
theorem step_keeps {P : State → Prop} (change : ∀ s t, s.Move t → P s → P t) (h : step s = .next t) (start : P s) :
    P t :=
  (step_moves h).invariant change start

/-! ### Capacities, bindings and tagged counts -/

/-- Settles O11: every change that a step is made of keeps each capacity, the settle-wait list exact and the stacks
numbered. -/
theorem capacitiesKept : Obligations.CapacitiesKept := by
  unfold Obligations.CapacitiesKept
  refine ⟨fun s t start h => ?_, fun s t start h => ?_, fun s t start h => ?_⟩
  · exact step_keeps (fun _ _ m => m.keeps.withinCapacity) h start
  · have waits : t.SettleWaitExact := step_keeps (fun _ _ m => m.links.settleWaitExact) h start
    exact waits.length_le
  · have numbered : ∀ l : Lane, t.lanes[l].StacksNumbered :=
      step_keeps (P := fun s => ∀ l : Lane, s.lanes[l].StacksNumbered)
        (fun _ _ m kept l => (m.keeps.lanes l).numbered (kept l)) h start
    refine ⟨numbered, fun l c hc => ?_⟩
    obtain ⟨least, most⟩ := (numbered l).staged_length hc
    exact ⟨least, most.trans (by decide)⟩

/-- Settles O15: every change keeps bindings and hold outputs together. -/
theorem bindingsKept : Obligations.BindingsKept := by
  unfold Obligations.BindingsKept
  intro s t bindings hold h
  have sound : t.LanesSound := step_keeps (fun _ _ m => m.links.lanesSound) h ⟨bindings, hold⟩
  exact ⟨sound.bindings, sound.hold⟩

/-- Settles O18: every change keeps tags and their counts sound. -/
theorem taggedCountsKept : Obligations.TaggedCountsKept := by
  unfold Obligations.TaggedCountsKept
  intro s t start h
  exact step_keeps (fun _ _ m => m.tagsSound) h start

/-! ### Ranges -/

/-- A visit has one pin at most, so the 24 records hold at most 24 (R114). -/
theorem State.TariffsSound.pins_le (h : s.TariffsSound) (i : TariffIndex) : s.tariffs[i].pins ≤ 24 := by
  rw [h.pins i, State.pinsOf]
  exact List.countP_le_length.trans (List.length_finRange (n := 24)).le

theorem sum_map_le {α : Type} {f : α → Nat} {k : Nat} (as : List α) (h : ∀ a, f a ≤ k) :
    (as.map f).sum ≤ as.length * k := by
  refine (List.sum_le_card_nsmul _ k fun n hn => ?_).trans_eq (by rw [List.length_map, smul_eq_mul])
  obtain ⟨a, -, rfl⟩ := List.mem_map.1 hn
  exact h a

/-- 24 visits of at most 8 segments name an account at most 192 times (R4, R130). -/
theorem State.UseCountsExact.useCount_le (h : s.UseCountsExact) (capacity : s.WithinCapacity) (a : AccountSlot) :
    s.accounts[a].useCount ≤ 192 := by
  rw [h.exact a, State.usesOf]
  exact sum_map_le allVisits fun v => List.countP_le_length.trans (capacity.segments v)

/-- A lane holds at most 48 queued reads and 16 staged items (R34, R38). -/
theorem LanePort.StacksNumbered.chosenCount_le {p : LanePort} (h : p.StacksNumbered) (queue : p.queue.length ≤ 48)
    (c : Choice) : p.chosenCount c ≤ 64 := by
  have queued : (p.queue.filter c.queued).length ≤ 48 := (List.length_filter_le _ _).trans queue
  have staged : (p.chosenStaged c).length ≤ 15 := by
    unfold LanePort.chosenStaged
    split
    · next x hx =>
      split
      · exact (h.staged_length hx).2
      · exact Nat.zero_le _
    · exact Nat.zero_le _
  rw [LanePort.chosenCount]
  omega

theorem State.TagsSound.tagged_le (h : s.TagsSound) (capacity : s.WithinCapacity) (ranges : s.InRange)
    (numbered : ∀ l : Lane, s.lanes[l].StacksNumbered) (v : VisitSlot) : s.visits[v].tagged ≤ 384 := by
  by_cases free : s.visits[v].state = .free
  · rw [(ranges.visits v).free free]
    exact Nat.zero_le _
  · rw [h.tagged v free, State.taggedItems]
    exact sum_map_le allLanes fun l => (numbered l).chosenCount_le (capacity.lanes l).1 _

/-- Ranges with the names that R1 and R128 give: a new visit number is fresh where the counter is in range. -/
theorem State.Move.inRange_namesUnique (m : s.Move t) (h : s.InRange ∧ s.NamesUnique) : t.InRange ∧ t.NamesUnique :=
  ⟨m.keeps.inRange h.1, m.namesUnique ⟨h.1.grace, h.1.counter⟩ h.2⟩

/-- Settles O17: every change keeps the ranges, names stay unique where the visit counter is in range, and the three
counts are bounded by the capacities they are exact for. -/
theorem rangesKept : Obligations.RangesKept := by
  unfold Obligations.RangesKept
  refine ⟨fun s t start h => ?_, fun s t ranges names h => ?_, fun s h => h.pins_le, fun s h => h.useCount_le,
    fun s h => h.tagged_le⟩
  · exact step_keeps (fun _ _ m => m.keeps.inRange) h start
  · exact (step_keeps (fun _ _ m => m.inRange_namesUnique) h ⟨ranges, names⟩).2

end Sys2Proof.Machine

/-! ## Arrivals on the links -/

namespace Sys2Proof.Machine

variable {s : State}

/-! ### Frame errors and lost reads -/

theorem State.laneErrorArrival_disabled {l : Lane} (disabled : s.lanes[l].state = .disabled) :
    s.laneErrorArrival l = s := by
  rw [State.laneErrorArrival, (LanePort.enabled_false _).2 disabled]
  rfl

/-- A frame error of an enabled lane (R36). -/
theorem State.laneErrorArrival_enabled {l : Lane} (enabled : s.lanes[l].state ≠ .disabled) :
    s.laneErrorArrival l = State.finish { s with
      lanes := upd s.lanes l (fun p => { p with
        frameErrors := min 65535 (p.frameErrors + 1), flags := p.flags ||| 0x002#10 }) } := by
  have on := (LanePort.enabled_iff _).2 enabled
  have lanes : (s.laneError l).lanes = upd s.lanes l (fun p => { p with
      frameErrors := min 65535 (p.frameErrors + 1), flags := p.flags ||| 0x002#10 }) := by
    refine upd_congr ?_
    rw [if_pos on]
    rfl
  rw [State.laneErrorArrival, if_pos on, ← lanes]
  rfl

/-! ### Reads that join a Read Queue -/

/-- A lane whose queue reads have joined, with hold as R35 sets it (R37, R38). -/
def LanePort.joined (p : LanePort) (es : List ReadEntry) : LanePort :=
  { p with
    queue := p.queue ++ es
    accepted := min 65535 (p.accepted + es.length)
    hold := p.holdFor (p.queue.length + es.length) }

theorem State.acceptReads_lanes (l : Lane) (es : List ReadEntry) :
    (s.acceptReads l es).lanes = upd s.lanes l (fun p => p.joined es) := by
  obtain ⟨visits, e⟩ := s.acceptReads_frame l es
  rw [e]
  dsimp only
  refine upd_congr ?_
  rw [LanePort.rehold_eq, List.length_append]
  rfl

/-- Reads of an IDLE lane join it tagged "none" (R34). -/
theorem State.acceptReads_idle {l : Lane} (idle : s.lanes[l].state = .idle) (es : List ReadEntry) :
    s.acceptReads l es = { s with lanes := upd s.lanes l (fun p => p.joined es) } := by
  have tag : s.lanes[l].tag = none := by rw [LanePort.tag, idle]
  rw [← State.acceptReads_lanes, State.acceptReads, tag]
  rfl

/-- Reads of a BOUND lane join its visit's tagged count (R6, R34). -/
theorem State.acceptReads_bound {l : Lane} {u : VisitTag} (bound : s.lanes[l].state = .bound u) (live : s.names u)
    (es : List ReadEntry) : s.acceptReads l es = { s with
      lanes := upd s.lanes l (fun p => p.joined es)
      visits := upd s.visits u.slot (fun r => { r with tagged := r.tagged + es.length }) } := by
  have tag : s.lanes[l].tag = some u := by rw [LanePort.tag, bound]
  have raised : ∀ x : State, x.visits = s.visits → x.raiseTagged (some u) es.length =
      x.modifyVisit u.slot (fun r => { r with tagged := r.tagged + es.length }) := fun x same =>
    x.raiseTagged_live (x.tagLive_of_names (by rw [State.names, same]; exact live)) _
  rw [← State.acceptReads_lanes, State.acceptReads, tag, raised (s.modifyLane l _) rfl]
  rfl

/-! ### Single Reads -/

theorem singleEntry_eq {t : Option VisitTag} {r : SingleRead} {e : ReadEntry} (tag : e.tag = t) (single : e.member = none)
    (read : match r with
      | .crate c => e.tagCode = c.tagCode.toNat ∧ e.condition = c.condition ∧ e.body = .crate c.slots
      | .keg t c m => e.tagCode = t.toNat ∧ e.condition = c ∧ e.body = .keg (min m.toNat 20000)) :
    singleEntry t r = e := by
  obtain ⟨tagCode, condition, body, member, tag'⟩ := e
  obtain rfl : tag' = t := tag
  obtain rfl : member = none := single
  cases r with
  | crate c =>
    obtain ⟨rfl, rfl, rfl⟩ := read
    rfl
  | keg tagCode' condition' mass =>
    obtain ⟨rfl, rfl, rfl⟩ := read
    rfl

/-- Settles O44. -/
theorem singleReadArrives : Obligations.SingleReadArrives := by
  unfold Obligations.SingleReadArrives
  intro s l r p x kind
  have kind_eq : (singleEntry none r).body.kind = kind := by cases r <;> rfl
  have arrives : x = .next (s.singleArrival l r) := rfl
  have enabled : p.state ≠ .disabled → s.lanes[l].enabled = true := (LanePort.enabled_iff _).2
  refine ⟨fun disabled => ?_, fun on wrong => ?_, fun on right full => ?_, fun on right room tag e he single read => ?_⟩
  · rw [arrives, State.singleArrival, (LanePort.enabled_false _).2 disabled]
    rfl
  · rw [arrives, State.singleArrival, enabled on, kind_eq, if_pos wrong]
    rfl
  · have full : Config.readQueueSize ≤ s.lanes[l].queue.length := full
    rw [arrives, State.singleArrival, enabled on, kind_eq, if_neg (not_not_intro right), if_pos full]
    rfl
  · have room : ¬ Config.readQueueSize ≤ s.lanes[l].queue.length := Nat.not_le.2 room
    have joins : x = .next (s.acceptReads l [singleEntry s.lanes[l].tag r]).finish := by
      rw [arrives, State.singleArrival, enabled on, kind_eq, if_neg (not_not_intro right), if_neg room]
      rfl
    refine ⟨fun idle none => ?_, fun u bound live some => ?_⟩
    · have entry : singleEntry s.lanes[l].tag r = e :=
        singleEntry_eq (he.trans (none.trans (by rw [LanePort.tag, idle]))) single read
      rw [joins, entry, State.acceptReads_idle idle]
      rfl
    · have entry : singleEntry s.lanes[l].tag r = e :=
        singleEntry_eq (he.trans (some.trans (by rw [LanePort.tag, bound]))) single read
      rw [joins, entry, State.acceptReads_bound bound live]
      rfl

/-! ### Stack Frames -/

/-- The entries of a Stack Frame by their place in it: positions count up from the first, and the last read bears
the last mark (R38). -/
theorem stackEntries_eq_mapIdx (t : Option VisitTag) (stack k : Nat) (rs : List CrateRead) :
    stackEntries t stack k rs = rs.mapIdx (fun i r =>
      { tagCode := r.tagCode.toNat, condition := r.condition, body := .crate r.slots, tag := t
        member := some { stack := stack, position := k + i, last := decide (i + 1 = rs.length) } }) := by
  induction rs generalizing k with
  | nil => rfl
  | cons r rs ih =>
    rw [stackEntries, ih, List.mapIdx_cons]
    congr 1
    · cases rs <;> rfl
    · simp only [List.length_cons, Nat.add_right_cancel_iff]
      simp only [Nat.add_assoc, Nat.add_comm 1]

/-- Settles O45. -/
theorem stackFrameArrives : Obligations.StackFrameArrives := by
  unfold Obligations.StackFrameArrives
  intro s l number reads p x pending
  have arrives : x = .next (s.stackArrival l number reads) := rfl
  have enabled : p.state ≠ .disabled → s.lanes[l].enabled = true := (LanePort.enabled_iff _).2
  have pending_iff : s.lanes[l].stackPending number.toNat = true ↔ pending := LanePort.stackPending_iff _ _
  have size_iff : (reads.length = 0 || Config.stackSize < reads.length) = true ↔ reads = [] ∨ 16 < reads.length := by
    rw [Bool.or_eq_true, decide_eq_true_eq, decide_eq_true_eq, List.length_eq_zero_iff]
  refine ⟨fun disabled => ?_, fun on wrong => ?_, fun on crate some most fresh => ?_⟩
  · rw [arrives, State.stackArrival, (LanePort.enabled_false _).2 disabled]
    rfl
  · have error : s.stackArrival l number reads = s.laneErrorArrival l := by
      rw [State.stackArrival, enabled on]
      by_cases keg : s.lanes[l].kind = .keg
      · rw [if_pos keg]; rfl
      by_cases size : reads = [] ∨ 16 < reads.length
      · rw [if_neg keg, if_pos (size_iff.2 size)]; rfl
      · have stale : pending :=
          wrong.elim (fun h => absurd h keg) fun h => h.elim (fun h => absurd (.inl h) size) fun h =>
            h.elim (fun h => absurd (.inr h) size) id
        rw [if_neg keg, if_neg (mt size_iff.1 size), if_pos (pending_iff.2 stale)]; rfl
    rw [arrives, error]
    rfl
  · have size : ¬ (reads = [] ∨ 16 < reads.length) := fun h => h.elim some (Nat.not_lt.2 most)
    have count : 0 < reads.length := List.length_pos_iff.2 some
    have free : s.lanes[l].freeEntries < reads.length ↔ 48 < p.queue.length + reads.length := by
      rw [LanePort.freeEntries]
      change 48 - p.queue.length < _ ↔ _
      omega
    have accepted : s.stackArrival l number reads =
        if s.lanes[l].freeEntries < reads.length then (s.overrunReads l reads.length).finish
        else (s.acceptReads l (stackEntries s.lanes[l].tag number.toNat 1 reads)).finish := by
      have crate : ¬ s.lanes[l].kind = .keg := by rw [show s.lanes[l].kind = _ from crate]; nofun
      rw [State.stackArrival, enabled on, if_neg crate, if_neg (mt size_iff.1 size), if_neg (mt pending_iff.1 fresh)]
      rfl
    refine ⟨fun full => ?_, fun room tag => ?_⟩
    · rw [arrives, accepted, if_pos (free.2 full)]
      rfl
    · intro entries lanes
      have joins : x = .next (s.acceptReads l (stackEntries s.lanes[l].tag number.toNat 1 reads)).finish := by
        rw [arrives, accepted, if_neg (mt free.1 (Nat.not_lt.2 room))]
      have entries_eq : s.lanes[l].tag = tag → stackEntries s.lanes[l].tag number.toNat 1 reads = entries := by
        rintro rfl
        rw [stackEntries_eq_mapIdx]
        simp only [Nat.add_comm 1]
        rfl
      have lanes_eq : upd s.lanes l (fun p => p.joined entries) = lanes := by
        have length : entries.length = reads.length := List.length_mapIdx
        simp only [LanePort.joined, length]
        rfl
      refine ⟨fun idle none => ?_, fun u bound live some => ?_⟩
      · rw [joins, entries_eq (by rw [none, LanePort.tag, idle]), State.acceptReads_idle idle, lanes_eq]
      · rw [joins, entries_eq (by rw [some, LanePort.tag, bound]), State.acceptReads_bound bound live, lanes_eq,
          show entries.length = reads.length from List.length_mapIdx]

/-! ### Notices and errors -/

/-- Settles O47. -/
theorem noticesAndErrors : Obligations.NoticesAndErrors := by
  unfold Obligations.NoticesAndErrors
  intro s l
  refine ⟨fun bytes => ⟨fun disabled => ?_, fun on => ?_⟩, fun disabled => ?_, fun on => ?_, rfl⟩
  · change Host.Outcome.next (s.noticeArrival l bytes) = _
    rw [State.noticeArrival, (LanePort.enabled_false _).2 disabled]
    rfl
  · have arrives : exec (.laneNotice l bytes) s = .next
        (if Config.noticeSize < bytes.length then s.laneErrorArrival l else (s.placeItem (.notice l bytes)).finish) := by
      change Host.Outcome.next (s.noticeArrival l bytes) = _
      rw [State.noticeArrival, (LanePort.enabled_iff _).2 on]
      rfl
    refine ⟨fun long => ?_, fun short room => ?_, fun short full => ?_⟩
    · rw [arrives, if_pos long]
      rfl
    · rw [arrives, if_neg (Nat.not_lt.2 short)]
      rcases s.placeItem_cases (.notice l bytes) with ⟨-, e⟩ | ⟨full, -⟩
      · rw [e]
      · exact absurd room (Nat.not_lt.2 full)
    · rw [arrives, if_neg (Nat.not_lt.2 short)]
      rcases s.placeItem_cases (.notice l bytes) with ⟨room, -⟩ | ⟨-, e⟩
      · exact absurd room (Nat.not_lt.2 full)
      · rw [e]
        rfl
  · exact congrArg Host.Outcome.next (State.laneErrorArrival_disabled disabled)
  · exact congrArg Host.Outcome.next (State.laneErrorArrival_enabled on)

/-! ### Downstream frames -/

theorem LanePort.offer_eq (p : LanePort) (f : Frame) : p.offer f =
    if p.state ≠ .disabled ∧ p.txQueue.length < 4 then { p with txQueue := p.txQueue ++ [f] }
    else { p with downLosses := min 65535 (p.downLosses + 1), flags := p.flags ||| 0x200#10 } := by
  have taken : (p.enabled && decide (p.txQueue.length < Config.laneTxSize)) = true ↔
      p.state ≠ .disabled ∧ p.txQueue.length < 4 := by
    rw [Bool.and_eq_true, LanePort.enabled_iff, decide_eq_true_eq]
  unfold LanePort.offer
  by_cases h : p.state ≠ .disabled ∧ p.txQueue.length < 4
  · rw [if_pos (taken.2 h), if_pos h]
  · rw [if_neg (mt taken.1 h), if_neg h]
    rfl

theorem addressesLane_iff (a : Byte) (l : Lane) : addressesLane a l = true ↔ a.toNat = l.val + 1 ∨ a = 0x7F#8 := by
  rw [addressesLane, Bool.or_eq_true, beq_iff_eq, beq_iff_eq, ← BitVec.toNat_inj]
  rfl

/-- Settles O48. -/
theorem downstreamFrameOffered : Obligations.DownstreamFrameOffered := by
  unfold Obligations.DownstreamFrameOffered
  intro s f
  have arrives : exec (.downstreamFrame f) s = .next (s.trunkFrameArrival f) := rfl
  have offered_iff : (f.address.toNat ≤ 6 || f.address.toNat = 0x7F) = true ↔ f.address.toNat ≤ 6 ∨ f.address = 0x7F#8 := by
    rw [Bool.or_eq_true, decide_eq_true_eq, decide_eq_true_eq, ← BitVec.toNat_inj]
    rfl
  have zero_iff : f.address = 0 ↔ f.address.toNat = 0 := BitVec.toNat_inj.symm
  refine ⟨fun reaches => ?_, fun astray => ?_⟩
  · have away : ¬ f.address = 0 := by
      rintro zero
      rw [zero] at reaches
      exact absurd reaches (by decide)
    rw [arrives, State.trunkFrameArrival, if_neg away, if_pos (offered_iff.2 (reaches.imp_left And.right)),
      State.downstreamArrival]
    simp only [State.mapLanes, addressesLane_iff, LanePort.offer_eq]
  · refine congrArg Host.Outcome.next ?_
    rw [State.trunkFrameArrival]
    rcases astray with ⟨high, other⟩ | ⟨zero, kind⟩
    · rw [if_neg (mt zero_iff.1 (by omega)), if_neg (mt offered_iff.1 fun h => h.elim (Nat.not_le.2 high) other)]
    · have kind : ¬ f.kind = FrameKind.request.code := kind
      rw [if_pos zero, if_neg kind]

/-! ## Configure Lane -/

theorem switchOf_eq_none {n : Nat} (h : 1 < n) : switchOf n = none := by
  match n, h with
  | n + 2, _ => rfl

theorem switchOf_eq_some {n : Nat} (h : n ≤ 1) : switchOf n = some (decide (n = 1)) := by
  match n, h with
  | 0, _ => rfl
  | 1, _ => rfl

theorem kindOf_eq_none {n : Nat} (h : 1 < n) : kindOf n = none := by
  match n, h with
  | n + 2, _ => rfl

theorem configureLane_malformed {lane enabled kind level reporting : Nat}
    (h : 5 < lane ∨ 1 < enabled ∨ 1 < kind ∨ 3 < level ∨ 1 < reporting) :
    configureLane lane enabled kind level reporting s = refuse s .malformed .empty := by
  unfold configureLane
  split
  · next lane' enabled' kind' reporting' =>
    rcases h with h | h | h | h | h
    · rw [laneOf_eq_none h] at lane'; cases lane'
    · rw [switchOf_eq_none h] at enabled'; cases enabled'
    · rw [kindOf_eq_none h] at kind'; cases kind'
    · rw [if_pos h]
    · rw [switchOf_eq_none h] at reporting'; cases reporting'
  · rfl

theorem configureLane_in_range {l : Lane} {k : ReadKind} {enabled kind level reporting : Nat} (he : enabled ≤ 1)
    (hl : level ≤ 3) (hr : reporting ≤ 1) (hk : kind = (match k with | .crate => 0 | .keg => 1)) :
    configureLane l.val enabled kind level reporting s =
      configureLaneAt l (decide (enabled = 1)) k level (decide (reporting = 1)) s := by
  have kind_eq : kindOf kind = some k := by subst hk; cases k <;> rfl
  rw [configureLane, laneOf_val, switchOf_eq_some he, kind_eq, switchOf_eq_some hr]
  exact if_neg (Nat.not_lt.2 hl)

theorem LanePort.occupied_iff (p : LanePort) : p.occupied = true ↔ p.queue ≠ [] ∨ p.staged ≠ [] := by
  rw [LanePort.occupied, Bool.or_eq_true, Bool.not_eq_true', Bool.not_eq_true', List.isEmpty_eq_false_iff,
    List.isEmpty_eq_false_iff]

section configure

variable {l : Lane} {k : ReadKind} {enabled : Bool}

/-- The kind of an enabled lane does not change (R32). -/
theorem configureLaneAt_kind (level : Nat) (reporting : Bool) (kind : k ≠ s.lanes[l].kind)
    (on : s.lanes[l].state ≠ .disabled) :
    configureLaneAt l enabled k level reporting s = refuse s .wrongState s.lanes[l].busy := by
  rw [configureLaneAt, if_pos (by simp only [decide_eq_true kind, (LanePort.enabled_iff _).2 on, Bool.and_self])]

variable (free : k = s.lanes[l].kind ∨ s.lanes[l].state = .disabled)

include free

theorem configureLaneAt_kind_passes (level : Nat) (reporting : Bool) :
    configureLaneAt l enabled k level reporting s =
      if !enabled && s.lanes[l].isBound then refuse s .inUse s.lanes[l].busy
      else if !enabled && s.lanes[l].occupied then refuse s .wrongState s.lanes[l].busy
      else accept (s.modifyLane l (fun p => p.configure enabled k level reporting))
        (.laneConfigured (s.lanes[l].configure enabled k level reporting).state k level reporting) := by
  refine if_neg fun h => ?_
  rw [Bool.and_eq_true, decide_eq_true_eq, LanePort.enabled_iff] at h
  exact free.elim h.1 h.2

/-- A taken Configure Lane (R32, R33). -/
theorem configureLaneAt_accepted (level : Nat) (reporting : Bool) {q : LanePort}
    (idle : enabled = false → ¬ s.lanes[l].Bound ∧ s.lanes[l].queue = [] ∧ s.lanes[l].staged = [])
    (gives : s.lanes[l].configure enabled k level reporting = q) :
    configureLaneAt l enabled k level reporting s =
      accept { s with lanes := upd s.lanes l (fun _ => q) } (.laneConfigured q.state k level reporting) := by
  have lanes : upd s.lanes l (fun p => p.configure enabled k level reporting) = upd s.lanes l (fun _ => q) :=
    upd_congr gives
  rw [configureLaneAt_kind_passes free, if_neg, if_neg, gives, ← lanes]
  · rfl
  · rw [Bool.and_eq_true, Bool.not_eq_true', LanePort.occupied_iff]
    rintro ⟨off, occupied⟩
    exact occupied.elim (fun h => h (idle off).2.1) fun h => h (idle off).2.2
  · rw [Bool.and_eq_true, Bool.not_eq_true', LanePort.isBound_iff]
    rintro ⟨off, bound⟩
    exact (idle off).1 bound

end configure

theorem LanePort.not_bound_of_state {p : LanePort} (h : p.state = .disabled ∨ p.state = .idle) : ¬ p.Bound := by
  rintro ⟨u, bound⟩
  rw [bound] at h
  exact h.elim nofun nofun

/-- An empty DISABLED lane is enabled with its hold released (R33, R35). -/
theorem LanePort.configure_enables {p : LanePort} (k : ReadKind) (level : Nat) (reporting : Bool)
    (disabled : p.state = .disabled) (empty : p.queue = []) : p.configure true k level reporting =
      { p with state := .idle, kind := k, level := level, reporting := reporting, hold := false } := by
  have off : LanePort.enabled { p with kind := k, level := level, reporting := reporting } = false :=
    (LanePort.enabled_false _).2 disabled
  rw [LanePort.configure, if_pos rfl, LanePort.enable, off, if_neg nofun, LanePort.rehold_eq]
  simp [LanePort.holdFor, empty]

/-- A lane that is as enabled as it should be takes its kind, level and reporting (R33). -/
theorem LanePort.configure_stays {p : LanePort} (enabled : Bool) (k : ReadKind) (level : Nat) (reporting : Bool)
    (same : p.enabled = enabled) : p.configure enabled k level reporting =
      { p with kind := k, level := level, reporting := reporting } := by
  have on : LanePort.enabled { p with kind := k, level := level, reporting := reporting } = enabled := same
  cases enabled with
  | true => rw [LanePort.configure, if_pos rfl, LanePort.enable, on, if_pos rfl]
  | false => rw [LanePort.configure, if_neg nofun, LanePort.disable, on, if_neg nofun]

/-- An enabled lane is disabled, and its frames not started are lost (R33, R50). -/
theorem LanePort.configure_disables {p : LanePort} (k : ReadKind) (level : Nat) (reporting : Bool)
    (on : p.enabled = true) : p.configure false k level reporting = { p with
      state := .disabled, kind := k, level := level, reporting := reporting, hold := true, passCount := 0
      txQueue := p.txQueue.take 1
      downLosses := min 65535 (p.downLosses + (p.txQueue.length - 1))
      flags := if 1 < p.txQueue.length then p.flags ||| 0x200#10 else p.flags } := by
  have on : LanePort.enabled { p with kind := k, level := level, reporting := reporting } = true := on
  have lost : 0 < LanePort.unstarted { p with kind := k, level := level, reporting := reporting } ↔
      1 < p.txQueue.length := Nat.sub_pos_iff_lt
  rw [LanePort.configure, if_neg nofun, LanePort.disable, on, if_pos rfl]
  simp only [lost]
  split <;> rfl

/-- Settles O31. -/
theorem configureLaneSets : Obligations.ConfigureLaneSets := by
  unfold Obligations.ConfigureLaneSets
  intro s tag lane enabled kind level reporting room x
  refine ⟨fun out => State.serve_refuse room (configureLane_malformed out), fun he hl hr l k lane_eq hk => ?_⟩
  subst lane_eq
  intro p busy report gives
  have meaning := configureLane_in_range (s := s) (l := l) he hl hr hk
  have refused : ∀ {c d}, configureLaneAt l (decide (enabled = 1)) k level report s = refuse s c d →
      x = s.refuses tag 0x10 c d := fun h => State.serve_refuse room (meaning.trans h)
  have taken : k = p.kind ∨ p.state = .disabled → ∀ {q : LanePort},
      (decide (enabled = 1) = false → ¬ p.Bound ∧ p.queue = [] ∧ p.staged = []) →
      p.configure (decide (enabled = 1)) k level report = q → gives q := fun free q idle same =>
    congrArg Host.Outcome.next (State.serve_accept room (meaning.trans (configureLaneAt_accepted free level report idle same)))
  refine ⟨fun kind on => refused (configureLaneAt_kind level report kind on), fun free =>
    ⟨fun off bound => refused ?_, fun off unbound occupied => refused ?_, fun on disabled empty => ?_,
      fun on running => ?_, fun off disabled empty unstaged => ?_, fun off idle empty unstaged => ?_⟩⟩
  · subst off
    rw [configureLaneAt_kind_passes free, (LanePort.isBound_iff _).2 bound]
    rfl
  · subst off
    rw [configureLaneAt_kind_passes free, Bool.eq_false_iff.2 (mt (LanePort.isBound_iff _).1 unbound),
      (LanePort.occupied_iff _).2 occupied]
    rfl
  · subst on
    exact taken free nofun (LanePort.configure_enables k level report disabled empty)
  · subst on
    exact taken free nofun (LanePort.configure_stays true k level report ((LanePort.enabled_iff _).2 running))
  · subst off
    exact taken free (fun _ => ⟨LanePort.not_bound_of_state (.inl disabled), empty, unstaged⟩)
      (LanePort.configure_stays false k level report ((LanePort.enabled_false _).2 disabled))
  · subst off
    exact taken free (fun _ => ⟨LanePort.not_bound_of_state (.inr idle), empty, unstaged⟩)
      (LanePort.configure_disables k level report ((LanePort.enabled_iff _).2 (by rw [show p.state = _ from idle]; nofun)))

end Sys2Proof.Machine

/-! ## The lane that a grant is made on -/

namespace Sys2Proof.Machine

variable {s : State}

/-! ### The choice of a lane -/

theorem LanePort.waiting_iff (p : LanePort) : p.waiting = true ↔ p.queue ≠ [] := by
  rw [LanePort.waiting, Bool.not_eq_true', List.isEmpty_eq_false_iff]

theorem State.level_eq_standing (s : State) (l : Lane) : s.level l = s.standing l := LanePort.effectiveLevel_eq _ _

theorem State.betterLane_idle {l : Lane} (idle : s.lanes[l].queue = []) (best : Option Lane) :
    s.betterLane best l = best :=
  if_neg fun h => (LanePort.waiting_iff _).1 h idle

theorem State.betterLane_none {l : Lane} (waits : s.lanes[l].queue ≠ []) : s.betterLane none l = some l := by
  rw [State.betterLane, if_pos ((LanePort.waiting_iff _).2 waits)]

theorem State.betterLane_some {l : Lane} (waits : s.lanes[l].queue ≠ []) (b : Lane) :
    s.betterLane (some b) l = if s.standing b < s.standing l then some l else some b := by
  rw [State.betterLane, if_pos ((LanePort.waiting_iff _).2 waits), State.level_eq_standing, State.level_eq_standing]

/-- The best of a list of lanes is one of its waiting lanes, if it has any. -/
theorem State.foldl_betterLane_mem (ls : List Lane) (best : Option Lane) :
    ls.foldl s.betterLane best = best ∨ ∃ b ∈ ls, s.lanes[b].queue ≠ [] ∧ ls.foldl s.betterLane best = some b := by
  induction ls generalizing best with
  | nil => exact .inl rfl
  | cons l ls ih =>
    have next : s.betterLane best l = best ∨ s.lanes[l].queue ≠ [] ∧ s.betterLane best l = some l := by
      by_cases waits : s.lanes[l].queue ≠ []
      · cases best with
        | none => exact .inr ⟨waits, State.betterLane_none waits⟩
        | some b =>
          rw [State.betterLane_some waits]
          split
          · exact .inr ⟨waits, rfl⟩
          · exact .inl rfl
      · exact .inl (State.betterLane_idle (not_not.1 waits) best)
    rcases ih (s.betterLane best l) with e | ⟨b, hb, waits, e⟩
    · exact next.imp e.trans fun ⟨waits, e'⟩ => ⟨l, List.mem_cons_self, waits, e.trans e'⟩
    · exact .inr ⟨b, List.mem_cons_of_mem _ hb, waits, e⟩

/-- A lane stays the best through lanes that do not stand higher. -/
theorem State.foldl_betterLane_stays {l : Lane} (ls : List Lane)
    (below : ∀ m ∈ ls, s.lanes[m].queue ≠ [] → s.standing m ≤ s.standing l) :
    ls.foldl s.betterLane (some l) = some l := by
  induction ls with
  | nil => rfl
  | cons m ms ih =>
    have stays : s.betterLane (some l) m = some l := by
      by_cases waits : s.lanes[m].queue ≠ []
      · rw [State.betterLane_some waits, if_neg (Nat.not_lt.2 (below m List.mem_cons_self waits))]
      · exact State.betterLane_idle (not_not.1 waits) _
    rw [List.foldl_cons, stays]
    exact ih fun n hn => below n (List.mem_cons_of_mem _ hn)

/-- The lanes in cyclic order stand ever further after the last-granted lane (R45). -/
theorem cyclicAfter_pairwise (last : Lane) :
    (cyclicAfter last).Pairwise (fun a b => (a.val + 5 - last.val) % 6 < (b.val + 5 - last.val) % 6) := by
  revert last
  decide

theorem mem_cyclicAfter (last l : Lane) : l ∈ cyclicAfter last := by
  revert last l
  decide

/-- The arbiter chooses the lane of `State.Granted`: those before it in cyclic order stand lower, and those after
it do not stand higher (R45). -/
theorem State.Granted.chooseLane {l : Lane} (h : s.Granted l) : s.chooseLane = some l := by
  obtain ⟨waits, best⟩ := h
  obtain ⟨before, after, split⟩ := List.append_of_mem (mem_cyclicAfter s.lastGranted l)
  have order := cyclicAfter_pairwise s.lastGranted
  rw [split, List.pairwise_append] at order
  obtain ⟨-, later, earlier⟩ := order
  have later := (List.pairwise_cons.1 later).1
  have earlier := fun m hm => earlier m hm l List.mem_cons_self
  have lower : ∀ m ∈ before, s.lanes[m].queue ≠ [] → s.standing m < s.standing l := fun m hm hw =>
    (best m hw fun e => by subst e; exact Nat.lt_irrefl _ (earlier m hm)).resolve_right
      fun ⟨_, further⟩ => Nat.lt_asymm further (earlier m hm)
  have notHigher : ∀ m ∈ after, s.lanes[m].queue ≠ [] → s.standing m ≤ s.standing l := fun m hm hw =>
    (best m hw fun e => by subst e; exact Nat.lt_irrefl _ (later m hm)).elim Nat.le_of_lt fun ⟨level, _⟩ => level.le
  have takes : s.betterLane (before.foldl s.betterLane none) l = some l := by
    rcases State.foldl_betterLane_mem before none with e | ⟨b, hb, hw, e⟩
    · rw [e, State.betterLane_none waits]
    · rw [e, State.betterLane_some waits, if_pos (lower b hb hw)]
  rw [State.chooseLane, split, List.foldl_append, List.foldl_cons, takes]
  exact State.foldl_betterLane_stays after notHigher

theorem State.chooseLane_none (idle : ∀ l : Lane, s.lanes[l].queue = []) : s.chooseLane = none := by
  rcases State.foldl_betterLane_mem (cyclicAfter s.lastGranted) none with e | ⟨b, -, waits, -⟩
  · exact e
  · exact absurd (idle b) waits

/-! ### Taking an entry -/

section taken

variable {l : Lane} {e : ReadEntry} {rest : List ReadEntry}

theorem State.takeEntry_lane (l m : Lane) (rest : List ReadEntry) : (s.takeEntry l rest).lanes[m] =
    if m = l then s.lanes[m].taken rest else { s.lanes[m] with
      passCount :=
        if s.lanes[m].queue ≠ [] ∧ s.standing m < s.standing l then min 15 (s.lanes[m].passCount + 1)
        else s.lanes[m].passCount } := by
  have passed : (s.lanes[m].waiting && s.lanes[m].effectiveLevel s.agingLimit < s.level l) = true ↔
      s.lanes[m].queue ≠ [] ∧ s.standing m < s.standing l := by
    rw [Bool.and_eq_true, LanePort.waiting_iff, decide_eq_true_eq, ← State.level_eq_standing, ← State.level_eq_standing]
    rfl
  refine (ofFn_get _ m).trans ?_
  dsimp only
  split
  · rw [LanePort.rehold_eq]
    rfl
  · by_cases h : s.lanes[m].queue ≠ [] ∧ s.standing m < s.standing l
    · rw [if_pos (passed.2 h), if_pos h]
      rfl
    · rw [if_neg (mt passed.1 h), if_neg h]

theorem State.takeEntry_taken (l : Lane) (rest : List ReadEntry) :
    (s.takeEntry l rest).lanes[l] = s.lanes[l].taken rest := by rw [State.takeEntry_lane, if_pos rfl]

theorem State.takeEntry_passedOver (l : Lane) (rest : List ReadEntry) : s.PassedOver (s.takeEntry l rest) l :=
  fun m hm => by rw [State.takeEntry_lane, if_neg hm]

/-- A grant of an orphan (R46, R47). -/
theorem State.Granted.exec_orphan (h : s.Granted l) (head : s.lanes[l].queue = e :: rest) (tag : e.tag = none) :
    exec .grant s = .next ((s.takeEntry l rest).grantOrphan l e).finish := by
  change execGrant s = _
  simp only [execGrant, h.chooseLane, head, tag]

/-- A grant of a tagged entry, whose context names what it is priced with (R46, R58). -/
theorem State.Granted.exec_priced (h : s.Granted l) (head : s.lanes[l].queue = e :: rest) {u : VisitTag}
    (tag : e.tag = some u) {c : GrantContext} (context : s.grantContext l e u = some c) :
    exec .grant s = .next ((s.takeEntry l rest).grantTagged l e u c).finish := by
  change execGrant s = _
  simp only [execGrant, h.chooseLane, head, tag, context]

/-- A grant of a tagged entry without a context stops (log 15). -/
theorem State.Granted.exec_dangling (h : s.Granted l) (head : s.lanes[l].queue = e :: rest) {u : VisitTag}
    (tag : e.tag = some u) (context : s.grantContext l e u = none) : exec .grant s = .fault .danglingTag := by
  change execGrant s = _
  simp only [execGrant, h.chooseLane, head, tag, context]

end taken

/-! ### What stays of a taken entry through the rest of its grant -/

/-- What happens to a granted entry leaves the arbiter's side of its grant: the other lanes, and queue, pass count
and hold output of its own lane. It leaves the waiting commands too. -/
structure State.KeepsTaken (x y : State) (l : Lane) : Prop where
  pending : y.pending = x.pending
  lastGranted : y.lastGranted = x.lastGranted
  others : ∀ m : Lane, m ≠ l → y.lanes[m] = x.lanes[m]
  queue : y.lanes[l].queue = x.lanes[l].queue
  passCount : y.lanes[l].passCount = x.lanes[l].passCount
  hold : y.lanes[l].hold = x.lanes[l].hold

section keeps

variable {x y z : State} {l : Lane}

theorem State.KeepsTaken.trans (h : x.KeepsTaken y l) (h' : y.KeepsTaken z l) : x.KeepsTaken z l where
  pending := h'.pending.trans h.pending
  lastGranted := h'.lastGranted.trans h.lastGranted
  others m hm := (h'.others m hm).trans (h.others m hm)
  queue := h'.queue.trans h.queue
  passCount := h'.passCount.trans h.passCount
  hold := h'.hold.trans h.hold

theorem State.KeepsTaken.of_lanes (pending : y.pending = x.pending) (lastGranted : y.lastGranted = x.lastGranted)
    (lanes : y.lanes = x.lanes) : x.KeepsTaken y l :=
  ⟨pending, lastGranted, fun _ _ => by rw [lanes], by rw [lanes], by rw [lanes], by rw [lanes]⟩

theorem State.keepsTaken_modifyLane {f : LanePort → LanePort}
    (h : ∀ p, (f p).queue = p.queue ∧ (f p).passCount = p.passCount ∧ (f p).hold = p.hold) :
    x.KeepsTaken (x.modifyLane l f) l where
  pending := rfl
  lastGranted := rfl
  others m hm := by rw [State.modifyLane, upd_other _ _ _ _ hm]
  queue := by rw [State.modifyLane, upd_same, (h _).1]
  passCount := by rw [State.modifyLane, upd_same, (h _).2.1]
  hold := by rw [State.modifyLane, upd_same, (h _).2.2]

theorem State.keepsTaken_latchLane (f : LaneFlag) : x.KeepsTaken (x.latchLane l f) l :=
  State.keepsTaken_modifyLane fun _ => ⟨rfl, rfl, rfl⟩

theorem State.keepsTaken_finish : x.KeepsTaken x.finish l := .of_lanes x.finish_pending x.finish_lastGranted x.finish_lanes

theorem State.keepsTaken_latchLaneIf (f : LaneFlag) (b : Bool) : x.KeepsTaken (x.latchLaneIf l f b) l := by
  cases b
  · exact .of_lanes rfl rfl rfl
  · exact State.keepsTaken_latchLane f

theorem State.keepsTaken_offerRecord (r : ItemRecord) : x.KeepsTaken (x.offerRecord r) l := by
  obtain ⟨_, _, _, e, -⟩ := x.offerRecord_frame r
  rw [e]
  exact .of_lanes rfl rfl rfl

theorem State.keepsTaken_drainTagged (u : VisitTag) (n : Nat) : x.KeepsTaken (x.drainTagged u n) l := by
  obtain ⟨_, _, e⟩ := x.drainTagged_frame u n
  rw [e]
  exact .of_lanes rfl rfl rfl

theorem State.keepsTaken_grantOrphan (e : ReadEntry) : x.KeepsTaken (x.grantOrphan l e) l := by
  refine (State.KeepsTaken.trans (State.keepsTaken_modifyLane ?_) (State.keepsTaken_latchLane _)).trans
    (State.keepsTaken_offerRecord _)
  exact fun _ => ⟨rfl, rfl, rfl⟩

theorem State.keepsTaken_commitItem (v : VisitSlot) (k : Nat) (enables : Conditions) (i : CommitItem) :
    x.KeepsTaken (x.commitItem l v k enables i) l := by
  unfold State.commitItem
  split
  · exact .of_lanes rfl rfl rfl
  · next g _ =>
    dsimp only
    generalize passage enables x.accounts[g.accountSlot].floats g i = p
    obtain ⟨a, e⟩ := (x.setSegment v k p.segment).takeFloat_frame g.accountSlot p.takes
    have start : x.KeepsTaken ((x.setSegment v k p.segment).takeFloat g.accountSlot p.takes) l := by
      rw [e]
      exact .of_lanes rfl rfl rfl
    exact ((start.trans (State.keepsTaken_latchLaneIf _ _)).trans (State.keepsTaken_latchLaneIf _ _)).trans
      (State.keepsTaken_offerRecord _)

theorem State.keepsTaken_commitItems (v : VisitSlot) (k : Nat) (enables : Conditions) (is : List CommitItem) :
    x.KeepsTaken (x.commitItems l v k enables is) l := by
  unfold State.commitItems
  induction is generalizing x with
  | nil => exact .of_lanes rfl rfl rfl
  | cons i is ih => exact (State.keepsTaken_commitItem v k enables i).trans ih

theorem State.keepsTaken_latchPricing (p : Pricing) : x.KeepsTaken (x.latchPricing l p) l :=
  (State.keepsTaken_latchLaneIf _ _).trans (State.keepsTaken_latchLaneIf _ _)

theorem State.keepsTaken_commitStack (enables : Conditions) : x.KeepsTaken (x.commitStack l enables) l := by
  unfold State.commitStack
  split
  · exact .of_lanes rfl rfl rfl
  · refine ((State.keepsTaken_commitItems _ _ _ _).trans (State.keepsTaken_modifyLane ?_)).trans
      (State.keepsTaken_drainTagged _ _)
    exact fun _ => ⟨rfl, rfl, rfl⟩

theorem State.keepsTaken_stageItem (u : VisitTag) (k stack : Nat) (i : StagedItem) :
    x.KeepsTaken (x.stageItem l u k stack i) l :=
  State.keepsTaken_modifyLane fun _ => ⟨rfl, rfl, rfl⟩

theorem State.keepsTaken_grantTagged (e : ReadEntry) (u : VisitTag) (c : GrantContext) :
    x.KeepsTaken (x.grantTagged l e u c) l := by
  unfold State.grantTagged
  dsimp only
  generalize price (x.findType e.tagCode) c.generation c.cls e = p
  refine (State.keepsTaken_latchPricing p).trans ?_
  split
  · exact (State.keepsTaken_commitItem _ _ _ _).trans (State.keepsTaken_drainTagged _ _)
  · split
    · exact (State.keepsTaken_stageItem _ _ _ _).trans (State.keepsTaken_commitStack _)
    · exact State.keepsTaken_stageItem _ _ _ _

theorem State.KeepsTaken.passedOver (h : x.KeepsTaken y l) (passed : s.PassedOver x l) : s.PassedOver y l :=
  fun m hm => (h.others m hm).trans (passed m hm)

end keeps

/-- Settles O49: the arbiter takes the entry, and nothing that follows touches what it did. -/
theorem grantChoosesLane : Obligations.GrantChoosesLane := by
  unfold Obligations.GrantChoosesLane
  refine fun s => ⟨fun idle => ?_, fun l e rest t granted head granting => ?_⟩
  · change execGrant s = _
    rw [execGrant, State.chooseLane_none idle]
  · have kept : (s.takeEntry l rest).KeepsTaken t l := by
      cases tag : e.tag with
      | none =>
        rw [granted.exec_orphan head tag] at granting
        cases granting
        exact (State.keepsTaken_grantOrphan e).trans State.keepsTaken_finish
      | some u =>
        cases context : s.grantContext l e u with
        | none =>
          rw [granted.exec_dangling head tag context] at granting
          cases granting
        | some c =>
          rw [granted.exec_priced head tag context] at granting
          cases granting
          exact (State.keepsTaken_grantTagged e u c).trans State.keepsTaken_finish
    have taken := s.takeEntry_taken l rest
    refine ⟨kept.lastGranted, ?_, ?_, ?_, kept.passedOver (State.takeEntry_passedOver l rest)⟩
    · rw [kept.queue, taken]; rfl
    · rw [kept.passCount, taken]; rfl
    · rw [kept.hold, taken]; rfl

end Sys2Proof.Machine

/-! ## What a grant does with its entry -/

namespace Sys2Proof.Machine

variable {s : State}

/-! ### Flags of a lane -/

/-- A lane with a set of flags latched (R52). -/
def LanePort.raise (p : LanePort) (flags : LaneFlags) : LanePort := { p with flags := p.flags ||| flags }

theorem LanePort.raise_zero (p : LanePort) : p.raise 0 = p := by simp [LanePort.raise]

theorem LanePort.raise_raise (p : LanePort) (a b : LaneFlags) : (p.raise a).raise b = p.raise (a ||| b) := by
  simp only [LanePort.raise, BitVec.or_assoc]

theorem State.latchLaneIf_eq (s : State) (l : Lane) (f : LaneFlag) (b : Bool) :
    s.latchLaneIf l f b = s.modifyLane l (fun p => p.raise (if b then f.bit else 0)) := by
  cases b
  · have same : upd s.lanes l (fun p => p.raise 0) = s.lanes := upd_id (LanePort.raise_zero _)
    exact congrArg (fun lanes => { s with lanes := lanes }) same.symm
  · rfl

/-- Two flags that one rule may latch on a lane are latched together. -/
theorem State.latchLaneIf_latchLaneIf (s : State) (l : Lane) (f g : LaneFlag) (a b : Bool) :
    (s.latchLaneIf l f a).latchLaneIf l g b =
      s.modifyLane l (fun p => p.raise ((if a then f.bit else 0) ||| (if b then g.bit else 0))) := by
  simp only [State.latchLaneIf_eq, State.modifyLane, upd_upd, LanePort.raise_raise]

/-- The flags that pricing latches: UNLISTED and ULLAGE_WARN (R70, R108). -/
def Pricing.laneFlags (p : Pricing) : LaneFlags :=
  (if p.result.listed then 0 else 0x008#10) ||| (if p.ullageWarn then 0x020#10 else 0)

theorem State.latchPricing_eq (s : State) (l : Lane) (p : Pricing) :
    s.latchPricing l p = s.modifyLane l (fun q => q.raise p.laneFlags) := by
  have flags : ((if !p.result.listed then LaneFlag.unlisted.bit else 0) |||
      (if p.ullageWarn then LaneFlag.ullageWarn.bit else 0)) = p.laneFlags := by
    rw [Pricing.laneFlags]
    cases p.result.listed <;> cases p.ullageWarn <;> rfl
  rw [State.latchPricing, State.latchLaneIf_latchLaneIf, flags]

/-- The flags that the passages of one commit latch: DIVERTED and EXCESS (R85, R91). -/
def commitFlags (ps : List Passage) : LaneFlags :=
  (if ps.any (fun p => p.outcome == .diverted) then 0x010#10 else 0) |||
    (if ps.any (fun p => p.outcome == .excess) then 0x040#10 else 0)

theorem if_or_flags (a b : Bool) (flags : LaneFlags) :
    (if a || b then flags else 0) = (if a then flags else 0) ||| (if b then flags else 0) := by
  cases a <;> cases b <;> simp

theorem commitFlags_singleton (p : Passage) : commitFlags [p] =
    (if p.outcome == .diverted then 0x010#10 else 0) ||| (if p.outcome == .excess then 0x040#10 else 0) := by
  simp only [commitFlags, List.any_cons, List.any_nil, Bool.or_false]

theorem commitFlags_cons (p : Passage) (ps : List Passage) : commitFlags (p :: ps) = commitFlags [p] ||| commitFlags ps := by
  rw [commitFlags_singleton, commitFlags, List.any_cons, List.any_cons, if_or_flags, if_or_flags, commitFlags]
  ac_rfl

/-! ### Commits -/

/-- The floats that an item's passage leaves (R88). -/
def Passage.floatsLeft (p : Passage) (floats : Vector Nat 8) : Vector Nat 8 :=
  match p.takes with
  | some f => upd floats f (fun n => n - 1)
  | none => floats

theorem State.takeFloat_eq (s : State) (a : AccountSlot) (p : Passage) : s.takeFloat a p.takes =
    s.modifyAccount a (fun r => { r with floats := p.floatsLeft r.floats }) := by
  unfold Passage.floatsLeft
  cases p.takes with
  | none =>
    have same : upd s.accounts a (fun r => { r with floats := r.floats }) = s.accounts := upd_id rfl
    exact congrArg (fun accounts => { s with accounts := accounts }) same.symm
  | some f =>
    simp only [State.takeFloat, State.setFloatValue, State.modifyAccount]
    congr 1

/-- An item's commit: its passage's segment, float, flags and record (R83 to R94). -/
theorem State.commitItem_eq (s : State) (l : Lane) {v : VisitSlot} {k : Nat} (enables : Conditions) (i : CommitItem)
    {g : Segment} (hk : s.visits[v].segments[k]? = some g) {p : Passage}
    (hp : passage enables s.accounts[g.accountSlot].floats g i = p) :
    ∃ items loss flags, s.commitItem l v k enables i = { s with
        visits := upd s.visits v (fun r => { r with segments := r.segments.set k p.segment })
        accounts := upd s.accounts g.accountSlot (fun a => { a with floats := p.floatsLeft a.floats })
        lanes := upd s.lanes l (fun q => q.raise (commitFlags [p]))
        items := items, lossCount := loss, partFlags := flags } ∧
      s.Records (s.commitItem l v k enables i)
        (if s.lanes[l].reporting then [commitRecord l s.visits[v].number k i p] else []) := by
  have committed : s.commitItem l v k enables i = State.offerRecord { s with
      visits := upd s.visits v (fun r => { r with segments := r.segments.set k p.segment })
      accounts := upd s.accounts g.accountSlot (fun a => { a with floats := p.floatsLeft a.floats })
      lanes := upd s.lanes l (fun q => q.raise (commitFlags [p])) } (commitRecord l s.visits[v].number k i p) := by
    unfold State.commitItem
    rw [hk]
    dsimp only
    rw [hp, State.takeFloat_eq, State.latchLaneIf_latchLaneIf]
    simp only [commitFlags_singleton]
    rfl
  obtain ⟨items, loss, flags, e, records⟩ := State.offerRecord_records { s with
    visits := upd s.visits v (fun r => { r with segments := r.segments.set k p.segment })
    accounts := upd s.accounts g.accountSlot (fun a => { a with floats := p.floatsLeft a.floats })
    lanes := upd s.lanes l (fun q => q.raise (commitFlags [p])) } (commitRecord l s.visits[v].number k i p)
  rw [committed]
  refine ⟨items, loss, flags, e, ?_⟩
  have reporting : (upd s.lanes l (fun q => q.raise (commitFlags [p])))[l].reporting = s.lanes[l].reporting := by
    rw [upd_same]; rfl
  have records := records.congr (s' := s) ⟨rfl, rfl, rfl⟩ ⟨rfl, rfl, rfl⟩
  exact reporting ▸ records

theorem Segment.addToLine_accountSlot (g : Segment) (i : CommitItem) : (g.addToLine i).accountSlot = g.accountSlot := by
  unfold Segment.addToLine
  split
  · rfl
  · split <;> rfl

theorem creditedPassage_accountSlot (g : Segment) (i : CommitItem) (t : Target) (causes : Causes) :
    (creditedPassage g i t causes).segment.accountSlot = g.accountSlot := by
  cases t <;> exact g.addToLine_accountSlot i

/-- A commit stays with the account of its segment. -/
theorem passage_accountSlot (enables : Conditions) (floats : Vector Nat 8) (g : Segment) (i : CommitItem) :
    (passage enables floats g i).segment.accountSlot = g.accountSlot := by
  unfold passage
  split
  · rfl
  split
  · rfl
  dsimp only
  split
  · split
    · rfl
    · exact creditedPassage_accountSlot _ _ _ _
  · exact creditedPassage_accountSlot _ _ _ _

theorem passAll_cons (enables : Conditions) (g : Segment) (floats : Vector Nat 8) (i : CommitItem) (is : List CommitItem)
    {p : Passage} (hp : passage enables floats g i = p) : passAll enables g floats (i :: is) =
      ((passAll enables p.segment (p.floatsLeft floats) is).1, (passAll enables p.segment (p.floatsLeft floats) is).2.1,
        p :: (passAll enables p.segment (p.floatsLeft floats) is).2.2) := by
  rw [passAll, hp]
  rfl

/-- A stack's commit: its items pass one after another into one segment (R82). -/
theorem State.commitItems_eq (l : Lane) {v : VisitSlot} {k : Nat} (enables : Conditions) (is : List CommitItem)
    (s : State) {g : Segment} (hk : s.visits[v].segments[k]? = some g) {r : Segment × Vector Nat 8 × List Passage}
    (hr : passAll enables g s.accounts[g.accountSlot].floats is = r) :
    ∃ items loss flags, s.commitItems l v k enables is = { s with
        visits := upd s.visits v (fun x => { x with segments := x.segments.set k r.1 })
        accounts := upd s.accounts g.accountSlot (fun a => { a with floats := r.2.1 })
        lanes := upd s.lanes l (fun q => q.raise (commitFlags r.2.2))
        items := items, lossCount := loss, partFlags := flags } ∧
      s.Records (s.commitItems l v k enables is) (if s.lanes[l].reporting then
        List.zipWith (fun i p => commitRecord l s.visits[v].number k i p) is r.2.2 else []) := by
  induction is generalizing s g r with
  | nil =>
    subst hr
    have visits : upd s.visits v (fun x => { x with segments := x.segments.set k g }) = s.visits := by
      refine upd_id ?_
      obtain ⟨below, at_k⟩ := List.getElem?_eq_some_iff.1 hk
      rw [← at_k, List.set_getElem_self]
    have accounts : upd s.accounts g.accountSlot (fun a => { a with floats := s.accounts[g.accountSlot].floats }) =
        s.accounts := upd_id rfl
    have lanes : upd s.lanes l (fun q => q.raise (commitFlags [])) = s.lanes := upd_id (LanePort.raise_zero _)
    refine ⟨s.items, s.lossCount, s.partFlags, ?_, ?_⟩
    · simp only [passAll, visits, accounts, lanes]
      rfl
    · have none : s.Records (s.commitItems l v k enables []) [] := .none rfl rfl rfl
      simpa only [List.zipWith_nil_left, ite_self] using none
  | cons i is ih =>
    generalize hp : passage enables s.accounts[g.accountSlot].floats g i = p
    rw [passAll_cons enables g _ i is hp] at hr
    obtain ⟨items, loss, flags, one, record⟩ := s.commitItem_eq l enables i hk hp
    have slot : p.segment.accountSlot = g.accountSlot := hp ▸ passage_accountSlot _ _ _ _
    have hk' : (s.commitItem l v k enables i).visits[v].segments[k]? = some p.segment := by
      rw [one]
      simp only [upd_same]
      exact List.getElem?_set_self (List.getElem?_eq_some_iff.1 hk).1
    have floats : (s.commitItem l v k enables i).accounts[p.segment.accountSlot].floats =
        p.floatsLeft s.accounts[g.accountSlot].floats := by
      simp only [one, slot, upd_same]
    obtain ⟨items', loss', flags', more, records⟩ := ih (s.commitItem l v k enables i) hk' (congrArg (passAll _ _ · _) floats)
    have run : s.commitItems l v k enables (i :: is) = (s.commitItem l v k enables i).commitItems l v k enables is := rfl
    have lane : (s.commitItem l v k enables i).lanes[l].reporting = s.lanes[l].reporting := by
      rw [one]; simp only [upd_same]; rfl
    have number : (s.commitItem l v k enables i).visits[v].number = s.visits[v].number := by
      rw [one]; simp only [upd_same]
    subst hr
    rw [run]
    refine ⟨items', loss', flags', ?_, ?_⟩
    · rw [more, one]
      simp only [upd_upd, slot, LanePort.raise_raise, List.set_set, ← commitFlags_cons]
    · rw [lane, number] at records
      have both := record.append records
      rw [List.zipWith_cons_cons]
      cases reports : s.lanes[l].reporting
      · simpa only [reports, Bool.false_eq_true, if_false, List.nil_append] using both
      · simpa only [reports, if_true, List.singleton_append] using both

end Sys2Proof.Machine

/-! ## Grants of orphans, single items and stacks -/

namespace Sys2Proof.Machine

variable {s : State}

/-- The end of an event leaves the records of what it ends. -/
theorem State.Records.finish {x : State} {rs : List ItemRecord} (h : s.Records x rs) : s.Records x.finish rs :=
  h.congr ⟨rfl, rfl, rfl⟩ ⟨x.finish_items, x.finish_lossCount, x.finish_partFlags⟩

/-! ### Orphans -/

theorem matchRead_isNone (t : TypeBody) (r : ReadBody) : (matchRead t r).isNone = true ↔ t.kind ≠ r.kind := by
  cases t <;> cases r <;> simp [matchRead, TypeBody.kind, ReadBody.kind]

theorem orphanRecord_eq (l : Lane) (e : ReadEntry) (lookup : Option TypeEntry) : orphanRecord l e lookup =
    { lane := l, visit := 0, segment := 0, tagCode := e.tagCode, outcome := .orphan
      causes := match lookup with
        | some x => if x.body.kind = e.body.kind then 0 else 0x08#7
        | none => 0
      credit := 0, stack := e.member.map (fun m => (m.stack, m.position)) } := by
  cases lookup with
  | none => rfl
  | some x =>
    have causes : Cause.wrongKind.when ((some x).any (fun t => (matchRead t.body e.body).isNone)) =
        if x.body.kind = e.body.kind then 0 else 0x08#7 := by
      rw [Option.any_some, Cause.when]
      by_cases same : x.body.kind = e.body.kind
      · rw [if_neg (fun h => (matchRead_isNone _ _).1 h same), if_pos same]
      · rw [if_pos ((matchRead_isNone _ _).2 same), if_neg same]
        rfl
    rw [orphanRecord, causes]
    rfl

/-- Settles O50. -/
theorem grantOrphan : Obligations.GrantOrphan := by
  unfold Obligations.GrantOrphan
  intro s l e rest granted head tag
  refine ⟨_, granted.exec_orphan head tag, ?_⟩
  have kept := ((s.takeEntry l rest).keepsTaken_grantOrphan (l := l) e).trans State.keepsTaken_finish
  have passed := kept.passedOver (State.takeEntry_passedOver l rest)
  generalize lanes_eq : upd (s.takeEntry l rest).lanes l (fun p => { p with
    orphans := min 65535 (p.orphans + 1), flags := p.flags ||| 0x004#10 }) = lanes
  have counted : (s.takeEntry l rest).grantOrphan l e = State.offerRecord
      { s with lanes := lanes, lastGranted := l } (orphanRecord l e (s.findType e.tagCode)) := by
    subst lanes_eq
    simp only [State.grantOrphan, State.latchLane, State.modifyLane, upd_upd]
    rfl
  obtain ⟨items, loss, flags, offered, records⟩ := State.offerRecord_records
    { s with lanes := lanes, lastGranted := l } (orphanRecord l e (s.findType e.tagCode))
  rw [← counted] at offered records
  have lane : lanes[l] = { s.lanes[l].taken rest with
      orphans := min 65535 (s.lanes[l].orphans + 1), flags := s.lanes[l].flags ||| 0x004#10 } := by
    rw [← lanes_eq, upd_same, State.takeEntry_taken]
    rfl
  have records : s.Records ((s.takeEntry l rest).grantOrphan l e).finish
      (if s.lanes[l].reporting then [orphanRecord l e (s.findType e.tagCode)] else []) := by
    have reporting : lanes[l].reporting = s.lanes[l].reporting := by rw [lane]; rfl
    rw [← reporting]
    exact (records.congr (s' := s) ⟨rfl, rfl, rfl⟩ ⟨rfl, rfl, rfl⟩).finish
  refine ⟨?_, passed, ?_, ?_, records.flags⟩
  · rw [offered, State.finish_eq]
  · rw [State.finish_lanes, offered]
    exact lane
  · have recorded := records.recorded
    rw [orphanRecord_eq] at recorded
    exact recorded

/-! ### What a tagged entry is priced with -/

theorem State.names_live {u : VisitTag} (h : s.names u) :
    ((s.visits[u.slot].state == .opened || s.visits[u.slot].state == .closing) &&
      s.visits[u.slot].number == u.number) = true := by
  simpa only [Bool.and_eq_true, Bool.or_eq_true, beq_iff_eq, State.names] using h

/-- A live visit with a pinned generation and the segment the entry is for gives the grant its context (R46, R58). -/
theorem State.grantContext_eq {l : Lane} {e : ReadEntry} {u : VisitTag} {g : Generation} {k : Nat} {seg : Segment}
    (live : s.names u) (pinned : s.pinned s.visits[u.slot] = some g) (segment : s.segmentFor l e u = k)
    (found : s.visits[u.slot].segments[k]? = some seg) : s.grantContext l e u = some ⟨g, k, seg.cls⟩ := by
  rw [State.grantContext, if_pos (State.names_live live), segment, pinned, found]

theorem State.pinned_eq {v : VisitSlot} {pin : Pin} {g : Generation} (hp : s.visits[v].pin = some pin)
    (hg : s.tariffs[pin.slot].contents = some g) : s.pinned s.visits[v] = some g := by
  rw [State.pinned, hp]
  exact hg

/-- An entry outside stacks, or the first of a stack, is for the current segment (R42, R46). -/
theorem State.segmentFor_current {l : Lane} {e : ReadEntry} {u : VisitTag} {k : Nat}
    (first : e.member = none ∨ s.lanes[l].context = none) (current : k + 1 = s.visits[u.slot].segments.length) :
    s.segmentFor l e u = k := by
  have value : s.visits[u.slot].current = k := by rw [Visit.current, ← current]; rfl
  unfold State.segmentFor
  split
  · next member context =>
    rw [member, context] at first
    exact first.elim nofun nofun
  · exact value

/-- An entry of a staged stack is for the segment its first entry was for (R42). -/
theorem State.segmentFor_staged {l : Lane} {e : ReadEntry} {u : VisitTag} {m : StackMember} {c : StackContext}
    (member : e.member = some m) (context : s.lanes[l].context = some c) : s.segmentFor l e u = c.segment := by
  rw [State.segmentFor, member, context]

/-! ### The drain that follows a commit -/

theorem State.names_committed {y : State} {u : VisitTag} (live : s.names u) {k : Nat} {g : Segment}
    (visits : y.visits = upd s.visits u.slot (fun r => { r with segments := r.segments.set k g })) : y.names u := by
  rw [State.names, visits, upd_same]
  exact live

/-- Committed items leave their visit's tagged count, which may complete its drain (R6, R19, R46). -/
theorem State.drainTagged_committed {y : State} {u : VisitTag} (live : s.names u) {k : Nat} {g : Segment}
    (visits : y.visits = upd s.visits u.slot (fun r => { r with segments := r.segments.set k g }))
    (wait : y.settleWait = s.settleWait) (n : Nat) : y.drainTagged u n = { y with
      visits := upd s.visits u.slot (fun r =>
        Visit.drainedTo { r with segments := r.segments.set k g } (s.visits[u.slot].tagged - n))
      settleWait := s.waitDrained u (s.visits[u.slot].tagged - n) } := by
  rw [State.drainTagged_names _ (State.names_committed live visits)]
  congr 1
  · rw [visits, upd_upd]
    exact upd_congr rfl
  · simp only [State.waitDrained, visits, wait, upd_same]

/-! ### Single items -/

/-- The flags that one item's commit latches. -/
theorem commitFlags_one (p : Passage) : commitFlags [p] =
    (if p.outcome = .diverted then 0x010#10 else 0) ||| (if p.outcome = .excess then 0x040#10 else 0) := by
  simp only [commitFlags_singleton, beq_iff_eq]

/-- Settles O51. -/
theorem grantSingle : Obligations.GrantSingle := by
  unfold Obligations.GrantSingle
  intro s l e rest u pin g k seg granted head tag member live hpin hg current found priced item pass left
  have context := State.grantContext_eq live (State.pinned_eq hpin hg)
    (State.segmentFor_current (l := l) (.inl member) current) found
  have granting := granted.exec_priced head tag context
  have kept := ((s.takeEntry l rest).keepsTaken_grantTagged (l := l) e u ⟨g, k, seg.cls⟩).trans State.keepsTaken_finish
  have passed := kept.passedOver (State.takeEntry_passedOver l rest)
  generalize lanes_eq : upd (s.takeEntry l rest).lanes l (fun q => q.raise priced.laneFlags) = lanes
  have commits : (s.takeEntry l rest).grantTagged l e u ⟨g, k, seg.cls⟩ = (State.commitItem
      { s with lanes := lanes, lastGranted := l } l u.slot k g.header.enables item).drainTagged u 1 := by
    subst lanes_eq
    simp only [State.grantTagged, member, State.latchPricing_eq]
    rfl
  have lane : lanes[l] = (s.lanes[l].taken rest).raise priced.laneFlags := by
    rw [← lanes_eq, upd_same, State.takeEntry_taken]
  obtain ⟨items, loss, flags, committed, records⟩ := State.commitItem_eq
    { s with lanes := lanes, lastGranted := l } l g.header.enables item found (p := pass) rfl
  rw [State.drainTagged_committed live (by rw [committed]) (by rw [committed])] at commits
  generalize (s.takeEntry l rest).grantTagged l e u ⟨g, k, seg.cls⟩ = y at commits granting passed
  have records : s.Records y (if s.lanes[l].reporting then [commitRecord l u.number k item pass] else []) := by
    have reporting : lanes[l].reporting = s.lanes[l].reporting := by rw [lane]; rfl
    simp only [reporting, live.2] at records
    exact records.congr ⟨rfl, rfl, rfl⟩ (by rw [commits]; exact ⟨rfl, rfl, rfl⟩)
  refine ⟨_, granting, ?_, passed, ?_, records.finish.recorded, records.finish.flags⟩
  · rw [commits, committed, State.finish_eq]
    rfl
  · rw [State.finish_lanes, commits, committed]
    simp only [upd_same, lane, LanePort.raise_raise, commitFlags_one]
    simp only [LanePort.raise, Pricing.laneFlags, BitVec.or_assoc]
    rfl

/-! ### Stacks -/

/-- A priced item joins the Stack Context, which its first item starts (R42). -/
theorem State.stageItem_eq {l : Lane} {u : VisitTag} {k stack : Nat} {old : List StagedItem} (i : StagedItem)
    (context : s.lanes[l].context = none ∧ old = [] ∨ s.lanes[l].context = some ⟨stack, u, k, old⟩) :
    s.stageItem l u k stack i = s.modifyLane l (fun p => { p with context := some ⟨stack, u, k, old ++ [i]⟩ }) := by
  have lanes : (s.stageItem l u k stack i).lanes =
      upd s.lanes l (fun p => { p with context := some ⟨stack, u, k, old ++ [i]⟩ }) := by
    unfold State.stageItem State.modifyLane
    dsimp only
    refine upd_congr ?_
    rcases context with ⟨unstaged, rfl⟩ | staged
    · simp only [unstaged]
      rfl
    · simp only [staged]
  rw [State.modifyLane, ← lanes]
  rfl

/-- Settles O52: the item is staged, and the last one's grant passes all staged items into the recorded segment. -/
theorem grantStack : Obligations.GrantStack := by
  unfold Obligations.GrantStack
  intro s l e rest u m pin g k seg old granted head tag member live hpin hg stage found priced staged pricing
  have segment : s.segmentFor l e u = k := by
    rcases stage with ⟨unstaged, -, current⟩ | context
    · exact State.segmentFor_current (.inr unstaged) current
    · exact State.segmentFor_staged member context
  have context := State.grantContext_eq live (State.pinned_eq hpin hg) segment found
  have granting := granted.exec_priced head tag context
  have kept := ((s.takeEntry l rest).keepsTaken_grantTagged (l := l) e u ⟨g, k, seg.cls⟩).trans State.keepsTaken_finish
  have passed := kept.passedOver (State.takeEntry_passedOver l rest)
  generalize lanes_eq : upd (s.takeEntry l rest).lanes l (fun q =>
    { q.raise pricing with context := some ⟨m.stack, u, k, staged⟩ }) = lanes
  have lane : lanes[l] = { (s.lanes[l].taken rest).raise pricing with context := some ⟨m.stack, u, k, staged⟩ } := by
    rw [← lanes_eq, upd_same, State.takeEntry_taken]
  have stages : ((s.takeEntry l rest).latchPricing l priced).stageItem l u k m.stack
      ⟨m.position, e.tagCode, e.condition, priced.result⟩ = { s with lanes := lanes, lastGranted := l } := by
    rw [State.latchPricing_eq, State.stageItem_eq (old := old)]
    · subst lanes_eq
      simp only [State.modifyLane, upd_upd]
      rfl
    · simp only [State.modifyLane, upd_same, State.takeEntry_taken]
      exact stage.imp_left fun ⟨unstaged, empty, _⟩ => ⟨unstaged, empty⟩
  have grants : (s.takeEntry l rest).grantTagged l e u ⟨g, k, seg.cls⟩ =
      if m.last then State.commitStack { s with lanes := lanes, lastGranted := l } l g.header.enables
      else { s with lanes := lanes, lastGranted := l } := by
    simp only [State.grantTagged, member]
    exact stages ▸ rfl
  generalize (s.takeEntry l rest).grantTagged l e u ⟨g, k, seg.cls⟩ = y at grants granting passed
  refine ⟨fun last => ⟨_, granting, ?_, passed, ?_⟩, fun last => ?_⟩
  · rw [grants, last, State.finish_eq]
    rfl
  · rw [State.finish_lanes, grants, last]
    exact lane
  · intro items r left
    have context : lanes[l].context = some ⟨m.stack, u, k, staged⟩ := by rw [lane]
    obtain ⟨items', loss, flags, committed, records⟩ := State.commitItems_eq l g.header.enables items
      { s with lanes := lanes, lastGranted := l } found (r := r) rfl
    have commits : y = (State.modifyLane (State.commitItems { s with lanes := lanes, lastGranted := l }
        l u.slot k g.header.enables items) l (fun p => { p with context := none })).drainTagged u staged.length := by
      rw [grants, last, if_pos rfl, State.commitStack]
      simp only [context]
      rfl
    rw [State.drainTagged_committed live (by rw [committed]; rfl) (by rw [committed]; rfl)] at commits
    have records : s.Records y (if s.lanes[l].reporting then
        List.zipWith (fun i p => commitRecord l u.number k i p) items r.2.2 else []) := by
      have reporting : lanes[l].reporting = s.lanes[l].reporting := by rw [lane]; rfl
      simp only [reporting, live.2] at records
      exact records.congr ⟨rfl, rfl, rfl⟩ (by rw [commits]; exact ⟨rfl, rfl, rfl⟩)
    refine ⟨_, granting, ?_, passed, ?_, records.finish.recorded, records.finish.flags⟩
    · rw [commits, committed, State.finish_eq]
      rfl
    · rw [State.finish_lanes, commits, committed]
      simp only [State.modifyLane, upd_same, lane]
      simp only [LanePort.raise, commitFlags, BitVec.or_assoc]
      rfl

end Sys2Proof.Machine

/-! ## The commands that wait stay as every command leaves them -/

namespace Sys2Proof.Machine

variable {s : State}

/-! ### Operations -/

section operations

variable (s)

@[simp] theorem State.placeItem_pending (e : ItemEntry) : (s.placeItem e).pending = s.pending := by
  obtain ⟨_, _, _, e, -⟩ := s.placeItem_frame e
  rw [e]

@[simp] theorem State.removeItems_pending (l : Lane) (o : ItemOutcome) (c : Choice) :
    (s.removeItems l o c).pending = s.pending := by
  obtain ⟨_, _, _, e, -⟩ := s.removeItems_frame l o c
  rw [e]

@[simp] theorem State.drainTagged_pending (u : VisitTag) (n : Nat) : (s.drainTagged u n).pending = s.pending := by
  obtain ⟨_, _, e⟩ := s.drainTagged_frame u n
  rw [e]

@[simp] theorem State.leaveOpen_pending (v : VisitSlot) (c : CloseCause) : (s.leaveOpen v c).pending = s.pending := by
  obtain ⟨_, _, e⟩ := s.leaveOpen_frame v c
  rw [e]

@[simp] theorem State.freeVisit_pending (v : VisitSlot) : (s.freeVisit v).pending = s.pending := by
  obtain ⟨_, _, _, e⟩ := s.freeVisit_frame v
  rw [e]

@[simp] theorem State.addFloat_pending (a : AccountSlot) (f : Family) (n : Nat) :
    (s.addFloat a f n).pending = s.pending := by
  obtain ⟨_, e⟩ := s.addFloat_frame a f n
  rw [e]

@[simp] theorem State.cancelVisitAt_pending (v : VisitSlot) : (s.cancelVisitAt v).pending = s.pending := by
  obtain ⟨_, _, _, e, -⟩ := s.cancelVisitAt_eq v
  rw [e]

@[simp] theorem State.resetLane_pending (l : Lane) : (s.resetLane l).pending = s.pending := by
  obtain ⟨_, e⟩ := s.resetLane_eq l
  rw [e]

@[simp] theorem State.resetPart_pending : s.resetPart.pending = s.pending := by
  obtain ⟨_, e, -⟩ := s.resetPart_eq
  rw [e]

@[simp] theorem State.promote_pending (t : TariffIndex) (g : Generation) : (s.promote t g).pending = s.pending := by
  unfold State.promote
  split <;> rfl

@[simp] theorem State.acceptReads_pending (l : Lane) (es : List ReadEntry) : (s.acceptReads l es).pending = s.pending := by
  obtain ⟨_, e⟩ := s.acceptReads_frame l es
  rw [e]

@[simp] theorem State.settleVisit_pending (v : VisitSlot) (p : Pin) (h : TariffHeader) :
    (s.settleVisit v p h).pending = s.pending := by
  unfold State.settleVisit
  rw [State.freeVisit_pending, State.setSettleWait_pending]
  obtain ⟨_, _, _, e, -⟩ := s.settleSegments_frame h
    ⟨s.visits[v].number, s.visits[v].segments.length, p.generation, s.visits[v].cause⟩ 0 s.visits[v].segments
  rw [e]

theorem State.expireOpen_pending (v : VisitSlot) : (s.expireOpen v).pending = s.pending := by
  rw [State.expireOpen_eq, State.finish_pending]

theorem State.expireGrace_pending (v : VisitSlot) : (s.expireGrace v).pending = s.pending := by
  obtain ⟨_, _, _, e, -⟩ := s.expireGrace_eq v
  rw [e, State.finish_pending]

/-- What each event of a run leaves, the run leaves. -/
theorem foldl_pending {α : Type} {F : State → α → State} (h : ∀ s a, (F s a).pending = s.pending) (as : List α)
    (s : State) : (as.foldl F s).pending = s.pending := by
  induction as generalizing s with
  | nil => rfl
  | cons a as ih => exact (ih _).trans (h s a)

theorem State.tickVisit_pending (v : VisitSlot) : (s.tickVisit v).pending = s.pending := by
  rw [State.tickVisit_eq]
  split
  · exact State.expireOpen_pending _ v
  · split
    · exact State.expireGrace_pending _ v
    · rfl

end operations

/-! ### Requests -/

/-- An answer whose state holds the same waiting commands. -/
def Answer.Waits (a : Answer) (s : State) : Prop := a.state.pending = s.pending

theorem refuse_waits (c : ResponseCode) (d : Detail) : (refuse s c d).Waits s := rfl

theorem accept_waits {t : State} {d : Detail} (h : t.pending = s.pending) : (accept t d).Waits s := h

theorem ite_waits {c : Prop} [Decidable c] {a b : Answer} (ha : a.Waits s) (hb : b.Waits s) :
    (if c then a else b).Waits s := by
  split
  · exact ha
  · exact hb

theorem withVisit_waits {n : Nat} {absent : Detail} {k : VisitSlot → Answer} (h : ∀ v, (k v).Waits s) :
    (withVisit s n absent k).Waits s := by
  refine ite_waits (refuse_waits _ _) ?_
  split
  · exact refuse_waits _ _
  · exact h _

theorem whenOpen_waits {v : VisitSlot} {a : Answer} (h : a.Waits s) : (whenOpen s v a).Waits s :=
  ite_waits h (refuse_waits _ _)

theorem withAccount_waits {n : Nat} {k : AccountSlot → Answer} (h : ∀ a, (k a).Waits s) :
    (withAccount s n k).Waits s := by
  refine ite_waits (refuse_waits _ _) ?_
  split
  · exact refuse_waits _ _
  · exact h _

theorem openVisit_waits (account : Nat) (lanes : Byte) (minutes : Nat) : (openVisit account lanes minutes s).Waits s := by
  unfold openVisit
  split
  · exact refuse_waits _ _
  refine ite_waits (refuse_waits _ _) ?_
  split
  · exact refuse_waits _ _
  split
  · exact refuse_waits _ _
  split
  · exact refuse_waits _ _
  split
  · exact refuse_waits _ _
  · exact accept_waits rfl

theorem bindLanes_waits (visit : Nat) (lanes : Byte) : (bindLanes visit lanes s).Waits s := by
  unfold bindLanes
  split
  · exact refuse_waits _ _
  refine withVisit_waits fun v => whenOpen_waits ?_
  split
  · exact refuse_waits _ _
  · exact accept_waits rfl

theorem releaseLanes_waits (visit : Nat) (lanes : Byte) : (releaseLanes visit lanes s).Waits s := by
  unfold releaseLanes
  split
  · exact refuse_waits _ _
  · exact withVisit_waits fun v => whenOpen_waits (accept_waits rfl)

theorem nextSegment_waits (visit account : Nat) : (nextSegment visit account s).Waits s := by
  refine ite_waits (refuse_waits _ _) (withVisit_waits fun v => whenOpen_waits (ite_waits (refuse_waits _ _) ?_))
  split
  · exact refuse_waits _ _
  · exact accept_waits rfl

theorem closeVisit_waits (visit : Nat) : (closeVisit visit s).Waits s :=
  withVisit_waits fun v => whenOpen_waits (accept_waits (s.leaveOpen_pending v _))

theorem cancelVisit_waits (visit : Nat) : (cancelVisit visit s).Waits s :=
  withVisit_waits fun v => ite_waits (refuse_waits _ _) (accept_waits (s.cancelVisitAt_pending v))

theorem readVisit_waits (key : VisitKey) (segment : Nat) : (readVisit key segment s).Waits s := by
  cases key with
  | number n => exact withVisit_waits fun v => accept_waits rfl
  | slot n =>
    unfold readVisit
    dsimp only
    split
    · exact refuse_waits _ _
    · exact accept_waits rfl

theorem configureLane_waits (lane enabled kind level reporting : Nat) :
    (configureLane lane enabled kind level reporting s).Waits s := by
  unfold configureLane
  split
  · exact ite_waits (refuse_waits _ _) (ite_waits (refuse_waits _ _) (ite_waits (refuse_waits _ _)
      (ite_waits (refuse_waits _ _) (accept_waits rfl))))
  · exact refuse_waits _ _

theorem laneReset_waits (lane : Nat) : (laneReset lane s).Waits s := by
  unfold laneReset
  split
  · exact refuse_waits _ _
  · exact accept_waits (s.resetLane_pending _)

theorem readLane_waits (lane : Nat) : (readLane lane s).Waits s := by
  unfold readLane
  split
  · exact refuse_waits _ _
  · exact accept_waits rfl

theorem writeType_waits (tagCode : Nat) (spec : TypeSpec) (family schedule : Nat) :
    (writeType tagCode spec family schedule s).Waits s := by
  unfold writeType
  split
  · exact refuse_waits _ _
  · exact ite_waits (refuse_waits _ _) (accept_waits rfl)

theorem deleteType_waits (tagCode : Nat) : (deleteType tagCode s).Waits s := by
  refine ite_waits (refuse_waits _ _) ?_
  split
  · exact refuse_waits _ _
  · exact accept_waits rfl

theorem readTypeByTagCode_waits (tagCode : Nat) : (readTypeByTagCode tagCode s).Waits s := by
  refine ite_waits (refuse_waits _ _) ?_
  split
  · exact refuse_waits _ _
  · exact accept_waits rfl

theorem readTypeByIndex_waits (index : Nat) : (readTypeByIndex index s).Waits s := by
  refine ite_waits (refuse_waits _ _) ?_
  split
  · exact refuse_waits _ _
  · exact accept_waits rfl

theorem loadWrite_waits (change : Generation → Generation) (detail : TariffIndex → Generation → Detail) :
    (loadWrite s change detail).Waits s := by
  unfold loadWrite
  split
  · exact accept_waits rfl
  · exact accept_waits rfl
  · exact refuse_waits _ _
  · exact refuse_waits _ _

theorem writeTariffHeader_waits (generation mode feeA feeB feeC feeD : Nat) (enables : Byte) :
    (writeTariffHeader generation mode feeA feeB feeC feeD enables s).Waits s := by
  unfold writeTariffHeader
  split
  · exact ite_waits (refuse_waits _ _) (loadWrite_waits _ _)
  · exact refuse_waits _ _

theorem writeSchedule_waits (schedule defined depositA depositB depositC depositD bottle damaged ullage : Nat) :
    (writeSchedule schedule defined depositA depositB depositC depositD bottle damaged ullage s).Waits s := by
  unfold writeSchedule
  split
  · exact ite_waits (refuse_waits _ _) (loadWrite_waits _ _)
  · exact refuse_waits _ _

theorem readTariff_waits (slot part : Nat) : (readTariff slot part s).Waits s := by
  unfold readTariff
  split
  · exact refuse_waits _ _
  refine ite_waits (refuse_waits _ _) ?_
  split
  · exact accept_waits rfl
  split
  · exact accept_waits rfl
  · exact accept_waits rfl

theorem promoteTariff_waits (expected : Nat) : (promoteTariff expected s).Waits s := by
  refine ite_waits (refuse_waits _ _) ?_
  split
  · exact refuse_waits _ _
  · exact ite_waits (refuse_waits _ _) (ite_waits (refuse_waits _ _) (ite_waits (refuse_waits _ _)
      (accept_waits (s.promote_pending _ _))))

theorem discardPending_waits : (discardPending s).Waits s := by
  unfold discardPending
  split
  · exact refuse_waits _ _
  · exact accept_waits rfl

theorem writeAccount_waits (slot account cls frozen ceiling : Nat) :
    (writeAccount slot account cls frozen ceiling s).Waits s := by
  unfold writeAccount
  split
  · refine ite_waits (refuse_waits _ _) ?_
    unfold writeAccountAt
    split
    · exact refuse_waits _ _
    · exact ite_waits (refuse_waits _ _) (accept_waits rfl)
  · exact refuse_waits _ _

theorem deleteAccount_waits (account : Nat) : (deleteAccount account s).Waits s :=
  withAccount_waits fun _ => ite_waits (refuse_waits _ _) (ite_waits (refuse_waits _ _) (accept_waits rfl))

theorem readAccount_waits (key : AccountKey) : (readAccount key s).Waits s := by
  cases key with
  | number n => exact withAccount_waits fun a => accept_waits rfl
  | slot n =>
    unfold readAccount
    dsimp only
    split
    · exact refuse_waits _ _
    · exact accept_waits rfl

theorem issueContainers_waits (account family count : Nat) : (issueContainers account family count s).Waits s := by
  unfold issueContainers
  split
  · exact refuse_waits _ _
  · exact ite_waits (refuse_waits _ _) (withAccount_waits fun a => accept_waits (s.addFloat_pending a _ _))

theorem setFloat_waits (account family value : Nat) : (setFloat account family value s).Waits s := by
  unfold setFloat
  split
  · exact refuse_waits _ _
  · exact ite_waits (refuse_waits _ _) (withAccount_waits fun a => accept_waits rfl)

theorem freezeRun_waits (start count mark : Nat) : (freezeRun start count mark s).Waits s := by
  unfold freezeRun
  split
  · exact refuse_waits _ _
  · exact ite_waits (refuse_waits _ _) (accept_waits (s.freezeSlots_pending _ _ _))

theorem releaseHeld_waits (account amount : Nat) : (releaseHeld account amount s).Waits s :=
  ite_waits (refuse_waits _ _) (withAccount_waits fun _ =>
    ite_waits (refuse_waits _ _) (ite_waits (refuse_waits _ _) (accept_waits rfl)))

theorem setMasks_waits (part : Byte) (lanes : LaneMaskFields) : (setMasks part lanes s).Waits s := by
  unfold setMasks
  split
  · exact accept_waits rfl
  · exact refuse_waits _ _

/-- Every request's rule leaves the waiting commands alone. -/
theorem answerTo_waits (r : Request) : (answerTo r s).Waits s := by
  cases r with
  | openVisit a ls m => exact openVisit_waits a ls m
  | bindLanes v ls => exact bindLanes_waits v ls
  | releaseLanes v ls => exact releaseLanes_waits v ls
  | nextSegment v a => exact nextSegment_waits v a
  | closeVisit v => exact closeVisit_waits v
  | cancelVisit v => exact cancelVisit_waits v
  | readVisit k i => exact readVisit_waits k i
  | configureLane l en k lv rep => exact configureLane_waits l en k lv rep
  | laneReset l => exact laneReset_waits l
  | readLane l => exact readLane_waits l
  | writeType t spec f sch => exact writeType_waits t spec f sch
  | deleteType t => exact deleteType_waits t
  | readTypeByTagCode t => exact readTypeByTagCode_waits t
  | readTypeByIndex i => exact readTypeByIndex_waits i
  | writeTariffHeader g m a b c d en => exact writeTariffHeader_waits g m a b c d en
  | writeSchedule k d a b c e bt f u => exact writeSchedule_waits k d a b c e bt f u
  | readTariff t p => exact readTariff_waits t p
  | promoteTariff e => exact promoteTariff_waits e
  | discardPending => exact discardPending_waits
  | writeAccount sl a cl fr ce => exact writeAccount_waits sl a cl fr ce
  | deleteAccount a => exact deleteAccount_waits a
  | readAccount k => exact readAccount_waits k
  | issueContainers a f n => exact issueContainers_waits a f n
  | setFloat a f n => exact setFloat_waits a f n
  | freezeRun st n m => exact freezeRun_waits st n m
  | dayClose => exact accept_waits s.clearPaid_pending
  | releaseHeld a n => exact releaseHeld_waits a n
  | identify => exact accept_waits rfl
  | readStatus => exact accept_waits rfl
  | setMasks p ls => exact setMasks_waits p ls
  | setPartParameters g a => exact accept_waits rfl
  | partReset => exact accept_waits s.resetPart_pending

theorem answerForm_waits (f : RequestForm) : (answerForm f s).Waits s := by
  cases f with
  | request r => exact answerTo_waits r
  | unknown code => exact refuse_waits _ _
  | malformed _ => exact refuse_waits _ _

theorem State.serve_pending (tag code : Byte) {m : State → Answer} (h : (m s).Waits s) :
    (s.serve tag code m).pending = s.pending := by
  unfold State.serve
  split
  · rw [State.finish_pending]
    exact h
  · exact State.finish_pending _

/-! ### Arrivals -/

theorem State.laneErrorArrival_pending (s : State) (l : Lane) : (s.laneErrorArrival l).pending = s.pending := by
  unfold State.laneErrorArrival
  split
  · exact State.finish_pending _
  · rfl

theorem State.singleArrival_pending (s : State) (l : Lane) (r : SingleRead) : (s.singleArrival l r).pending = s.pending := by
  unfold State.singleArrival
  split
  · rfl
  split
  · exact s.laneErrorArrival_pending l
  split
  · exact State.finish_pending _
  · rw [State.finish_pending, State.acceptReads_pending]

theorem State.stackArrival_pending (s : State) (l : Lane) (stack : Byte) (reads : List CrateRead) :
    (s.stackArrival l stack reads).pending = s.pending := by
  unfold State.stackArrival
  split
  · rfl
  split
  · exact s.laneErrorArrival_pending l
  split
  · exact s.laneErrorArrival_pending l
  split
  · exact s.laneErrorArrival_pending l
  split
  · exact State.finish_pending _
  · rw [State.finish_pending, State.acceptReads_pending]

theorem State.withdrawStack_pending (s : State) (l : Lane) (n : Nat) : (s.withdrawStack l n).pending = s.pending := by
  unfold State.withdrawStack
  split
  · rw [State.drainTagged_pending, State.removeItems_pending]
  · exact s.removeItems_pending _ _ _

theorem State.cancelArrival_pending (s : State) (l : Lane) (stack : Byte) :
    (s.cancelArrival l stack).pending = s.pending := by
  unfold State.cancelArrival
  split
  · rfl
  split
  · rw [State.finish_pending, State.withdrawStack_pending]
  · exact State.finish_pending _

theorem State.noticeArrival_pending (s : State) (l : Lane) (bytes : List Byte) :
    (s.noticeArrival l bytes).pending = s.pending := by
  unfold State.noticeArrival
  split
  · rfl
  split
  · exact s.laneErrorArrival_pending l
  · rw [State.finish_pending, State.placeItem_pending]

theorem State.laneFrameArrival_pending (s : State) (l : Lane) (f : Frame) : (s.laneFrameArrival l f).pending = s.pending := by
  unfold State.laneFrameArrival
  split
  · exact s.singleArrival_pending l _
  · exact s.stackArrival_pending l _ _
  · exact s.cancelArrival_pending l _
  · exact s.noticeArrival_pending l _
  · exact s.laneErrorArrival_pending l

theorem State.trunkError_pending (s : State) : s.trunkError.pending = s.pending := State.finish_pending _

theorem State.trunkFrameArrival_pending (s : State) (f : Frame) : (s.trunkFrameArrival f).pending = s.pending := by
  unfold State.trunkFrameArrival
  split
  · split
    · exact State.serve_pending _ _ (answerForm_waits _)
    · exact s.trunkError_pending
  · split
    · exact State.finish_pending _
    · exact s.trunkError_pending

theorem State.laneByte_pending (s : State) (l : Lane) (b : Byte) : (s.laneByte l b).pending = s.pending := by
  refine foldl_pending (fun t e => ?_) _ _
  cases e with
  | error => exact t.laneErrorArrival_pending l
  | frame f => exact t.laneFrameArrival_pending l f

theorem State.trunkByte_pending (s : State) (b : Byte) : (s.trunkByte b).pending = s.pending := by
  refine foldl_pending (fun t e => ?_) _ _
  cases e with
  | error => exact t.trunkError_pending
  | frame f => exact t.trunkFrameArrival_pending f

/-! ### Completions -/

theorem State.dropOldest_pending (s : State) (q : TrunkQueue) : (s.dropOldest q).pending = s.pending := by
  cases q <;> rfl

theorem State.completeFirstFrame_pending (s : State) : s.completeFirstFrame.pending = s.pending := by
  unfold State.completeFirstFrame
  split
  · split <;> rfl
  · rfl
  · rfl
  · rfl

theorem State.completeMessage_pending (s : State) : s.completeMessage.pending = s.pending := by
  unfold State.completeMessage
  split
  · rw [State.finish_pending, State.setTrunkTx_pending, State.dropOldest_pending]
  · rw [State.finish_pending, State.setTrunkTx_pending, State.dropOldest_pending]
  · rfl
  · rfl

/-! ## The outcomes of the commands -/

/-- A grant answers a next state, or its entry carries a tag whose context is missing (log 15). -/
theorem execGrant_cases (s : State) : (∃ t, execGrant s = .next t ∧ t.pending = s.pending) ∨
    (execGrant s = .fault .danglingTag ∧ ∃ (l : Lane) (e : ReadEntry) (rest : List ReadEntry) (u : VisitTag),
      s.lanes[l].queue = e :: rest ∧ e.tag = some u ∧ s.grantContext l e u = none) := by
  unfold execGrant
  split
  · exact .inl ⟨s, rfl, rfl⟩
  next l _ =>
  split
  · exact .inl ⟨s, rfl, rfl⟩
  next e rest head =>
  split
  · exact .inl ⟨_, rfl, ((State.keepsTaken_grantOrphan (x := s.takeEntry l rest) (l := l) e).trans
      State.keepsTaken_finish).pending⟩
  next u tag =>
  split
  · next missing => exact .inr ⟨rfl, l, e, rest, u, head, tag, missing⟩
  · next c _ => exact .inl ⟨_, rfl, ((State.keepsTaken_grantTagged (x := s.takeEntry l rest) (l := l) e u c).trans
      State.keepsTaken_finish).pending⟩

/-- A settlement answers a next state, or the head of the settle-wait list names no SETTLING visit with a pinned
generation (log 15). -/
theorem execSettlement_cases (s : State) : (∃ t, execSettlement s = .next t ∧ t.pending = s.pending) ∨
    (execSettlement s = .fault .danglingWait ∧ ∃ u ∈ s.settleWait,
      ¬ (s.visits[u.slot].state = .settling ∧ s.visits[u.slot].number = u.number ∧
        ∃ g, s.pinned s.visits[u.slot] = some g)) := by
  unfold execSettlement
  split
  · exact .inl ⟨s, rfl, rfl⟩
  next u rest wait =>
  have head : u ∈ s.settleWait := wait ▸ List.mem_cons_self
  split
  · exact .inl ⟨s, rfl, rfl⟩
  split
  · split
    · exact .inl ⟨_, rfl, by rw [State.finish_pending, State.settleVisit_pending]⟩
    · next missing =>
      refine .inr ⟨rfl, u, head, fun ⟨_, _, g, pinned⟩ => ?_⟩
      obtain ⟨p, pin, -⟩ := Option.bind_eq_some_iff.1 pinned
      exact missing p g pin pinned
  · next unnamed =>
    refine .inr ⟨rfl, u, head, fun ⟨settling, number, _⟩ => unnamed ?_⟩
    rw [Bool.and_eq_true, decide_eq_true_eq, beq_iff_eq]
    exact ⟨settling, number⟩

/-- Settles O2. -/
theorem execOutcomes : Obligations.ExecOutcomes := by
  unfold Obligations.ExecOutcomes
  intro c s
  have next : ∀ {u : State}, u.pending = s.pending → exec c s = .next u →
      (∃ t, exec c s = .next t ∧ t.pending = s.pending) ∨ (c = .grant ∧ exec c s = .fault .danglingTag) ∨
        (c = .settlement ∧ exec c s = .fault .danglingWait) := fun pending e => .inl ⟨_, e, pending⟩
  have served : ∀ {tag code : Byte} (r : Request), (s.serve tag code (answerTo r)).pending = s.pending := fun r =>
    State.serve_pending _ _ (answerTo_waits r)
  cases c with
  | powerOnReset => exact next (u := s.powerOn) rfl rfl
  | openVisit tag account lanes minutes => exact next (served (.openVisit account lanes minutes)) rfl
  | bindLanes tag visit lanes => exact next (served (.bindLanes visit lanes)) rfl
  | releaseLanes tag visit lanes => exact next (served (.releaseLanes visit lanes)) rfl
  | nextSegment tag visit account => exact next (served (.nextSegment visit account)) rfl
  | closeVisit tag visit => exact next (served (.closeVisit visit)) rfl
  | cancelVisit tag visit => exact next (served (.cancelVisit visit)) rfl
  | readVisit tag key segment => exact next (served (.readVisit key segment)) rfl
  | configureLane tag lane enabled kind level reporting =>
    exact next (served (.configureLane lane enabled kind level reporting)) rfl
  | laneReset tag lane => exact next (served (.laneReset lane)) rfl
  | readLane tag lane => exact next (served (.readLane lane)) rfl
  | writeType tag tagCode spec family schedule => exact next (served (.writeType tagCode spec family schedule)) rfl
  | deleteType tag tagCode => exact next (served (.deleteType tagCode)) rfl
  | readTypeByTagCode tag tagCode => exact next (served (.readTypeByTagCode tagCode)) rfl
  | readTypeByIndex tag index => exact next (served (.readTypeByIndex index)) rfl
  | writeTariffHeader tag generation mode feeA feeB feeC feeD enables =>
    exact next (served (.writeTariffHeader generation mode feeA feeB feeC feeD enables)) rfl
  | writeSchedule tag schedule defined depositA depositB depositC depositD bottle damaged ullage =>
    exact next (served (.writeSchedule schedule defined depositA depositB depositC depositD bottle damaged ullage)) rfl
  | readTariff tag slot part => exact next (served (.readTariff slot part)) rfl
  | promoteTariff tag expected => exact next (served (.promoteTariff expected)) rfl
  | discardPending tag => exact next (served .discardPending) rfl
  | writeAccount tag slot account cls frozen ceiling =>
    exact next (served (.writeAccount slot account cls frozen ceiling)) rfl
  | deleteAccount tag account => exact next (served (.deleteAccount account)) rfl
  | readAccount tag key => exact next (served (.readAccount key)) rfl
  | issueContainers tag account family count => exact next (served (.issueContainers account family count)) rfl
  | setFloat tag account family value => exact next (served (.setFloat account family value)) rfl
  | freezeRun tag start count mark => exact next (served (.freezeRun start count mark)) rfl
  | dayClose tag => exact next (served .dayClose) rfl
  | releaseHeld tag account amount => exact next (served (.releaseHeld account amount)) rfl
  | identify tag => exact next (served .identify) rfl
  | readStatus tag => exact next (served .readStatus) rfl
  | setMasks tag part lanes => exact next (served (.setMasks part lanes)) rfl
  | setPartParameters tag grace aging => exact next (served (.setPartParameters grace aging)) rfl
  | partReset tag => exact next (served .partReset) rfl
  | unknownRequest tag code =>
    refine next ?_ rfl
    split
    · rfl
    · exact State.serve_pending _ _ (refuse_waits _ _)
  | requestOverrun =>
    refine next ?_ rfl
    split
    · rfl
    · exact State.finish_pending _
  | downstreamFrame frame => exact next (s.trunkFrameArrival_pending frame) rfl
  | trunkFrameError => exact next s.trunkError_pending rfl
  | singleRead lane read => exact next (s.singleArrival_pending lane read) rfl
  | stackFrame lane stack reads => exact next (s.stackArrival_pending lane stack reads) rfl
  | stackCancel lane stack => exact next (s.cancelArrival_pending lane stack) rfl
  | laneNotice lane bytes => exact next (s.noticeArrival_pending lane bytes) rfl
  | laneFrameError lane => exact next (s.laneErrorArrival_pending lane) rfl
  | grant => exact (execGrant_cases s).imp_right fun ⟨fault, _⟩ => .inl ⟨rfl, fault⟩
  | tick => exact next (foldl_pending State.tickVisit_pending allVisits s) rfl
  | openTimeExpiry slot =>
    refine next ?_ rfl
    split
    · exact s.expireOpen_pending slot
    · rfl
  | graceExpiry slot =>
    refine next ?_ rfl
    split
    · exact s.expireGrace_pending slot
    · rfl
  | settlement => exact (execSettlement_cases s).imp_right fun ⟨fault, _⟩ => .inr ⟨rfl, fault⟩
  | laneFrameCompletion lane => exact next (s.modifyLane_pending lane _) rfl
  | firstFrameCompletion => exact next s.completeFirstFrame_pending rfl
  | messageCompletion => exact next s.completeMessage_pending rfl
  | byteReceived link byte =>
    cases link with
    | lane l => exact next (s.laneByte_pending l byte) rfl
    | trunk => exact next (s.trunkByte_pending byte) rfl

/-! ### Sound states -/

/-- Every live visit of a sound Tariff Store has a pinned generation (R58, R123). -/
theorem State.TariffsSound.pinned (h : s.TariffsSound) {v : VisitSlot} (live : s.visits[v].state ≠ .free) :
    ∃ g, s.pinned s.visits[v] = some g := by
  obtain ⟨p, g, pin, contents, -⟩ := h.held v live
  exact ⟨g, State.pinned_eq pin contents⟩

/-- Where tags are sound, the segment that a tagged head is for exists: the recorded one of the stack that goes on at
the head, or the current one (R4, R42, R46). -/
theorem State.TagsSound.segmentFor_lt (h : s.TagsSound) {l : Lane} {e : ReadEntry} {rest : List ReadEntry} {u : VisitTag}
    (head : s.lanes[l].queue = e :: rest) (tag : e.tag = some u) :
    s.segmentFor l e u < s.visits[u.slot].segments.length := by
  have live : s.names u := h.queued l e (head ▸ List.mem_cons_self) u tag
  have current : s.visits[u.slot].current < s.visits[u.slot].segments.length :=
    Nat.sub_lt (List.length_pos_iff.2 (h.segments u.slot live.1)) Nat.one_pos
  unfold State.segmentFor
  split
  · next c member context =>
    obtain ⟨e', rest', m, head', tag', -⟩ := (h.whole l).staged c context
    rw [head, List.cons.injEq] at head'
    obtain ⟨rfl, rfl⟩ := head'
    rw [tag, Option.some.injEq] at tag'
    exact tag' ▸ (h.staged l c context).2
  · exact current

theorem State.TagsSound.grantContext_ne_none (h : s.TagsSound) (tariffs : s.TariffsSound) {l : Lane} {e : ReadEntry}
    {rest : List ReadEntry} {u : VisitTag} (head : s.lanes[l].queue = e :: rest) (tag : e.tag = some u) :
    s.grantContext l e u ≠ none := by
  have live : s.names u := h.queued l e (head ▸ List.mem_cons_self) u tag
  obtain ⟨g, pinned⟩ := tariffs.pinned ((s.tagLive_iff u).1 (s.tagLive_of_names live)).1
  rw [State.grantContext_eq live pinned rfl (List.getElem?_eq_getElem (h.segmentFor_lt head tag))]
  nofun

/-- Settles O19. -/
theorem soundStatesNeverStop : Obligations.SoundStatesNeverStop := by
  unfold Obligations.SoundStatesNeverStop
  intro c s tags tariffs waits
  rcases execOutcomes c s with ⟨t, e, -⟩ | ⟨rfl, fault⟩ | ⟨rfl, fault⟩
  · exact ⟨t, e⟩
  · rcases execGrant_cases s with ⟨t, e, -⟩ | ⟨-, l, e, rest, u, head, tag, missing⟩
    · exact ⟨t, e⟩
    · exact absurd missing (tags.grantContext_ne_none tariffs head tag)
  · rcases execSettlement_cases s with ⟨t, e, -⟩ | ⟨-, u, wait, unsettled⟩
    · exact ⟨t, e⟩
    · obtain ⟨settling, number⟩ := (waits.2 u).1 wait
      exact absurd ⟨settling, number, tariffs.pinned (by rw [settling]; nofun)⟩ unsettled

end Sys2Proof.Machine

/-! ## The frames the part sends -/

namespace Sys2Proof.Machine

variable {s : State}

/-! ### Fields -/

/-- A field as the statement of O60 writes it, byte by byte from the most significant. -/
theorem map_range_eq_beBytes (width n : Nat) :
    (List.range width).map (fun i => BitVec.ofNat 8 (n / 256 ^ (width - 1 - i))) = beBytes width n := by
  induction width with
  | zero => rfl
  | succ width ih =>
    rw [List.range_succ_eq_map, List.map_cons, List.map_map, beBytes, ← ih]
    refine congrArg₂ _ rfl (List.map_congr_left fun i _ => ?_)
    rw [Function.comp_apply, Nat.succ_eq_add_one, Nat.add_sub_cancel, Nat.sub_sub, Nat.add_comm 1 i]

@[simp] theorem be8_length (n : Nat) : (be8 n).length = 1 := rfl
@[simp] theorem be16_length (n : Nat) : (be16 n).length = 2 := rfl
@[simp] theorem be24_length (n : Nat) : (be24 n).length = 3 := rfl
@[simp] theorem be32_length (n : Nat) : (be32 n).length = 4 := rfl
@[simp] theorem beFlag_length (b : Bool) : (beFlag b).length = 1 := rfl

theorem flatMap_length_of_const {α : Type} {f : α → List Byte} {k : Nat} (h : ∀ x, (f x).length = k) (xs : List α) :
    (xs.flatMap f).length = xs.length * k := by
  rw [List.length_flatMap, List.map_congr_left fun x _ => h x, List.map_const', List.sum_replicate, smul_eq_mul]

@[simp] theorem Tally.bytes_length (t : Tally) : t.bytes.length = 13 := rfl
@[simp] theorem CountLine.bytes_length (x : CountLine) : x.bytes.length = 16 := rfl
@[simp] theorem PerClass.bytes_length (p : PerClass) : p.bytes.length = 8 := rfl
@[simp] theorem TariffHeader.bytes_length (h : TariffHeader) : h.bytes.length = 12 := rfl
@[simp] theorem Schedule.bytes_length (x : Schedule) : x.bytes.length = 14 := rfl
@[simp] theorem VoidEntry.bytes_length (e : VoidEntry) : e.bytes.length = 17 := rfl

@[simp] theorem floatTakenBytes_length (v : Vector Nat 8) : (floatTakenBytes v).length = 24 := by
  rw [floatTakenBytes, flatMap_length_of_const be24_length, Vector.length_toList]

@[simp] theorem floatBytes_length (v : Vector Nat 8) : (floatBytes v).length = 16 := by
  rw [floatBytes, flatMap_length_of_const be16_length, Vector.length_toList]

@[simp] theorem laneSetsBytes_length (v : Vector LaneFlags 6) : (laneSetsBytes v).length = 12 := by
  rw [laneSetsBytes, flatMap_length_of_const fun x => be16_length _, Vector.length_toList]

@[simp] theorem AccountReport.fields_length (r : AccountReport) : r.fields.length = 38 := by
  simp [AccountReport.fields]

@[simp] theorem VisitReport.bytes_length (r : VisitReport) : r.bytes.length = 16 := by
  unfold VisitReport.bytes
  split <;> simp

@[simp] theorem Segment.reportBytes_length (g : Segment) : g.reportBytes.length = 58 := by
  simp [Segment.reportBytes]

@[simp] theorem LaneState.visitBytes_length (x : LaneState) : x.visitBytes.length = 3 := by cases x <;> rfl

@[simp] theorem LaneReport.bytes_length (r : LaneReport) : r.bytes.length = 32 + r.pendingStacks.length := by
  unfold LaneReport.bytes
  split <;> simp [flatMap_length_of_const be8_length] <;> omega

@[simp] theorem StatusReport.bytes_length (r : StatusReport) :
    r.bytes.length = 31 + r.visits.length * 3 + r.tariffs.length * 4 := by
  have visits := flatMap_length_of_const (f := fun x : VisitState × Nat => be8 x.1.code ++ be16 x.2) (k := 3)
    (fun _ => rfl) r.visits
  have tariffs := flatMap_length_of_const (f := fun x : TariffState × Nat × Nat => be8 x.1.code ++ be16 x.2.1 ++ be8 x.2.2)
    (k := 4) (fun _ => rfl) r.tariffs
  simp only [StatusReport.bytes, List.length_append, visits, tariffs, be8_length, be16_length, beFlag_length,
    laneSetsBytes_length]
  omega

theorem TypeEntry.bytes_length_le (e : TypeEntry) : e.bytes.length ≤ 13 := by
  unfold TypeEntry.bytes TypeBody.partBytes
  split <;> simp [KegLimits.bytes]

/-- Nine capacities of at most 4 bytes each. -/
theorem capacityBytes_length_le (values : List Nat) : (capacityBytes values).length ≤ 36 := by
  have widths : ∀ ws : List Nat, (∀ w ∈ ws, w ≤ 4) → ∀ vs, (List.zipWith beBytes ws vs).flatten.length ≤ 4 * ws.length := by
    intro ws
    induction ws with
    | nil => exact fun _ _ => Nat.le_refl 0
    | cons w ws ih =>
      intro h vs
      cases vs with
      | nil => exact Nat.zero_le _
      | cons v vs =>
        have := ih (fun w hw => h w (List.mem_cons_of_mem _ hw)) vs
        have := h w List.mem_cons_self
        rw [List.zipWith_cons_cons, List.flatten_cons, List.length_append, beBytes_length, List.length_cons]
        omega
  exact widths capacityWidths (fun w h => (capacityWidths_range w h).2) values

@[simp] theorem SettlementRecord.bytes_length (r : SettlementRecord) : r.bytes.length = 81 := by
  unfold SettlementRecord.bytes
  simp only [List.length_append, be8_length, be16_length, be24_length, be32_length, beFlag_length, Tally.bytes_length,
    floatTakenBytes_length]

@[simp] theorem ItemRecord.bytes_length (r : ItemRecord) : r.bytes.length = 13 := by
  unfold ItemRecord.bytes
  split <;> simp

@[simp] theorem linesPayload_length (xs : List CountLine) : (linesPayload xs).length = 1 + 16 * xs.length := by
  rw [linesPayload, List.length_append, be8_length, flatMap_length_of_const CountLine.bytes_length, Nat.mul_comm]

/-- With the request code and the response code, every detail of a report within the capacities is a payload of at
most 200 bytes (R179, R188). -/
theorem Detail.bytes_length_le (d : Detail) (entries : ∀ n x k es, d = .visitCancelled n x k es → es.length ≤ 8)
    (pending : ∀ r, d = .laneReport r → r.pendingStacks.length ≤ 49)
    (status : ∀ r, d = .status r → r.visits.length = 24 ∧ r.tariffs.length = 2) : d.bytes.length ≤ 198 := by
  cases d with
  | visitCancelled n x k es =>
    have := entries n x k es rfl
    simp [Detail.bytes, flatMap_length_of_const VoidEntry.bytes_length]
    omega
  | laneReport r =>
    have := pending r rfl
    simp only [Detail.bytes, LaneReport.bytes_length]
    omega
  | status r =>
    obtain ⟨visits, tariffs⟩ := status r rfl
    simp only [Detail.bytes, StatusReport.bytes_length, visits, tariffs]
    omega
  | typeReport i n e =>
    have := e.bytes_length_le
    simp only [Detail.bytes, List.length_append, be8_length]
    omega
  | identity v p r cs =>
    have := capacityBytes_length_le cs
    simp only [Detail.bytes, List.length_append, be16_length]
    omega
  | promoted t g c former => cases former <;> simp [Detail.bytes]
  | _ => simp [Detail.bytes]

/-! ### Frames -/

theorem flagsByte_eq (attention : Bool) (xs : List CountLine) : flagsByte attention (!xs.isEmpty) =
    BitVec.ofNat 8 ((if attention then 1 else 0) + (if xs = [] then 0 else 2)) := by
  cases xs with
  | nil => cases attention <;> rfl
  | cons x xs => cases attention <;> simp [flagsByte]

/-- Response codes are numbered in the order of the table of R165. -/
theorem ResponseCode.number_getElem? (c : ResponseCode) :
    ([.ok, .malformed, .unknownRequest, .noEntry, .duplicate, .tableFull,
      .queueFull, .laneHeld, .laneDisabled, .inUse, .wrongState, .tariffBusy, .checkMismatch, .noTariff,
      .segmentsFull, .tooLate, .frozen, .visitsFull] : List ResponseCode)[c.number]? = some c := by
  cases c <;> rfl

theorem Message.firstFrame_eq (m : Message) (attention : Bool) :
    (m.firstFrame attention).address = 0 ∧
    (m.firstFrame attention).flags =
      BitVec.ofNat 8 ((if attention then 1 else 0) + (if m.lines = [] then 0 else 2)) ∧
    (m.firstFrame attention).check = crc ([0, (m.firstFrame attention).kind, (m.firstFrame attention).tag,
      (m.firstFrame attention).flags, BitVec.ofNat 8 (m.firstFrame attention).payload.length] ++
      (m.firstFrame attention).payload) :=
  ⟨rfl, flagsByte_eq attention m.lines, rfl⟩

/-! ### Completions -/

theorem State.completions_idle (idle : s.trunkTx = .idle) :
    exec .firstFrameCompletion s = .next s ∧ exec .messageCompletion s = .next s := by
  change Host.Outcome.next s.completeFirstFrame = _ ∧ Host.Outcome.next s.completeMessage = _
  simp only [State.completeFirstFrame, State.completeMessage, idle, and_self]

section sending

variable {q : TrunkQueue} {f : Frame}

/-- A first frame's completion starts the second frame (R189). -/
theorem State.firstFrameCompletion_first (sending : s.trunkTx = .sending q .first f) {m : Message}
    (oldest : s.oldest q = some m) :
    exec .firstFrameCompletion s = .next { s with trunkTx := .sending q .second (m.secondFrame s.attention) } := by
  change Host.Outcome.next s.completeFirstFrame = _
  simp only [State.completeFirstFrame, sending, oldest, State.setTrunkTx]

theorem State.firstFrameCompletion_other {part : FramePart} (sending : s.trunkTx = .sending q part f)
    (other : part ≠ .first) : exec .firstFrameCompletion s = .next s := by
  change Host.Outcome.next s.completeFirstFrame = _
  cases part with
  | first => exact absurd rfl other
  | only => simp only [State.completeFirstFrame, sending]
  | second => simp only [State.completeFirstFrame, sending]

theorem State.messageCompletion_first (sending : s.trunkTx = .sending q .first f) :
    exec .messageCompletion s = .next s := by
  change Host.Outcome.next s.completeMessage = _
  simp only [State.completeMessage, sending]

theorem State.dropOldest_eq (q : TrunkQueue) : s.dropOldest q = { s with
    responses := if q = .responses then s.responses.drop 1 else s.responses
    settlementQueue := if q = .settlements then s.settlementQueue.drop 1 else s.settlementQueue
    items := if q = .items then s.items.drop 1 else s.items } := by
  cases q <;> rfl

/-- The completion of a whole message frees its entry, and the transmitter chooses again (R193). -/
theorem State.messageCompletion_last {part : FramePart} (sending : s.trunkTx = .sending q part f)
    (last : part ≠ .first) : exec .messageCompletion s = .next ((s.dropOldest q).setTrunkTx .idle).finish := by
  change Host.Outcome.next s.completeMessage = _
  cases part with
  | first => exact absurd rfl last
  | only => simp only [State.completeMessage, sending]
  | second => simp only [State.completeMessage, sending]

end sending

/-- Settles O60: the fields of the statement are the fields of the encoder, and with them every payload stands as the
encoder lays it out. -/
theorem framesComplete : Obligations.FramesComplete := by
  unfold Obligations.FramesComplete
  intro be flag family cls cause visit lane kind slot four masks tally line account header codes
  have be_eq : be = beBytes := funext fun w => funext (map_range_eq_beBytes w)
  have be1 : be 1 = be8 := by rw [be_eq]; exact funext fun n => (be8_eq_beBytes n).symm
  have be2 : be 2 = be16 := by rw [be_eq]; exact funext fun n => (be16_eq_beBytes n).symm
  have be3 : be 3 = be24 := by rw [be_eq]; exact funext fun n => (be24_eq_beBytes n).symm
  have be4 : be 4 = be32 := by rw [be_eq]; exact funext fun n => (be32_eq_beBytes n).symm
  have flag_eq : flag = beFlag := by funext b; simp only [flag, be1]; rfl
  have family_eq : ∀ x, family x = be8 (familyCode x) := fun x => by simp only [family, be1]; cases x <;> rfl
  have cls_eq : ∀ x, cls x = be8 x.code := fun x => by simp only [cls, be1]; cases x <;> rfl
  have cause_eq : ∀ x, cause x = be8 x.code := fun x => by simp only [cause, be1]; cases x <;> rfl
  have visit_eq : ∀ x, visit x = be8 x.code := fun x => by simp only [visit, be1]; cases x <;> rfl
  have lane_eq : ∀ x, lane x = be8 x.code := fun x => by simp only [lane, be1]; cases x <;> rfl
  have kind_eq : ∀ x, kind x = be8 (kindCode x) := fun x => by simp only [kind, be1]; cases x <;> rfl
  have slot_eq : ∀ x, slot x = be8 x.code := fun x => by simp only [slot, be1]; cases x <;> rfl
  have four_eq : four = PerClass.bytes := by funext x; simp only [four, be2]; rfl
  have masks_eq : masks = laneSetsBytes := by funext x; simp only [masks, be2]; rfl
  have tally_eq : tally = Tally.bytes := by funext x; simp only [tally, be2, be3, be4]; rfl
  have line_eq : line = CountLine.bytes := by funext x; simp only [line, be2, family_eq, tally_eq]; rfl
  have account_eq : account = AccountReport.fields := by
    funext x; simp only [account, be1, be2, be3, be4, cls_eq, flag_eq]; rfl
  have header_eq : header = VisitReport.bytes := by
    funext x; simp only [header, be1, be2, be3, visit_eq, cause_eq]; rfl
  simp only [be1, be2, be3, be4, flag_eq, cls_eq, cause_eq, visit_eq, lane_eq, kind_eq, slot_eq, four_eq, masks_eq,
    tally_eq, line_eq, account_eq, header_eq]
  -- a clause without a name of its own is the equation of its frame or detail in the encoder
  refine ⟨Message.firstFrame_eq, fun r _ => ⟨rfl, rfl, r.code.number, r.code.number_getElem?, rfl⟩,
    fun r _ => ⟨rfl, rfl, r.bytes_length, rfl⟩, fun _ _ _ _ => ⟨rfl, rfl, rfl, rfl⟩,
    fun r _ => ⟨rfl, rfl, r.bytes_length, ?item⟩, fun _ _ _ => ⟨rfl, rfl, rfl⟩, Detail.bytes_length_le, ?identity,
    rfl, fun _ => rfl, fun _ _ _ _ _ => rfl, fun _ => rfl, fun _ => rfl, rfl, rfl, fun _ => rfl, fun _ _ => rfl,
    fun _ _ _ => rfl, fun _ _ _ _ => rfl, rfl, fun _ => rfl, ?visitSegment, fun _ _ _ => rfl, fun _ _ _ _ => rfl,
    fun _ => rfl, fun _ => rfl, fun _ _ => rfl, fun _ _ _ => rfl, fun _ => rfl, fun _ _ => rfl, fun _ _ => rfl,
    ?typeReport, fun _ _ _ => rfl, fun _ _ _ => rfl, fun _ _ _ => rfl, fun _ => rfl, fun _ _ _ _ _ _ => rfl,
    fun _ _ _ _ => rfl, fun _ _ _ _ => rfl, fun _ _ _ => rfl, fun _ _ _ _ => rfl, fun _ => rfl, fun _ => rfl,
    fun _ _ => rfl, fun _ _ => rfl, fun _ => rfl, fun _ => rfl, fun _ _ _ => rfl, fun _ => rfl, fun _ _ _ _ => rfl,
    fun _ _ _ => rfl, fun _ _ _ _ => rfl, fun _ _ => rfl, fun _ => rfl, fun _ _ _ => rfl, fun _ => rfl,
    fun _ _ _ => rfl, fun _ _ => rfl, fun _ _ _ _ _ => rfl, fun s => ⟨fun _ => rfl, s.completions_idle, ?sending⟩⟩
  case item =>
    change r.bytes = _
    unfold ItemRecord.bytes
    cases r.stack <;> rfl
  case identity =>
    refine ⟨capacityWidths, rfl, capacityWidths_range, by rw [be_eq]; rfl, fun w h => ?_⟩
    cases h
    exact Nat.le_max_left 2 _
  case visitSegment =>
    intro r g
    simp only [Detail.bytes, Segment.reportBytes, floatTakenBytes, List.append_assoc]
  case typeReport =>
    intro i n e
    simp only [Detail.bytes, TypeEntry.bytes]
    cases e.body <;> rfl
  case sending =>
    intro q part f sending
    refine ⟨State.firstFrameCompletion_other sending, ?_, ?_, fun last => ?_⟩
    · rintro rfl
      exact State.messageCompletion_first sending
    · rintro rfl m oldest
      refine ⟨?_, linesPayload_length m.lines⟩
      rw [State.firstFrameCompletion_first sending oldest]
      cases s.attention <;> rfl
    · rw [State.messageCompletion_last sending last, State.dropOldest_eq]
      rfl

end Sys2Proof.Machine

/-! ## Item pricing (chapter 3) -/

namespace Sys2Proof.Machine

/-! ### Rounding -/

theorem div_le_roundDiv (mode : RoundingMode) (x d : Nat) : x / d ≤ roundDiv mode x d := Nat.le_add_right _ _

theorem roundDiv_le_succ (mode : RoundingMode) (x d : Nat) : roundDiv mode x d ≤ x / d + 1 := by
  unfold roundDiv
  split <;> omega

/-- A quotient without remainder is never rounded up. -/
theorem roundsUp_exact (mode : RoundingMode) (q : Nat) {d : Nat} (pos : 0 < d) : roundsUp mode q 0 d = false := by
  cases mode with
  | down => rfl
  | up => rfl
  | nearestUp => exact decide_eq_false (by omega)
  | nearestEven => simp only [roundsUp, Nat.mul_zero, Nat.not_lt_zero, beq_false_of_ne pos.ne, decide_false,
      Bool.false_and, Bool.or_false]

theorem roundDiv_exact (mode : RoundingMode) {x d : Nat} (pos : 0 < d) (whole : x % d = 0) :
    roundDiv mode x d = x / d := by
  rw [roundDiv, whole, roundsUp_exact mode _ pos]
  rfl

/-- No mode rounds a quotient past a whole number that bounds it. -/
theorem roundDiv_le {x d b : Nat} (mode : RoundingMode) (pos : 0 < d) (h : x ≤ b * d) : roundDiv mode x d ≤ b := by
  rcases Nat.eq_zero_or_pos (x % d) with whole | rest
  · rw [roundDiv_exact mode pos whole]
    exact Nat.div_le_of_le_mul (Nat.mul_comm b d ▸ h)
  · have below : x / d * d < b * d := by have := Nat.div_add_mod' x d; omega
    exact (roundDiv_le_succ mode x d).trans (Nat.lt_of_mul_lt_mul_right below)

theorem roundDiv_down (x d : Nat) : roundDiv .down x d = x / d := rfl

theorem roundDiv_up (x d : Nat) : roundDiv .up x d = if x % d = 0 then x / d else x / d + 1 := by
  simp only [roundDiv, roundsUp, decide_eq_true_eq]
  split <;> split <;> omega

theorem roundDiv_nearestUp (x d : Nat) :
    roundDiv .nearestUp x d = if d ≤ 2 * (x % d) then x / d + 1 else x / d := by
  simp only [roundDiv, roundsUp, decide_eq_true_eq]
  split <;> rfl

theorem roundDiv_nearestEven {x d : Nat} (h : 2 * (x % d) ≠ d) :
    roundDiv .nearestEven x d = if d < 2 * (x % d) then x / d + 1 else x / d := by
  simp only [roundDiv, roundsUp, beq_false_of_ne h, Bool.false_and, Bool.or_false, decide_eq_true_eq]
  split <;> rfl

theorem roundDiv_nearestEven_tie {x d : Nat} (h : 2 * (x % d) = d) :
    roundDiv .nearestEven x d = if x / d % 2 = 1 then x / d + 1 else x / d := by
  simp only [roundDiv, roundsUp, h, Nat.lt_irrefl, decide_false, Bool.false_or, beq_self_eq_true, Bool.true_and,
    beq_iff_eq]
  split <;> rfl

/-- The nearest modes round up from half of the divisor on, and down up to half of it. -/
theorem roundsUp_nearest {mode : RoundingMode} (nearest : mode = .nearestEven ∨ mode = .nearestUp) (q r d : Nat) :
    if roundsUp mode q r d then d ≤ 2 * r else 2 * r ≤ d := by
  rcases nearest with rfl | rfl
  · simp only [roundsUp, Bool.or_eq_true, Bool.and_eq_true, decide_eq_true_eq, beq_iff_eq]
    split <;> omega
  · simp only [roundsUp, decide_eq_true_eq]
    split <;> omega

/-- The nearest modes stay within half of the divisor. -/
theorem roundDiv_nearest_distance {mode : RoundingMode} (nearest : mode = .nearestEven ∨ mode = .nearestUp)
    {x d : Nat} (pos : 0 < d) :
    2 * (roundDiv mode x d * d) ≤ 2 * x + d ∧ 2 * x ≤ 2 * (roundDiv mode x d * d) + d := by
  have half := roundsUp_nearest nearest (x / d) (x % d) d
  have parts := Nat.div_add_mod' x d
  have rest := Nat.mod_lt x pos
  unfold roundDiv
  split at half
  · next up =>
    rw [if_pos up, Nat.add_one_mul (x / d)]
    omega
  · next down =>
    rw [if_neg down, Nat.add_zero]
    omega

/-- Settles O53. -/
theorem roundingModes : Obligations.RoundingModes := by
  unfold Obligations.RoundingModes
  refine ⟨fun x d pos => ⟨(Nat.div_add_mod' x d).symm, Nat.mod_lt x pos, roundDiv_down x d, roundDiv_up x d,
    roundDiv_nearestUp x d, roundDiv_nearestEven, fun tie => ⟨roundDiv_nearestEven_tie tie, ?even⟩,
    fun mode => ⟨div_le_roundDiv mode x d, roundDiv_le_succ mode x d, roundDiv_exact mode pos⟩,
    fun mode nearest => roundDiv_nearest_distance nearest pos⟩, rfl⟩
  case even =>
    rw [roundDiv_nearestEven_tie tie]
    split <;> omega

/-! ### Bodies and bottles -/

theorem bodyInexact_iff (deposit factor : Nat) (c : Condition) :
    bodyInexact deposit factor c = true ↔ c = .damaged ∧ (deposit * factor) % 100 ≠ 0 := by
  cases c <;> simp [bodyInexact, inexactDiv]

/-- A body is at most the deposit, the damaged factor being a percentage (R65). -/
theorem bodyOf_le (mode : RoundingMode) {deposit factor : Nat} (percent : factor ≤ 100) (c : Condition) :
    bodyOf mode deposit factor c ≤ deposit := by
  cases c with
  | sound => exact Nat.le_refl _
  | damaged => exact roundDiv_le mode (by decide) (Nat.mul_le_mul_left deposit percent)
  | scrap => exact Nat.zero_le _

theorem positions_le (m : SlotMap) : positions m ≤ 24 :=
  List.countP_le_length.trans (List.length_range).le

theorem positions_and (map slots : SlotMap) :
    positions (map &&& slots) = (List.range 24).countP (fun i => slots.getLsbD i && map.getLsbD i) := by
  simp only [positions, BitVec.getLsbD_and, Bool.and_comm]

/-! ### Stages 2 to 5: matching, the schedule, the keg's limits -/

theorem matchRead_crate_iff {b : TypeBody} {r : ReadBody} {map slots : SlotMap} :
    matchRead b r = some (.crate map slots) ↔ (b = .pool map ∨ ∃ f, b = .crate f map) ∧ r = .crate slots := by
  cases b <;> cases r <;> simp [matchRead]

theorem matchRead_keg_iff {b : TypeBody} {r : ReadBody} {k : KegLimits} {mass : Nat} :
    matchRead b r = some (.keg k mass) ↔ (∃ f, b = .keg f k) ∧ r = .keg mass := by
  cases b <;> cases r <;> simp [matchRead]

section price

variable {g : Generation} {cls : CustomerClass} {t : TypeEntry} {e : ReadEntry}

theorem price_wrongKind (h : t.body.kind ≠ e.body.kind) :
    price (some t) g cls e = ⟨divertedResult t Cause.wrongKind.bit, false⟩ := by
  have unmatched : matchRead t.body e.body = none := Option.isNone_iff_eq_none.1 ((matchRead_isNone _ _).2 h)
  simp only [price, priceListed, unmatched]

theorem exists_matchRead (h : t.body.kind = e.body.kind) : ∃ m, matchRead t.body e.body = some m :=
  Option.ne_none_iff_exists'.1 fun unmatched =>
    (matchRead_isNone _ _).1 (Option.isNone_iff_eq_none.2 unmatched) h

theorem price_invalid (h : t.body.kind = e.body.kind) (undefined : g.schedules[t.schedule].defined = false) :
    price (some t) g cls e = ⟨divertedResult t Cause.invalid.bit, false⟩ := by
  obtain ⟨m, matched⟩ := exists_matchRead h
  simp only [price, priceListed, matched, undefined, Bool.not_false, if_true]

theorem price_crate (defined : g.schedules[t.schedule].defined = true) {map slots : SlotMap}
    (matched : matchRead t.body e.body = some (.crate map slots)) :
    price (some t) g cls e = priceCrate g.header g.schedules[t.schedule] cls t e.condition map slots := by
  simp only [price, priceListed, matched, defined, Bool.not_true, Bool.false_eq_true, if_false]

theorem price_keg (defined : g.schedules[t.schedule].defined = true) {k : KegLimits} {mass : Nat}
    (matched : matchRead t.body e.body = some (.keg k mass)) :
    price (some t) g cls e = priceKeg g.header g.schedules[t.schedule] cls t e.condition k mass := by
  simp only [price, priceListed, matched, defined, Bool.not_true, Bool.false_eq_true, if_false]

end price

/-! ### Kegs -/

theorem ullageProduct_eq (mass : Nat) (k : KegLimits) (ullage : Nat) :
    ullageProduct mass k ullage = (mass - (k.tare + k.tolerance)) * ullage := by
  rw [ullageProduct, residual]
  congr 1
  omega

theorem overTolerance_eq (mass : Nat) (k : KegLimits) :
    overTolerance mass k = decide (k.tare + k.tolerance < mass) :=
  decide_eq_decide.2 (by rw [residual]; omega)

section keg

variable {h : TariffHeader} {sch : Schedule} {cls : CustomerClass} {t : TypeEntry} {c : Condition} {k : KegLimits}
  {mass : Nat}

theorem priceKeg_fullReturn (full : k.tare + k.fullLimit < mass) :
    priceKeg h sch cls t c k mass = ⟨divertedResult t Cause.fullReturn.bit, false⟩ := by
  rw [priceKeg, if_pos (by rw [residual]; omega)]

theorem priceKeg_light (notFull : mass ≤ k.tare + k.fullLimit) (light : mass + k.lightLimit < k.tare) :
    priceKeg h sch cls t c k mass = ⟨divertedResult t Cause.light.bit, false⟩ := by
  rw [priceKeg, if_neg (by rw [residual]; omega), if_pos (by omega)]

/-- A keg within its limits is credited its body less the ullage deduction, and never less than 0 (R71). -/
theorem priceKeg_within (notFull : mass ≤ k.tare + k.fullLimit) (notLight : k.tare ≤ mass + k.lightLimit) :
    priceKeg h sch cls t c k mass =
      { result :=
          stage8 t h.enables 0
            (bodyOf h.mode (sch.deposits.of cls) sch.damaged c - roundDiv h.mode (ullageProduct mass k sch.ullage) 100)
            (Cause.inexact.when
                (bodyInexact (sch.deposits.of cls) sch.damaged c || inexactDiv (ullageProduct mass k sch.ullage) 100) |||
              Cause.negative.when (decide (bodyOf h.mode (sch.deposits.of cls) sch.damaged c <
                roundDiv h.mode (ullageProduct mass k sch.ullage) 100)))
        ullageWarn := overTolerance mass k } := by
  rw [priceKeg, if_neg (by rw [residual]; omega), if_neg (by omega)]

end keg

/-! ### Stage 8 -/

theorem stage8_eq (t : TypeEntry) (enables : Conditions) (bottles credit : Nat) (causes : Causes) :
    stage8 t enables bottles credit causes =
      if causes.setWidth 3 &&& enables = 0 then
        { listed := true, family := t.body.family, schedule := some t.schedule, bottles := bottles, credit := credit
          causes := causes, diverted := false }
      else divertedResult t causes := by
  simp only [stage8, conditionsOf, bne_iff_ne, ite_not]

theorem no_cause_enabled (enables : Conditions) : (0 : Causes).setWidth 3 &&& enables = 0 := BitVec.zero_and

/-- An item without a cause is not diverted (R73). -/
theorem stage8_no_cause (t : TypeEntry) (enables : Conditions) (bottles credit : Nat) :
    stage8 t enables bottles credit 0 =
      { listed := true, family := t.body.family, schedule := some t.schedule, bottles := bottles, credit := credit
        causes := 0, diverted := false } := by
  rw [stage8_eq, if_pos (no_cause_enabled enables)]

/-! ### Bounds of a priced result -/

/-- R74, R77: credit and bottles within bounds, none for an UNLISTED or diverted item, and a cause for each
diversion. -/
structure PricedResult.Bounded (r : PricedResult) (credit bottles : Nat) : Prop where
  credit_le : r.credit ≤ credit
  bottles_le : r.bottles ≤ bottles
  nothing : r.listed = false ∨ r.diverted = true → r.credit = 0 ∧ r.bottles = 0
  caused : r.diverted = true → r.causes ≠ 0

theorem PricedResult.Bounded.mono {r : PricedResult} {c c' b b' : Nat} (h : r.Bounded c b) (hc : c ≤ c')
    (hb : b ≤ b') : r.Bounded c' b' :=
  ⟨h.credit_le.trans hc, h.bottles_le.trans hb, h.nothing, h.caused⟩

theorem unlistedResult_bounded (c b : Nat) : unlistedResult.Bounded c b :=
  ⟨Nat.zero_le _, Nat.zero_le _, fun _ => ⟨rfl, rfl⟩, nofun⟩

theorem divertedResult_bounded (t : TypeEntry) {causes : Causes} (caused : causes ≠ 0) (c b : Nat) :
    (divertedResult t causes).Bounded c b :=
  ⟨Nat.zero_le _, Nat.zero_le _, fun _ => ⟨rfl, rfl⟩, fun _ => caused⟩

theorem stage8_bounded {t : TypeEntry} {enables : Conditions} {bottles credit b c : Nat} {causes : Causes}
    (hc : credit ≤ c) (hb : bottles ≤ b) : (stage8 t enables bottles credit causes).Bounded c b := by
  rw [stage8_eq]
  split
  · exact ⟨hc, hb, nofun, nofun⟩
  · next enabled =>
    refine divertedResult_bounded t (fun empty => enabled ?_) c b
    rw [empty, no_cause_enabled]

theorem PerClass.within.of_le {p : PerClass} {top : Nat} (h : p.within top) (cls : CustomerClass) : p.of cls ≤ top := by
  obtain ⟨a, b, c, d⟩ := h
  cases cls <;> assumption

section bounds

variable {h : TariffHeader} {sch : Schedule} {cls : CustomerClass} {t : TypeEntry} {c : Condition}

/-- A body is at most 65,535, the top of the deposits (R65). -/
theorem Schedule.inRange.bodyOf_le (range : sch.inRange) (mode : RoundingMode) (cls : CustomerClass) (c : Condition) :
    bodyOf mode (sch.deposits.of cls) sch.damaged c ≤ 65535 := by
  obtain ⟨deposits, -, percent, -⟩ := range
  exact (Machine.bodyOf_le mode percent c).trans (deposits.of_le cls)

/-- 65,535 + 24 × 65,535 = 1,638,375 (R67). -/
theorem priceCrate_bounded (range : sch.inRange) (map slots : SlotMap) :
    (priceCrate h sch cls t c map slots).result.Bounded 1638375 24 := by
  have body := range.bodyOf_le h.mode cls c
  obtain ⟨-, bottle, -, -⟩ := range
  have bottles : positions (map &&& slots) * sch.bottle ≤ 24 * 65535 := Nat.mul_le_mul (positions_le _) bottle
  exact stage8_bounded (by omega) (positions_le _)

theorem priceKeg_bounded (range : sch.inRange) (k : KegLimits) (mass : Nat) :
    (priceKeg h sch cls t c k mass).result.Bounded 65535 0 := by
  rcases Nat.lt_or_ge (k.tare + k.fullLimit) mass with full | notFull
  · rw [priceKeg_fullReturn full]
    exact divertedResult_bounded t (by decide) _ _
  rcases Nat.lt_or_ge (mass + k.lightLimit) k.tare with light | notLight
  · rw [priceKeg_light notFull light]
    exact divertedResult_bounded t (by decide) _ _
  · rw [priceKeg_within notFull notLight]
    exact stage8_bounded ((Nat.sub_le _ _).trans (range.bodyOf_le h.mode cls c)) (Nat.le_refl 0)

end bounds

/-- A keg read brings at most 65,535 and no bottle, any other read at most 1,638,375 and 24 bottles (R77). -/
theorem price_bounded {g : Generation} (range : g.inRange) (lookup : Option TypeEntry) (cls : CustomerClass)
    (e : ReadEntry) :
    (price lookup g cls e).result.Bounded (if e.body.kind = .keg then 65535 else 1638375)
      (if e.body.kind = .keg then 0 else 24) := by
  obtain ⟨-, -, schedules⟩ := range
  cases lookup with
  | none => exact unlistedResult_bounded _ _
  | some t =>
    by_cases kind : t.body.kind = e.body.kind
    · cases defined : g.schedules[t.schedule].defined with
      | false =>
        rw [price_invalid kind defined]
        exact divertedResult_bounded t (by decide) _ _
      | true =>
        obtain ⟨m, matched⟩ := exists_matchRead kind
        cases m with
        | crate map slots =>
          rw [price_crate defined matched, (matchRead_crate_iff.1 matched).2]
          exact priceCrate_bounded (schedules _) map slots
        | keg k mass =>
          rw [price_keg defined matched, (matchRead_keg_iff.1 matched).2]
          exact priceKeg_bounded (schedules _) k mass
    · rw [price_wrongKind kind]
      exact divertedResult_bounded t (by decide) _ _

/-- Settles O55. -/
theorem creditBounds : Obligations.CreditBounds := by
  unfold Obligations.CreditBounds
  intro lookup g cls e range r
  have bounded := price_bounded range lookup cls e
  have wide : r.Bounded 1638375 24 := bounded.mono (by split <;> decide) (by split <;> decide)
  refine ⟨wide.credit_le, wide.bottles_le, fun keg => ?_, wide.nothing, wide.caused⟩
  rw [if_pos keg, if_pos keg] at bounded
  exact ⟨bounded.credit_le, Nat.le_zero.1 bounded.bottles_le⟩

/-- Settles O54: the equations of the stages, in the statement's words for body, causes and end. -/
theorem pricingStages : Obligations.PricingStages := by
  unfold Obligations.PricingStages
  intro g cls e
  refine ⟨rfl, ?_⟩
  intro t diverted credited ends x dc body inexact p
  have ends_eq (b c : Nat) (causes : Causes) (warn : Bool) :
      ⟨stage8 t g.header.enables b c causes, warn⟩ = ends b c causes warn := by
    rw [stage8_eq]
    exact apply_ite (Pricing.mk · warn) _ _ _
  have dc_eq : x.deposits.of cls = dc := by cases cls <;> rfl
  have body_eq : bodyOf g.header.mode dc x.damaged e.condition = body := by
    unfold body
    cases e.condition <;> rfl
  have inexact_iff : bodyInexact dc x.damaged e.condition = true ↔ inexact := bodyInexact_iff _ _ _
  refine ⟨price_wrongKind, price_invalid, fun defined => ⟨?crate, ?keg⟩⟩
  case crate =>
    intro map slots type read b count
    have priced : p = ends b (body + b * x.bottle) (Cause.inexact.when (bodyInexact dc x.damaged e.condition)) false := by
      rw [← ends_eq, ← body_eq, ← dc_eq, count, ← positions_and]
      exact price_crate defined (matchRead_crate_iff.2 ⟨type, read⟩)
    refine ⟨fun rounded => ?_, fun whole => ?_⟩
    · rw [priced, inexact_iff.2 rounded]
      rfl
    · rw [priced, Bool.eq_false_iff.2 (mt inexact_iff.1 whole), ← ends_eq]
      exact congrArg (Pricing.mk · false) (stage8_no_cause t _ _ _)
  case keg =>
    intro f tare tol fullLimit lightLimit mass type read
    have priced : p = priceKeg g.header x cls t e.condition ⟨tare, tol, fullLimit, lightLimit⟩ mass :=
      price_keg defined (matchRead_keg_iff.2 ⟨⟨f, type⟩, read⟩)
    refine ⟨fun full => priced.trans (priceKeg_fullReturn full),
      fun notFull light => priced.trans (priceKeg_light notFull light), ?_⟩
    intro notFull notLight d causes deduction raised
    rw [priced, priceKeg_within notFull notLight, ends_eq, dc_eq, body_eq, ullageProduct_eq, overTolerance_eq,
      ← deduction]
    congr 1
    rw [raised, Cause.when, Cause.when]
    simp only [Bool.or_eq_true, inexact_iff, inexactDiv, bne_iff_ne, decide_eq_true_eq]
    rfl

end Sys2Proof.Machine

/-! ## Commits: the passage of one item -/

namespace Sys2Proof.Machine

section passage

variable {g : Segment} {i : CommitItem}

/-! ### Count lines -/

/-- An item whose tag code has a line is entered there (R86, R87). -/
theorem Segment.addToLine_present (present : ∃ x ∈ g.lines, x.tagCode = i.tagCode) :
    g.addToLine i = { g with
      lines := g.lines.map (fun x =>
        if x.tagCode = i.tagCode then
          { x with tally := x.tally.add i.condition i.priced.bottles i.priced.credit }
        else x) } := by
  have held : g.lines.any (fun x => x.tagCode == i.tagCode) = true := by
    simpa only [List.any_eq_true, beq_iff_eq] using present
  rw [Segment.addToLine, if_pos held]
  simp only [beq_iff_eq]

theorem Segment.no_line_iff :
    g.lines.any (fun x => x.tagCode == i.tagCode) = false ↔ ∀ x ∈ g.lines, x.tagCode ≠ i.tagCode := by
  simp only [List.any_eq_false, beq_iff_eq, ne_eq]

/-- An item of a new tag code opens a line while the segment has fewer than 12 (R86). -/
theorem Segment.addToLine_new (absent : ∀ x ∈ g.lines, x.tagCode ≠ i.tagCode) (room : g.lines.length < 12) :
    g.addToLine i = { g with
      lines := g.lines ++ [⟨i.tagCode, i.priced.family,
        Tally.add ⟨0, 0, 0, 0, 0⟩ i.condition i.priced.bottles i.priced.credit⟩] } := by
  rw [Segment.addToLine, Segment.no_line_iff.2 absent, if_neg Bool.false_ne_true, if_pos room]

/-- An item of a new tag code is entered on the overflow line of a segment with 12 lines (R86). -/
theorem Segment.addToLine_overflow (absent : ∀ x ∈ g.lines, x.tagCode ≠ i.tagCode) (full : 12 ≤ g.lines.length) :
    g.addToLine i = { g with overflow := g.overflow.add i.condition i.priced.bottles i.priced.credit } := by
  rw [Segment.addToLine, Segment.no_line_iff.2 absent, if_neg Bool.false_ne_true, if_neg (Nat.not_lt.2 full)]

/-- Entering an item changes the count lines and the overflow line alone. -/
theorem Segment.addToLine_frame (g : Segment) (i : CommitItem) :
    g.addToLine i = { g with lines := (g.addToLine i).lines, overflow := (g.addToLine i).overflow } := by
  by_cases present : ∃ x ∈ g.lines, x.tagCode = i.tagCode
  · rw [Segment.addToLine_present present]
  · have absent : ∀ x ∈ g.lines, x.tagCode ≠ i.tagCode := fun x hx same => present ⟨x, hx, same⟩
    rcases Nat.lt_or_ge g.lines.length 12 with room | full
    · rw [Segment.addToLine_new absent room]
    · rw [Segment.addToLine_overflow absent full]

/-! ### Targets -/

/-- Whether a target's accumulator is G, not X (R88). -/
def Target.inGross : Target → Bool
  | .gross => true
  | .grossTaking _ => true
  | .excess => false

/-- The family whose float gives a unit to the target (R88). -/
def Target.unit : Target → Option Family
  | .gross => none
  | .grossTaking f => some f
  | .excess => none

/-- Credit goes to G unless the item's family has a float and it is 0 (R88). -/
theorem targetOf_inGross_iff (family : Option Family) (floats : Vector Nat 8) :
    (targetOf family floats).inGross = true ↔ ∀ f, family = some f → 0 < floats[f] := by
  cases family with
  | none => exact iff_of_true rfl fun f none => nomatch none
  | some f =>
    simp only [targetOf, Option.some.injEq, forall_eq']
    split
    · next left => exact iff_of_true rfl left
    · next spent => exact iff_of_false Bool.false_ne_true spent

/-- A target in G takes a unit of the item's family, and one in X takes none (R88). -/
theorem targetOf_unit (family : Option Family) (floats : Vector Nat 8) :
    (targetOf family floats).unit = if (targetOf family floats).inGross then family else none := by
  cases family with
  | none => rfl
  | some f =>
    rw [targetOf]
    split <;> rfl

theorem Segment.accumulator_eq (g : Segment) (t : Target) :
    g.accumulator t = if t.inGross then g.gross else g.excessCredit := by
  cases t <;> rfl

/-- The trial sum of step 4 passes the ceiling (R89). -/
theorem Segment.saturates_iff (t : Target) :
    g.saturates i t = true ↔ 2147483647 < (if t.inGross then g.gross else g.excessCredit) + i.priced.credit := by
  rw [Segment.saturates, decide_eq_true_iff, Segment.accumulator_eq]

/-! ### Passages -/

variable {enables : Conditions} {floats : Vector Nat 8}

/-- The causes of a listed item after the trial sum: SATURATE joins where it passes the ceiling (R89). -/
def causesAfter (g : Segment) (i : CommitItem) (t : Target) : Causes :=
  if g.saturates i t then i.priced.causes ||| Cause.saturate.bit else i.priced.causes

/-- An UNLISTED item is counted and changes nothing else (R84). -/
theorem passage_unlisted (unlisted : i.priced.listed = false) :
    passage enables floats g i =
      ⟨{ g with unlisted := satAdd Config.top16 g.unlisted 1 }, none, .unlisted, 0, 0⟩ := by
  rw [passage, if_pos (by rw [unlisted]; rfl)]

/-- An item that pricing diverted stays diverted (R85). -/
theorem passage_diverted (listed : i.priced.listed = true) (diverted : i.priced.diverted = true) :
    passage enables floats g i = divertedPassage g i.priced.causes := by
  rw [passage, if_neg (by rw [listed]; exact Bool.false_ne_true), if_pos diverted]

/-- Past pricing, an item is diverted exactly where its trial sum passes the ceiling and SATURATE is enabled
(R89). -/
theorem passage_trial (listed : i.priced.listed = true) (credited : i.priced.diverted = false) :
    passage enables floats g i =
      if g.saturates i (targetOf i.priced.family floats) = true ∧ enables.getLsbD 2 = true then
        divertedPassage g (i.priced.causes ||| Cause.saturate.bit)
      else creditedPassage g i (targetOf i.priced.family floats)
        (causesAfter g i (targetOf i.priced.family floats)) := by
  rw [passage, if_neg (by rw [listed]; exact Bool.false_ne_true), if_neg (by rw [credited]; exact Bool.false_ne_true),
    causesAfter]
  dsimp only
  cases g.saturates i (targetOf i.priced.family floats) with
  | true =>
    simp only [true_and, if_true]
    rfl
  | false => simp only [Bool.false_eq_true, false_and, if_false]

/-- What a credited item changes beside its line: the target's accumulator, the unit of float taken or the excess
count, and the sticky flags (R90, R91). -/
theorem creditedPassage_segment (g : Segment) (i : CommitItem) (t : Target) (causes : Causes) :
    (creditedPassage g i t causes).segment = { g with
      lines := (g.addToLine i).lines
      overflow := (g.addToLine i).overflow
      gross := if t.inGross then satAdd Config.creditTop g.gross i.priced.credit else g.gross
      excessCredit := if t.inGross then g.excessCredit else satAdd Config.creditTop g.excessCredit i.priced.credit
      excess := if t.inGross then g.excess else satAdd Config.top16 g.excess 1
      floatTaken := t.unit.elim g.floatTaken (fun f => upd g.floatTaken f (fun n => satAdd Config.top24 n 1))
      sticky := g.sticky ||| conditionsOf causes } := by
  have frame := g.addToLine_frame i
  unfold creditedPassage
  generalize g.addToLine i = entered at frame ⊢
  rw [frame]
  cases t <;> rfl

theorem creditedPassage_takes (t : Target) (causes : Causes) : (creditedPassage g i t causes).takes = t.unit := by
  cases t <;> rfl

theorem creditedPassage_outcome (t : Target) (causes : Causes) :
    (creditedPassage g i t causes).outcome = if t.inGross then .credited else .excess := by
  cases t <;> rfl

theorem creditedPassage_lines (t : Target) (causes : Causes) :
    (creditedPassage g i t causes).segment.lines = (g.addToLine i).lines := by
  rw [creditedPassage_segment]

theorem creditedPassage_overflow (t : Target) (causes : Causes) :
    (creditedPassage g i t causes).segment.overflow = (g.addToLine i).overflow := by
  rw [creditedPassage_segment]

end passage

/-- Settles O56: the four ends of a passage, the statement's `toGross` and `takes` being those of its target. -/
theorem commitPassage : Obligations.CommitPassage := by
  unfold Obligations.CommitPassage
  intro en floats g i p r divertedAs
  refine ⟨passage_unlisted, passage_diverted, ?_⟩
  intro listed credited toGross takes toGross_iff takes_eq target tops sum
  have trial : p = _ := passage_trial listed credited
  generalize target_eq : targetOf r.family floats = t at trial
  obtain rfl : t.inGross = toGross := by
    rw [Bool.eq_iff_iff, toGross_iff, ← target_eq, targetOf_inGross_iff]
  obtain rfl : t.unit = takes := by rw [takes_eq, ← target_eq, targetOf_unit]
  have tops_iff : g.saturates i t = true ↔ tops := Segment.saturates_iff t
  refine ⟨fun past enabled => by rw [trial, if_pos ⟨tops_iff.2 past, enabled⟩]; rfl, ?_⟩
  intro stays causes causes_eq
  have causes_after : causesAfter g i t = causes := by
    rw [causes_eq, causesAfter]
    simp only [tops_iff]
    rfl
  have passes : p = creditedPassage g i t causes := by
    rw [trial, causes_after, if_neg]
    rintro ⟨past, enabled⟩
    rcases stays with below | disabled
    · exact below (tops_iff.1 past)
    · exact Bool.false_ne_true (disabled.symm.trans enabled)
  rw [passes]
  refine ⟨creditedPassage_takes t causes, rfl, rfl, creditedPassage_outcome t causes, ?segment, ?line⟩
  case segment =>
    rw [creditedPassage_segment]
    cases t <;> rfl
  case line =>
    intro add add_eq
    obtain rfl : (fun t : Tally => t.add i.condition r.bottles r.credit) = add := funext fun t => (add_eq t).symm
    rw [creditedPassage_lines, creditedPassage_overflow]
    refine ⟨fun present => ?_, fun absent room => ?_, fun absent full => ?_⟩
    · rw [Segment.addToLine_present present]
      exact ⟨rfl, rfl⟩
    · rw [Segment.addToLine_new absent room]
      exact ⟨rfl, rfl⟩
    · rw [Segment.addToLine_overflow absent full]
      exact ⟨rfl, rfl⟩

end Sys2Proof.Machine

/-! ## The Container Type Table's edits (chapter 5) -/

namespace Sys2Proof.Machine

/-! ### The entry that a Write Type names (R101) -/

theorem familyOf_val (f : Family) : familyOf f.val = some f := by rw [familyOf, dif_pos f.isLt]

theorem familyOf_eq_none {n : Nat} (h : 7 < n) : familyOf n = none := by rw [familyOf, dif_neg (by omega)]

theorem scheduleOf_eq_none {n : Nat} (h : 15 < n) : scheduleOf n = none := by rw [scheduleOf, dif_neg (by omega)]

/-- The class, family and class-specific part fail R101; the class code names none, or the family is none of its
class, or the map is empty, or a keg constant is above its top. -/
def specMisfits (spec : TypeSpec) (family : Nat) : Prop :=
  match spec with
  | .crate map => 7 < family ∨ map = 0
  | .pool map => family ≠ 255 ∨ map = 0
  | .keg t tol a l => 7 < family ∨ 20000 < t ∨ 20000 < tol ∨ 20000 < a ∨ 20000 < l
  | .unknown _ => True

/-- The body is of the class, family and class-specific part that the Write Type carries (R102). -/
def specCarries (spec : TypeSpec) (family : Nat) (body : TypeBody) : Prop :=
  match spec with
  | .crate map => ∃ f : Family, f.val = family ∧ body = .crate f map
  | .pool map => body = .pool map
  | .keg t tol a l => ∃ f : Family, f.val = family ∧ body = .keg f ⟨t, tol, a, l⟩
  | .unknown _ => False

theorem typeBodyOf_eq_none {spec : TypeSpec} {family : Nat} (h : specMisfits spec family) :
    typeBodyOf spec family = none := by
  cases spec with
  | crate map =>
    rcases h with out | rfl
    · rw [typeBodyOf, familyOf_eq_none out]
    · cases found : familyOf family <;> simp [typeBodyOf, found]
  | pool map => rcases h with other | rfl <;> simp [typeBodyOf, *]
  | keg t tol a l =>
    rcases h with out | above
    · rw [typeBodyOf, familyOf_eq_none out]
    · cases found : familyOf family with
      | none => rw [typeBodyOf, found]
      | some f =>
        have exceeds : ¬ (t ≤ 20000 ∧ tol ≤ 20000 ∧ a ≤ 20000 ∧ l ≤ 20000) := by omega
        rw [typeBodyOf, found]
        exact if_neg (by simpa only [Bool.and_eq_true, decide_eq_true_eq, and_assoc] using exceeds)
  | unknown code => rfl

theorem exists_typeBodyOf {spec : TypeSpec} {family : Nat} (h : ¬ specMisfits spec family) :
    ∃ body, typeBodyOf spec family = some body ∧ specCarries spec family body := by
  cases spec with
  | crate map =>
    obtain ⟨inRange, marked⟩ := not_or.1 h
    lift family to Family using by omega
    exact ⟨_, by rw [typeBodyOf, familyOf_val]; exact if_neg marked, family, rfl, rfl⟩
  | pool map =>
    obtain ⟨same, marked⟩ := not_or.1 h
    exact ⟨_, if_pos (by rw [not_not.1 same]; simpa using marked), rfl⟩
  | keg t tol a l =>
    obtain ⟨inRange, limits⟩ := not_or.1 h
    have within : t ≤ 20000 ∧ tol ≤ 20000 ∧ a ≤ 20000 ∧ l ≤ 20000 := by omega
    lift family to Family using by omega
    refine ⟨_, ?_, family, rfl, rfl⟩
    rw [typeBodyOf, familyOf_val]
    exact if_pos (by simpa only [Bool.and_eq_true, decide_eq_true_eq, and_assoc] using within)
  | unknown code => exact absurd trivial h

theorem typeEntryOf_eq_none {tagCode family schedule : Nat} {spec : TypeSpec}
    (h : tagCode = 0 ∨ 15 < schedule ∨ specMisfits spec family) :
    typeEntryOf tagCode spec family schedule = none := by
  unfold typeEntryOf
  rcases h with zero | out | misfits
  · rw [tagCodeInRange_eq_false (.inl zero)]
    split <;> rfl
  · rw [scheduleOf_eq_none out]
  · rw [typeBodyOf_eq_none misfits]
    split <;> trivial

theorem exists_typeEntryOf {tagCode family schedule : Nat} {spec : TypeSpec} (high : tagCode ≤ 65535)
    (h : ¬ (tagCode = 0 ∨ 15 < schedule ∨ specMisfits spec family)) :
    ∃ e, typeEntryOf tagCode spec family schedule = some e ∧ e.tagCode = tagCode ∧ e.schedule.val = schedule ∧
      specCarries spec family e.body := by
  obtain ⟨nonzero, inRange, fits⟩ : tagCode ≠ 0 ∧ ¬ 15 < schedule ∧ ¬ specMisfits spec family := by
    simpa only [not_or] using h
  obtain ⟨body, found, carries⟩ := exists_typeBodyOf fits
  lift schedule to Fin 16 using by omega
  refine ⟨⟨tagCode, schedule, body⟩, ?_, rfl, rfl, carries⟩
  simp only [typeEntryOf, scheduleOf_val, found, tagCodeInRange_eq_true (Nat.one_le_iff_ne_zero.2 nonzero) high,
    if_true]

/-! ### Places in the table (R100) -/

theorem State.findType_eq_none {s : State} {tagCode : Nat} (absent : ∀ e ∈ s.types, e.tagCode ≠ tagCode) :
    s.findType tagCode = none :=
  List.find?_eq_none.2 fun e he => by simpa using absent e he

theorem typeIndex_getElem {types : List TypeEntry} (order : ascending types) {i : Nat} (hi : i < types.length) :
    typeIndex types types[i].tagCode = i :=
  typeIndex_eq hi.le fun _ hj => ascending_getElem order hi hj

/-- Where an entry stands in order, its place is the number of lower tag codes (R103). -/
theorem typeIndex_append {before after : List TypeEntry} {e : TypeEntry} (order : ascending (before ++ e :: after)) :
    typeIndex (before ++ after) e.tagCode = before.length := by
  obtain ⟨-, rest, lower⟩ := List.pairwise_append.1 order
  have higher := (List.pairwise_cons.1 rest).1
  have all : before.countP (fun x => decide (x.tagCode < e.tagCode)) = before.length :=
    List.countP_eq_length.2 fun x hx => decide_eq_true (lower x hx e List.mem_cons_self)
  have none : after.countP (fun x => decide (x.tagCode < e.tagCode)) = 0 :=
    List.countP_eq_zero.2 fun x hx => by simpa using (higher x hx).le
  rw [typeIndex, List.countP_append, all, none, Nat.add_zero]

/-- The entry of a tag code that the table holds takes the place of the one held (R102). -/
theorem putType_held {types : List TypeEntry} (order : ascending types) {e : TypeEntry} {i : Nat}
    (hi : i < types.length) (same : types[i].tagCode = e.tagCode) : putType e types = types.set i e := by
  induction types generalizing i with
  | nil => exact absurd hi (Nat.not_lt_zero i)
  | cons x xs ih =>
    obtain ⟨below, rest⟩ := List.pairwise_cons.1 order
    cases i with
    | zero =>
      have same : x.tagCode = e.tagCode := same
      rw [putType, if_neg same.not_gt, if_pos same.symm, List.set_cons_zero]
    | succ i =>
      have hi : i < xs.length := Nat.lt_of_succ_lt_succ hi
      have same : xs[i].tagCode = e.tagCode := same
      have past : x.tagCode < e.tagCode := same ▸ below _ (List.getElem_mem hi)
      rw [putType, if_neg past.not_gt, if_neg past.ne', ih rest hi same, List.set_cons_succ]

/-- The entry of a tag code that the table does not hold comes between two parts of it (R103). -/
theorem putType_absent {e : TypeEntry} {types : List TypeEntry} (absent : ∀ y ∈ types, y.tagCode ≠ e.tagCode) :
    ∃ before after, types = before ++ after ∧ putType e types = before ++ e :: after := by
  induction types with
  | nil => exact ⟨[], [], rfl, rfl⟩
  | cons x xs ih =>
    obtain ⟨other, absent⟩ := List.forall_mem_cons.1 absent
    rw [putType, if_neg other.symm]
    split
    · exact ⟨[], x :: xs, rfl, rfl⟩
    · obtain ⟨before, after, rfl, put⟩ := ih absent
      exact ⟨x :: before, after, rfl, congrArg (x :: ·) put⟩

/-- The entry of a tag code leaves the table and no other does (R104). -/
theorem dropType_getElem {types : List TypeEntry} (order : ascending types) {i : Nat} (hi : i < types.length) :
    dropType types[i].tagCode types = types.eraseIdx i := by
  induction types generalizing i with
  | nil => exact absurd hi (Nat.not_lt_zero i)
  | cons x xs ih =>
    obtain ⟨below, rest⟩ := List.pairwise_cons.1 order
    cases i with
    | zero =>
      have kept : dropType x.tagCode xs = xs := List.filter_eq_self.2 fun y hy => by simpa using (below y hy).ne'
      exact (List.filter_cons_of_neg (by simp)).trans kept
    | succ i =>
      have hi : i < xs.length := Nat.lt_of_succ_lt_succ hi
      have past : x.tagCode < xs[i].tagCode := below _ (List.getElem_mem hi)
      rw [List.getElem_cons_succ, dropType, List.filter_cons_of_pos (by simpa using past.ne),
        List.eraseIdx_cons_succ, ← ih rest hi, dropType]

/-! ### Write Type and Delete Type -/

variable {s : State} {tagCode : Nat}

/-- The outcome of a request executed on a Response Queue with room (R160, R162). -/
theorem State.next_serve_accept (room : s.room) {tag code : Byte} {m : State → Answer} {t : State} {d : Detail}
    (h : m s = accept t d) : Host.Outcome.next (s.serve tag code m) =
      (Host.Outcome.next (t.answered tag code .ok d).finish : Host.Outcome State Fault Refusal) :=
  congrArg Host.Outcome.next (State.serve_accept room h)

theorem writeType_malformed {spec : TypeSpec} {family schedule : Nat}
    (h : typeEntryOf tagCode spec family schedule = none) :
    writeType tagCode spec family schedule s = refuse s .malformed (.typeRefused tagCode s.types.length) := by
  rw [writeType, h]

section writes

variable {spec : TypeSpec} {family schedule : Nat} {e : TypeEntry}
  (named : typeEntryOf tagCode spec family schedule = some e)

include named

theorem writeType_full (absent : ∀ y ∈ s.types, y.tagCode ≠ tagCode) (full : 64 ≤ s.types.length) :
    writeType tagCode spec family schedule s = refuse s .tableFull (.typeRefused tagCode s.types.length) := by
  simp only [writeType, named, State.findType_eq_none absent]
  exact if_pos (by simpa using full)

theorem writeType_replaces (order : ascending s.types) {i : Nat} (hi : i < s.types.length)
    (held : s.types[i].tagCode = tagCode) : writeType tagCode spec family schedule s =
      accept (s.setTypes (s.types.set i e)) (.typeWritten true i s.types.length) := by
  have put := putType_held order hi (held.trans (typeEntryOf_tagCode named).symm)
  subst held
  simp only [writeType, named, State.findType_getElem order hi, typeIndex_getElem order hi, put, List.length_set]
  rfl

theorem writeType_inserts (order : ascending s.types) (absent : ∀ y ∈ s.types, y.tagCode ≠ tagCode)
    (space : s.types.length < 64) : ∃ before after, s.types = before ++ after ∧ ascending (before ++ e :: after) ∧
      writeType tagCode spec family schedule s = accept (s.setTypes (before ++ e :: after))
        (.typeWritten false before.length (s.types.length + 1)) := by
  obtain rfl := typeEntryOf_tagCode named
  obtain ⟨before, after, types_eq, put⟩ := putType_absent absent
  have order' : ascending (before ++ e :: after) := put ▸ putType_ascending order
  have index : typeIndex s.types e.tagCode = before.length := types_eq ▸ typeIndex_append order'
  have size : (before ++ e :: after).length = s.types.length + 1 := by
    rw [types_eq, List.length_append, List.length_append, List.length_cons, Nat.add_assoc]
  refine ⟨before, after, types_eq, order', ?_⟩
  simp only [writeType, named, State.findType_eq_none absent, put, index, size]
  exact if_neg (by simpa using space)

end writes

theorem deleteType_absent (low : 1 ≤ tagCode) (high : tagCode ≤ 65535)
    (absent : ∀ e ∈ s.types, e.tagCode ≠ tagCode) :
    deleteType tagCode s = refuse s .noEntry (.typeCount s.types.length) := by
  simp only [deleteType, tagCodeInRange_eq_true low high, State.findType_eq_none absent, Bool.not_true,
    Bool.false_eq_true, if_false]

theorem deleteType_held (low : 1 ≤ tagCode) (high : tagCode ≤ 65535) (order : ascending s.types) {i : Nat}
    (hi : i < s.types.length) (held : s.types[i].tagCode = tagCode) : deleteType tagCode s =
      accept (s.setTypes (s.types.eraseIdx i)) (.typeDeleted i (s.types.length - 1)) := by
  subst held
  simp only [deleteType, tagCodeInRange_eq_true low high, State.findType_getElem order hi, typeIndex_getElem order hi,
    dropType_getElem order hi, List.length_eraseIdx_of_lt hi, Bool.not_true, Bool.false_eq_true, if_false]

/-- Settles O33: a tag code that the table holds stands at one place, and one that it does not hold comes where the
lower ones end. -/
theorem typeEdits : Obligations.TypeEdits := by
  intro s tag tagCode room order high
  refine ⟨fun spec family schedule => ?writes, fun zero => State.serve_refuse room ?zero, fun low =>
    ⟨fun absent => State.serve_refuse room (deleteType_absent low high absent),
      fun i hi held => State.next_serve_accept room (deleteType_held low high order hi held)⟩⟩
  case zero =>
    rw [deleteType, tagCodeInRange_eq_false (.inl zero)]
    rfl
  case writes =>
    intro x bad
    have bad_iff : bad ↔ tagCode = 0 ∨ 15 < schedule ∨ specMisfits spec family := Iff.rfl
    refine ⟨fun fails => State.serve_refuse room (writeType_malformed (typeEntryOf_eq_none (bad_iff.1 fails))),
      fun passes absent full => ?_, fun passes => ?_⟩ <;>
      obtain ⟨e, named, code, number, carries⟩ := exists_typeEntryOf high (bad_iff.not.1 passes)
    · exact State.serve_refuse room (writeType_full named absent full)
    · refine ⟨e, code, number, carries, fun i hi held =>
        State.next_serve_accept room (writeType_replaces named order hi held), fun absent space => ?_⟩
      obtain ⟨before, after, types_eq, order', written⟩ := writeType_inserts named order absent space
      exact ⟨before, after, types_eq, order', State.next_serve_accept room written⟩

end Sys2Proof.Machine

/-! ## The Tariff Store: the changes that keep it sound (R111, R114, R123, R124) -/

namespace Sys2Proof.Machine

variable {s t : State}

/-! ### The two slots -/

theorem otherTariff_ne (i : TariffIndex) : otherTariff i ≠ i := by revert i; decide

theorem otherTariff_otherTariff (i : TariffIndex) : otherTariff (otherTariff i) = i := by revert i; decide

theorem eq_otherTariff {i j : TariffIndex} (h : j ≠ i) : j = otherTariff i := by revert i j; decide

theorem State.TariffsSound.other_not_active (h : s.TariffsSound) {i : TariffIndex}
    (active : s.tariffs[i].state = .active) : s.tariffs[otherTariff i].state ≠ .active := fun other => by
  rcases tariffIndex_cases i with rfl | rfl
  · exact h.oneActive ⟨active, other⟩
  · exact h.oneActive ⟨other, active⟩

theorem TariffSlot.pins_eq_zero {x : TariffSlot} (h : x.state = .empty ∨ x.state = .pending) : x.pins = 0 := by
  cases x with
  | empty => rfl
  | pending g => rfl
  | active g n => exact h.elim nofun nofun
  | retiring g n => exact h.elim nofun nofun

/-! ### The number of pins -/

/-- How the number of pins of a slot changes where only the visits listed change their pins. -/
theorem State.pinsOf_except {vs : List VisitSlot} (nd : vs.Nodup)
    (same : ∀ v : VisitSlot, v ∉ vs → t.visits[v].pin = s.visits[v].pin) (i : TariffIndex) :
    t.pinsOf i + pinsOn i (vs.map fun v => s.visits[v].pin) =
      s.pinsOf i + pinsOn i (vs.map fun v => t.visits[v].pin) := by
  have listed : vs.Perm (allVisits.filter (· ∈ vs)) := (List.perm_ext_iff_of_nodup nd (allVisits_nodup.filter _)).2
    fun v => by simp [mem_allVisits]
  have split : ∀ u : State, u.pinsOf i = pinsOn i (vs.map fun v => u.visits[v].pin) +
      pinsOn i ((allVisits.filter (· ∉ vs)).map fun v => u.visits[v].pin) := fun u => by
    rw [pinsOn, pinsOn, List.countP_map, List.countP_map, listed.countP_eq, State.pinsOf,
      List.countP_eq_countP_filter_add _ _ (· ∈ vs)]
    simp only [decide_not]
    rfl
  have others : (allVisits.filter (· ∉ vs)).map (fun v => t.visits[v].pin) =
      (allVisits.filter (· ∉ vs)).map (fun v => s.visits[v].pin) :=
    List.map_congr_left fun v hv => same v (by simpa using (List.mem_filter.1 hv).2)
  rw [split s, split t, others]
  omega

theorem State.one_le_pinsOf {v : VisitSlot} {p : Pin} (pin : s.visits[v].pin = some p) : 1 ≤ s.pinsOf p.slot :=
  List.one_le_countP_iff.2 ⟨v, mem_allVisits v, by simp [pin, -Fin.getElem_fin]⟩

/-! ### A change of slots and pins -/

/-- A slot that keeps its generation while pins are left on it (R123). -/
def TariffSlot.HoldsOn (x y : TariffSlot) : Prop :=
  1 ≤ y.pins → x.state = .active ∨ x.state = .retiring →
    y.contents = x.contents ∧ (y.state = .active ∨ y.state = .retiring)

/-- A pin names a slot that holds the generation of its number, ACTIVE or RETIRING (R123). -/
def State.PinHeld (s : State) (p : Pin) : Prop :=
  ∃ g, s.tariffs[p.slot].contents = some g ∧ g.header.generation = p.generation ∧
    (s.tariffs[p.slot].state = .active ∨ s.tariffs[p.slot].state = .retiring)

/-- A change keeps the Tariff Store sound when its slots stand in order, their pin counts are exact, each pinned slot
holds on, and a live visit has the pin it had or a held one. -/
theorem State.TariffsSound.change (h : s.TariffsSound)
    (active : ∀ i : TariffIndex, t.tariffs[i].state = .active → t.tariffs[otherTariff i].state ≠ .active)
    (retiring : ∀ i : TariffIndex, t.tariffs[i].state = .retiring →
      1 ≤ t.tariffs[i].pins ∧ t.tariffs[otherTariff i].state = .active)
    (pins : ∀ i : TariffIndex, t.tariffs[i].pins = t.pinsOf i)
    (slots : ∀ i : TariffIndex, TariffSlot.HoldsOn s.tariffs[i] t.tariffs[i])
    (free : ∀ v : VisitSlot, t.visits[v].state = .free → t.visits[v].pin = none)
    (live : ∀ v : VisitSlot, t.visits[v].state ≠ .free →
      (s.visits[v].state ≠ .free ∧ t.visits[v].pin = s.visits[v].pin) ∨
        ∃ p, t.visits[v].pin = some p ∧ t.PinHeld p) : t.TariffsSound where
  oneActive := fun ⟨zero, one⟩ => active 0 zero one
  retiring := retiring
  pins := pins
  free := free
  held v hv := by
    rcases live v hv with ⟨lived, same⟩ | ⟨p, pin, g, held⟩
    · obtain ⟨p, g, pin, contents, number, state⟩ := h.held v lived
      have pinned : t.visits[v].pin = some p := same.trans pin
      obtain ⟨contents', state'⟩ := slots p.slot (pins p.slot ▸ State.one_le_pinsOf pinned) state
      exact ⟨p, g, pinned, contents'.trans contents, number, state'⟩
    · exact ⟨p, g, pin, held⟩

/-! ### Changes that leave slots and pins alone -/

/-- A record that keeps its pin, and is FREE as it was. -/
structure Visit.SamePin (r r' : Visit) : Prop where
  pin : r'.pin = r.pin
  free : r'.state = .free ↔ r.state = .free

theorem Visit.SamePin.refl (r : Visit) : r.SamePin r := ⟨rfl, Iff.rfl⟩

theorem Visit.SamePin.trans {r r' r'' : Visit} (h : r.SamePin r') (h' : r'.SamePin r'') : r.SamePin r'' :=
  ⟨h'.pin.trans h.pin, h'.free.trans h.free⟩

/-- A live record that stays live with its pin. -/
theorem Visit.SamePin.of_live {r r' : Visit} (pin : r'.pin = r.pin) (live : r.state ≠ .free)
    (live' : r'.state ≠ .free) : r.SamePin r' := ⟨pin, iff_of_false live' live⟩

/-- The Tariff Store and the pins of the visits stay as they are. -/
structure State.SamePins (s t : State) : Prop where
  tariffs : t.tariffs = s.tariffs
  visits : ∀ v : VisitSlot, Visit.SamePin s.visits[v] t.visits[v]

theorem State.SamePins.of_visits (tariffs : t.tariffs = s.tariffs) (visits : t.visits = s.visits) : s.SamePins t :=
  ⟨tariffs, fun v => by rw [visits]; exact .refl _⟩

theorem State.SamePins.refl (s : State) : s.SamePins s := .of_visits rfl rfl

theorem State.SamePins.trans {u : State} (h : s.SamePins t) (h' : t.SamePins u) : s.SamePins u :=
  ⟨h'.tariffs.trans h.tariffs, fun v => (h.visits v).trans (h'.visits v)⟩

/-- One record changes and keeps its pin. -/
theorem State.SamePins.of_upd (v : VisitSlot) (f : Visit → Visit) (tariffs : t.tariffs = s.tariffs)
    (visits : t.visits = upd s.visits v f) (h : Visit.SamePin s.visits[v] (f s.visits[v])) : s.SamePins t :=
  ⟨tariffs, fun w => by
    rw [visits, upd_get]
    split
    · next e => subst e; exact h
    · exact .refl _⟩

theorem State.pinsOf_congr (visits : ∀ v : VisitSlot, t.visits[v].pin = s.visits[v].pin) (i : TariffIndex) :
    t.pinsOf i = s.pinsOf i :=
  State.pinsOf_except (vs := []) List.nodup_nil (fun v _ => visits v) i

theorem State.SamePins.tariffsSound (same : s.SamePins t) (h : s.TariffsSound) : t.TariffsSound := by
  obtain ⟨tariffs, visits⟩ := same
  have pinsOf := State.pinsOf_congr fun v => (visits v).pin
  refine h.change ?_ ?_ ?_ ?_ (fun v hv => ?_) fun v hv => .inl ⟨mt (visits v).free.2 hv, (visits v).pin⟩
  · rw [tariffs]; exact fun i => h.other_not_active
  · rw [tariffs]; exact h.retiring
  · rw [tariffs]; exact fun i => (h.pins i).trans (pinsOf i).symm
  · rw [tariffs]; exact fun i _ state => ⟨rfl, state⟩
  · rw [(visits v).pin]; exact h.free v ((visits v).free.1 hv)

theorem State.TariffsSound.of_visits (h : s.TariffsSound) (tariffs : t.tariffs = s.tariffs)
    (visits : t.visits = s.visits) : t.TariffsSound := (State.SamePins.of_visits tariffs visits).tariffsSound h

/-! ### Loading, discarding and promoting (R114 to R116, R121, R122) -/

/-- A slot that is EMPTY or PENDING becomes EMPTY or PENDING. -/
theorem State.TariffsSound.setTariff_unpinned (h : s.TariffsSound) {i : TariffIndex} {x : TariffSlot}
    (before : s.tariffs[i].state = .empty ∨ s.tariffs[i].state = .pending)
    (after : x.state = .empty ∨ x.state = .pending) : (s.setTariff i x).TariffsSound := by
  have slot : ∀ j : TariffIndex, (s.setTariff i x).tariffs[j] = if j = i then x else s.tariffs[j] :=
    fun j => upd_get _ _ _ _
  have idle : ¬ x.state = .active ∧ ¬ x.state = .retiring := by
    rcases after with e | e <;> rw [e] <;> exact ⟨nofun, nofun⟩
  have unused : ¬ s.tariffs[i].state = .active := by rcases before with e | e <;> rw [e] <;> nofun
  refine h.change (fun j hj => ?_) (fun j hj => ?_) (fun j => ?_) (fun j pinned state => ?_) h.free
    fun v hv => .inl ⟨hv, rfl⟩
  · rw [slot] at hj ⊢
    split at hj
    · exact absurd hj idle.1
    · split
      · exact idle.1
      · exact h.other_not_active hj
  · rw [slot] at hj ⊢
    split at hj
    · exact absurd hj idle.2
    · next other =>
      obtain ⟨pinned, active⟩ := h.retiring j hj
      have : otherTariff j = i := by rw [eq_otherTariff other, otherTariff_otherTariff]
      exact absurd (this ▸ active) unused
  · rw [slot]
    split
    · next e =>
      subst e
      have zero := TariffSlot.pins_eq_zero before
      exact (TariffSlot.pins_eq_zero after).trans (zero.symm.trans (h.pins j))
    · exact h.pins j
  · rw [slot] at pinned ⊢
    split at pinned
    · rw [TariffSlot.pins_eq_zero after] at pinned; cases pinned
    · next other => rw [if_neg other]; exact ⟨rfl, state⟩

theorem TariffSlot.superseded_not_active (x : TariffSlot) : x.superseded.state ≠ .active := by
  cases x with
  | active g n => unfold TariffSlot.superseded; dsimp only; split <;> nofun
  | empty => nofun
  | pending g => nofun
  | retiring g n => nofun

theorem TariffSlot.superseded_of_not_active {x : TariffSlot} (h : x.state ≠ .active) : x.superseded = x := by
  cases x with
  | active g n => exact absurd rfl h
  | empty => rfl
  | pending g => rfl
  | retiring g n => rfl

theorem TariffSlot.superseded_pins (x : TariffSlot) : x.superseded.pins = x.pins := by
  cases x with
  | active g n =>
    unfold TariffSlot.superseded
    dsimp only
    split
    · rfl
    · next none => exact (Nat.eq_zero_of_not_pos none).symm
  | empty => rfl
  | pending g => rfl
  | retiring g n => rfl

/-- A superseded slot is RETIRING while it has a pin (R121). -/
theorem TariffSlot.superseded_retiring {x : TariffSlot} (h : x.superseded.state = .retiring)
    (retiring : x.state = .retiring → 1 ≤ x.pins) : 1 ≤ x.superseded.pins := by
  rw [TariffSlot.superseded_pins]
  cases x with
  | active g n =>
    unfold TariffSlot.superseded at h
    dsimp only at h
    split at h
    · next pinned => exact pinned
    · cases h
  | empty => cases h
  | pending g => cases h
  | retiring g n => exact retiring rfl

theorem TariffSlot.superseded_holdsOn (x : TariffSlot) : x.HoldsOn x.superseded := fun pinned state => by
  rw [TariffSlot.superseded_pins] at pinned
  cases x with
  | active g n =>
    have pinned : 0 < n := pinned
    unfold TariffSlot.superseded
    dsimp only
    rw [if_pos pinned]
    exact ⟨rfl, .inr rfl⟩
  | empty => cases pinned
  | pending g => cases pinned
  | retiring g n => exact ⟨rfl, state⟩

/-- The slots after a promotion: the promoted one ACTIVE without pins, the other superseded if it was ACTIVE (R121). -/
theorem State.promote_tariff {i : TariffIndex} {g : Generation} (pending : s.tariffs[i].state = .pending)
    (j : TariffIndex) : (s.promote i g).tariffs[j] = if j = i then .active g 0 else s.tariffs[j].superseded := by
  unfold State.promote
  split
  · next o active =>
    have active := State.state_of_activeTariff active
    have other : o ≠ i := fun e => by rw [e, pending] at active; cases active
    simp only [State.setTariff_tariffs, upd_get]
    by_cases e : j = i
    · rw [if_pos e, if_pos e]
    · rw [if_neg e, if_neg e, if_pos ((eq_otherTariff e).trans (eq_otherTariff other).symm),
        (eq_otherTariff e).trans (eq_otherTariff other).symm]
  · next active =>
    rw [TariffSlot.superseded_of_not_active (State.activeTariff_eq_none.1 active j), State.setTariff_tariffs, upd_get]

theorem State.promote_visits (i : TariffIndex) (g : Generation) : (s.promote i g).visits = s.visits := by
  unfold State.promote
  split <;> rfl

theorem State.TariffsSound.promote (h : s.TariffsSound) {i : TariffIndex} {g : Generation}
    (pending : s.tariffs[i].state = .pending) : (s.promote i g).TariffsSound := by
  have slot := State.promote_tariff (s := s) (g := g) pending
  have visits := State.promote_visits (s := s) i g
  have unpinned := TariffSlot.pins_eq_zero (.inr pending)
  refine h.change (fun j hj => ?_) (fun j hj => ?_) (fun j => ?_) (fun j pinned state => ?_) ?_ fun v hv => .inl ?_
  · rw [slot] at hj ⊢
    split at hj
    · next e => subst e; rw [if_neg (otherTariff_ne j)]; exact TariffSlot.superseded_not_active _
    · exact absurd hj (TariffSlot.superseded_not_active _)
  · rw [slot] at hj
    split at hj
    · cases hj
    · next other =>
      rw [slot, slot, if_neg other, eq_otherTariff other, otherTariff_otherTariff, if_pos rfl]
      rw [eq_otherTariff other] at hj
      exact ⟨TariffSlot.superseded_retiring hj fun retiring => (h.retiring _ retiring).1, rfl⟩
  · rw [slot, State.pinsOf_congr (s := s) (fun v => by rw [visits]), ← h.pins]
    split
    · next e => subst e; exact unpinned.symm
    · exact TariffSlot.superseded_pins _
  · rw [slot] at pinned ⊢
    split at pinned
    · cases pinned
    · next other => rw [if_neg other]; exact TariffSlot.superseded_holdsOn _ pinned state
  · rw [visits]; exact h.free
  · rw [visits] at hv ⊢; exact ⟨hv, rfl⟩

/-! ### Releasing pins (R23, R124) -/

theorem TariffSlot.released_pins (x : TariffSlot) (k : Nat) : (x.released k).pins = x.pins - k := by
  cases x with
  | empty => exact (Nat.zero_sub k).symm
  | pending g => exact (Nat.zero_sub k).symm
  | active g n => rfl
  | retiring g n =>
    unfold TariffSlot.released
    dsimp only
    split
    · next none => rw [none]; rfl
    · split
      · next last => exact (Nat.sub_eq_zero_of_le last).symm
      · rfl

theorem TariffSlot.released_active_iff (x : TariffSlot) (k : Nat) :
    (x.released k).state = .active ↔ x.state = .active := by
  cases x with
  | retiring g n => unfold TariffSlot.released; dsimp only; split <;> [rfl; split <;> simp [TariffSlot.state]]
  | empty => rfl
  | pending g => rfl
  | active g n => rfl

/-- A slot that is RETIRING after a release was so before, and keeps a pin (R124). -/
theorem TariffSlot.released_retiring {x : TariffSlot} {k : Nat} (h : (x.released k).state = .retiring) :
    x.state = .retiring ∧ (1 ≤ x.pins → 1 ≤ (x.released k).pins) := by
  cases x with
  | empty => cases h
  | pending g => cases h
  | active g n => cases h
  | retiring g n =>
    refine ⟨rfl, fun pinned => ?_⟩
    unfold TariffSlot.released at h ⊢
    dsimp only at h ⊢
    split at h
    · next none => rw [if_pos none]; exact pinned
    · next some =>
      split at h
      · cases h
      · next left => rw [if_neg some, if_neg left]; exact Nat.sub_pos_of_lt (Nat.not_le.1 left)

theorem TariffSlot.released_holdsOn (x : TariffSlot) (k : Nat) : x.HoldsOn (x.released k) := fun pinned state => by
  cases x with
  | empty => exact state.elim nofun nofun
  | pending g => exact state.elim nofun nofun
  | active g n => exact ⟨rfl, .inl rfl⟩
  | retiring g n =>
    rw [TariffSlot.released_pins] at pinned
    have left : ¬ n ≤ k := Nat.not_le.2 (Nat.lt_of_sub_pos pinned)
    unfold TariffSlot.released
    dsimp only
    rw [if_neg left]
    split <;> exact ⟨rfl, .inr rfl⟩

/-- Visits return to FREE and their pins are released (R23, R124). -/
theorem State.TariffsSound.freed (h : s.TariffsSound) {gone : List VisitSlot} (nd : gone.Nodup)
    (visits : ∀ v : VisitSlot, t.visits[v] = if v ∈ gone then Visit.free else s.visits[v])
    (tariffs : ∀ i : TariffIndex,
      t.tariffs[i] = s.tariffs[i].released (pinsOn i (gone.map fun v => s.visits[v].pin))) : t.TariffsSound := by
  have freed : ∀ v ∈ gone, t.visits[v] = Visit.free := fun v hv => (visits v).trans (if_pos hv)
  have kept : ∀ v : VisitSlot, v ∉ gone → t.visits[v] = s.visits[v] := fun v hv => (visits v).trans (if_neg hv)
  have pinsOf : ∀ i, t.pinsOf i + pinsOn i (gone.map fun v => s.visits[v].pin) = s.pinsOf i := fun i => by
    have none : pinsOn i (gone.map fun v => t.visits[v].pin) = 0 := by
      rw [pinsOn, List.countP_map, List.countP_eq_zero]
      intro v hv
      simp only [Function.comp_apply, freed v hv]
      exact Bool.false_ne_true
    have count := State.pinsOf_except nd (fun v hv => congrArg Visit.pin (kept v hv)) i
    rwa [none] at count
  refine h.change (fun i hi => ?_) (fun i hi => ?_) (fun i => ?_) (fun i => ?_) (fun v hv => ?_) fun v hv => .inl ?_
  · rw [tariffs, TariffSlot.released_active_iff] at hi
    rw [tariffs, ne_eq, TariffSlot.released_active_iff]
    exact h.other_not_active hi
  · rw [tariffs] at hi
    rw [tariffs, tariffs, TariffSlot.released_active_iff]
    obtain ⟨retiring, left⟩ := TariffSlot.released_retiring hi
    obtain ⟨pinned, active⟩ := h.retiring i retiring
    exact ⟨left pinned, active⟩
  · rw [tariffs, TariffSlot.released_pins, h.pins, ← pinsOf, Nat.add_sub_cancel]
  · rw [tariffs]
    exact TariffSlot.released_holdsOn _ _
  · by_cases hg : v ∈ gone
    · rw [freed v hg]; rfl
    · rw [kept v hg] at hv ⊢; exact h.free v hv
  · have hg : v ∉ gone := fun hg => hv (by rw [freed v hg]; rfl)
    rw [kept v hg] at hv ⊢
    exact ⟨hv, rfl⟩

/-! ### Opening (R9, R123) -/

theorem TariffSlot.addPin_state (x : TariffSlot) : x.addPin.state = x.state := by
  cases x <;> rfl

theorem TariffSlot.addPin_pins {x : TariffSlot} (h : x.state = .active) : x.addPin.pins = x.pins + 1 := by
  cases x with
  | active g n => rfl
  | empty => cases h
  | pending g => cases h
  | retiring g n => cases h

theorem TariffSlot.contents_of_active {x : TariffSlot} (h : x.state = .active) :
    ∃ g, x.contents = some g ∧ x.generation = g.header.generation := by
  cases x with
  | active g n => exact ⟨g, rfl, rfl⟩
  | empty => cases h
  | pending g => cases h
  | retiring g n => cases h

/-- A FREE record becomes a live one that pins the ACTIVE slot (R9, R123). -/
theorem State.TariffsSound.opened (h : s.TariffsSound) {v : VisitSlot} {i : TariffIndex}
    (free : s.visits[v].state = .free) (active : s.tariffs[i].state = .active)
    (tariffs : t.tariffs = upd s.tariffs i fun x => x.addPin)
    (others : ∀ w : VisitSlot, w ≠ v → t.visits[w] = s.visits[w])
    (live : t.visits[v].state ≠ .free) (pin : t.visits[v].pin = some ⟨i, s.tariffs[i].generation⟩) :
    t.TariffsSound := by
  have slot : ∀ j : TariffIndex, t.tariffs[j] = if j = i then s.tariffs[i].addPin else s.tariffs[j] := fun j => by
    rw [tariffs]; exact upd_get _ _ _ _
  have state : ∀ j : TariffIndex, t.tariffs[j].state = s.tariffs[j].state := fun j => by
    rw [slot]
    split
    · next e => subst e; exact TariffSlot.addPin_state _
    · rfl
  have contents : ∀ j : TariffIndex, t.tariffs[j].contents = s.tariffs[j].contents := fun j => by
    rw [slot]
    split
    · next e => subst e; exact TariffSlot.addPin_contents _
    · rfl
  have pinsOf : ∀ j, t.pinsOf j = s.pinsOf j + if i = j then 1 else 0 := fun j => by
    have count := State.pinsOf_except (s := s) (t := t) (List.nodup_singleton v)
      (fun w hw => congrArg Visit.pin (others w fun e => hw (List.mem_singleton.2 e))) j
    rwa [List.map_singleton, List.map_singleton, h.free v free, pin, pinsOn_some] at count
  refine h.change (fun j => ?_) (fun j hj => ?_) (fun j => ?_) (fun j _ held => ?_) (fun w hw => ?_) fun w hw => ?_
  · rw [state, state]
    exact h.other_not_active
  · rw [state] at hj ⊢
    obtain ⟨pinned, beside⟩ := h.retiring j hj
    rw [slot, if_neg fun e => by rw [e, active] at hj; cases hj]
    exact ⟨pinned, beside⟩
  · rw [pinsOf, slot]
    split
    · next e => subst e; rw [if_pos rfl, TariffSlot.addPin_pins active, h.pins]
    · next other => rw [if_neg (Ne.symm other), h.pins, Nat.add_zero]
  · rw [state, contents]
    exact ⟨rfl, held⟩
  · have other : w ≠ v := fun e => live (e ▸ hw)
    rw [others w other] at hw ⊢
    exact h.free w hw
  · by_cases e : w = v
    · subst e
      obtain ⟨g, held, number⟩ := TariffSlot.contents_of_active active
      exact .inr ⟨_, pin, g, by rw [contents, held], number.symm, .inl ((state i).trans active)⟩
    · rw [others w e] at hw ⊢
      exact .inl ⟨hw, rfl⟩

end Sys2Proof.Machine

/-! ## What leaves the Tariff Store and the pins alone -/

namespace Sys2Proof.Machine

variable (s : State)

/-! ### Operations -/

theorem State.samePins_finish : s.SamePins s.finish := .of_visits s.finish_tariffs s.finish_visits

theorem State.samePins_modifyLane (l : Lane) (f : LanePort → LanePort) : s.SamePins (s.modifyLane l f) :=
  .of_visits rfl rfl

theorem State.samePins_latchPart (f : PartFlag) : s.SamePins (s.latchPart f) := .of_visits rfl rfl

theorem State.samePins_placeItem (e : ItemEntry) : s.SamePins (s.placeItem e) := by
  obtain ⟨_, _, _, e, -⟩ := s.placeItem_frame e
  rw [e]
  exact .of_visits rfl rfl

theorem State.samePins_offerRecord (r : ItemRecord) : s.SamePins (s.offerRecord r) := by
  obtain ⟨_, _, _, e, -⟩ := s.offerRecord_frame r
  rw [e]
  exact .of_visits rfl rfl

theorem State.samePins_removeItems (l : Lane) (o : ItemOutcome) (c : Choice) : s.SamePins (s.removeItems l o c) := by
  obtain ⟨_, _, _, e, -⟩ := s.removeItems_frame l o c
  rw [e]
  exact .of_visits rfl rfl

theorem State.samePins_latchLaneIf (l : Lane) (f : LaneFlag) (b : Bool) : s.SamePins (s.latchLaneIf l f b) := by
  obtain ⟨_, e, -⟩ := s.latchLaneIf_frame l f b
  rw [e]
  exact .of_visits rfl rfl

theorem State.samePins_takeFloat (a : AccountSlot) (f : Option Family) : s.SamePins (s.takeFloat a f) := by
  obtain ⟨_, e⟩ := s.takeFloat_frame a f
  rw [e]
  exact .of_visits rfl rfl

theorem State.samePins_addFloat (a : AccountSlot) (f : Family) (n : Nat) : s.SamePins (s.addFloat a f n) := by
  obtain ⟨_, e⟩ := s.addFloat_frame a f n
  rw [e]
  exact .of_visits rfl rfl

theorem State.samePins_settleSegments (h : TariffHeader) (v : SettleVisit) (k : Nat) (gs : List Segment) :
    s.SamePins (s.settleSegments h v k gs) := by
  obtain ⟨_, _, _, e, -⟩ := s.settleSegments_frame h v k gs
  rw [e]
  exact .of_visits rfl rfl

theorem State.samePins_setSegment (v : VisitSlot) (k : Nat) (g : Segment) : s.SamePins (s.setSegment v k g) :=
  .of_upd v (fun r => { r with segments := r.segments.set k g }) rfl rfl ⟨rfl, Iff.rfl⟩

theorem State.samePins_enterSettling {v : VisitSlot} (live : s.visits[v].state ≠ .free) :
    s.SamePins (s.enterSettling v) :=
  .of_upd v (fun r => { r with state := .settling, grace := 0 }) rfl rfl (.of_live rfl live nofun)

/-- A drain completes in CLOSING alone (R19). -/
theorem State.samePins_drainTagged (u : VisitTag) (n : Nat) : s.SamePins (s.drainTagged u n) := by
  have lowered : s.SamePins (s.lowerTagged u n) := by
    refine ⟨?_, fun v => by rw [s.lowerTagged_visit]; exact ⟨rfl, Iff.rfl⟩⟩
    obtain ⟨_, e⟩ := s.lowerTagged_frame u n
    rw [e]
  refine lowered.trans ?_
  rw [State.drainTagged]
  rcases (s.lowerTagged u n).completeDrain_cases u.slot with ⟨drained, e⟩ | ⟨-, e⟩
  · rw [e]
    have closing := ((State.drained_iff _ _).1 drained).1
    exact State.samePins_enterSettling _ (by rw [closing]; nofun)
  · rw [e]
    exact .refl _

theorem State.samePins_acceptReads (l : Lane) (es : List ReadEntry) : s.SamePins (s.acceptReads l es) := by
  refine ⟨?_, fun v => ?_⟩
  · obtain ⟨_, e⟩ := s.acceptReads_frame l es
    rw [e]
  · obtain ⟨_, e, -⟩ := s.acceptReads_visit l es v
    rw [e]
    exact ⟨rfl, Iff.rfl⟩

theorem Visit.left_state_ne_free (r : Visit) (c : CloseCause) (grace : Nat) : (r.left c grace).state ≠ .free := by
  unfold Visit.left
  dsimp only
  split <;> nofun

variable {s} in
theorem State.samePins_leaveOpen {v : VisitSlot} (opened : s.visits[v].state = .opened) (c : CloseCause) :
    s.SamePins (s.leaveOpen v c) := by
  rw [State.leaveOpen_eq]
  exact .of_upd v (fun r => r.left c s.graceSeconds) rfl rfl
    (.of_live rfl (by rw [opened]; nofun) (Visit.left_state_ne_free _ _ _))

theorem State.samePins_resetLane (l : Lane) : s.SamePins (s.resetLane l) := by
  obtain ⟨_, e⟩ := s.resetLane_eq l
  rw [e]
  have lowered : ∀ v : VisitSlot, (s.loweredOn l v).pin = s.visits[v].pin := fun v => by
    unfold State.loweredOn
    split <;> rfl
  refine ⟨rfl, fun v => ?_⟩
  simp only [ofFn_get]
  split
  · next drained =>
    have closing := ((s.mem_resetOrder l v).1 drained).1
    exact .of_live (lowered v) (by rw [closing]; nofun) nofun
  · exact ⟨lowered v, by rw [s.loweredOn_state]⟩

/-! ### Timers -/

variable {s}

theorem State.samePins_expireOpen {v : VisitSlot} (opened : s.visits[v].state = .opened) :
    s.SamePins (s.expireOpen v) :=
  ((State.samePins_leaveOpen opened _).trans (State.samePins_latchPart _ _)).trans (State.samePins_finish _)

theorem State.samePins_expireGrace {v : VisitSlot} (closing : s.visits[v].state = .closing) :
    s.SamePins (s.expireGrace v) := by
  obtain ⟨_, _, _, e, -⟩ := s.expireGrace_eq v
  rw [e]
  refine State.SamePins.trans ?_ (State.samePins_finish _)
  exact .of_upd v (fun r => { r with tagged := 0, state := .settling, grace := 0 }) rfl rfl
    (.of_live rfl (by rw [closing]; nofun) nofun)

theorem Visit.samePin_ticked (r : Visit) (grace : Nat) : r.SamePin (r.ticked grace) := by
  unfold Visit.ticked
  split
  · next opened =>
    split
    · exact .of_live rfl (by rw [opened]; nofun) (Visit.left_state_ne_free _ _ _)
    · exact ⟨rfl, Iff.rfl⟩
  · next closing =>
    split
    · exact .of_live rfl (by rw [closing]; nofun) nofun
    · exact ⟨rfl, Iff.rfl⟩
  · exact .refl r
  · exact .refl r

theorem State.samePins_tick : s.SamePins (allVisits.foldl State.tickVisit s) := by
  have ticked := s.foldl_tickVisit allVisits allVisits_nodup
  refine ⟨by rw [ticked.frame], fun v => ?_⟩
  rw [ticked.visits, if_pos (mem_allVisits v)]
  exact Visit.samePin_ticked _ _

/-! ### Arrivals on the lanes -/

theorem State.samePins_laneErrorArrival (l : Lane) : s.SamePins (s.laneErrorArrival l) := by
  unfold State.laneErrorArrival
  split
  · exact (s.samePins_modifyLane l _).trans (State.samePins_finish _)
  · exact .refl s

theorem State.samePins_overrunReads (l : Lane) (n : Nat) : s.SamePins (s.overrunReads l n).finish :=
  (s.samePins_modifyLane l _).trans (State.samePins_finish _)

theorem State.samePins_singleArrival (l : Lane) (r : SingleRead) : s.SamePins (s.singleArrival l r) := by
  unfold State.singleArrival
  split
  · exact .refl s
  split
  · exact State.samePins_laneErrorArrival l
  split
  · exact State.samePins_overrunReads l 1
  · exact (s.samePins_acceptReads l _).trans (State.samePins_finish _)

theorem State.samePins_stackArrival (l : Lane) (stack : Byte) (reads : List CrateRead) :
    s.SamePins (s.stackArrival l stack reads) := by
  unfold State.stackArrival
  split
  · exact .refl s
  split
  · exact State.samePins_laneErrorArrival l
  split
  · exact State.samePins_laneErrorArrival l
  split
  · exact State.samePins_laneErrorArrival l
  split
  · exact State.samePins_overrunReads l _
  · exact (s.samePins_acceptReads l _).trans (State.samePins_finish _)

theorem State.samePins_cancelArrival (l : Lane) (stack : Byte) : s.SamePins (s.cancelArrival l stack) := by
  have withdrawn : s.SamePins (s.withdrawStack l stack.toNat) := by
    unfold State.withdrawStack
    split
    · exact (s.samePins_removeItems l _ _).trans (State.samePins_drainTagged _ _ _)
    · exact s.samePins_removeItems l _ _
  unfold State.cancelArrival
  split
  · exact .refl s
  split
  · exact withdrawn.trans (State.samePins_finish _)
  · exact (s.samePins_modifyLane l _).trans (State.samePins_finish _)

theorem State.samePins_noticeArrival (l : Lane) (bytes : List Byte) : s.SamePins (s.noticeArrival l bytes) := by
  unfold State.noticeArrival
  split
  · exact .refl s
  split
  · exact State.samePins_laneErrorArrival l
  · exact (s.samePins_placeItem _).trans (State.samePins_finish _)

theorem State.samePins_laneLinkEvent (l : Lane) (e : LinkEvent) : s.SamePins (s.laneLinkEvent l e) := by
  cases e with
  | error => exact State.samePins_laneErrorArrival l
  | frame f =>
    unfold State.laneLinkEvent State.laneFrameArrival
    dsimp only
    split
    · exact State.samePins_singleArrival l _
    · exact State.samePins_stackArrival l _ _
    · exact State.samePins_cancelArrival l _
    · exact State.samePins_noticeArrival l _
    · exact State.samePins_laneErrorArrival l

/-! ### Grants -/

theorem State.samePins_commitItem (s : State) (l : Lane) (v : VisitSlot) (k : Nat) (enables : Conditions)
    (i : CommitItem) : s.SamePins (s.commitItem l v k enables i) := by
  unfold State.commitItem
  split
  · exact .refl s
  · exact ((((s.samePins_setSegment v k _).trans (State.samePins_takeFloat _ _ _)).trans
      (State.samePins_latchLaneIf _ l _ _)).trans (State.samePins_latchLaneIf _ l _ _)).trans
      (State.samePins_offerRecord _ _)

theorem State.samePins_commitItems (s : State) (l : Lane) (v : VisitSlot) (k : Nat) (enables : Conditions)
    (is : List CommitItem) : s.SamePins (s.commitItems l v k enables is) := by
  unfold State.commitItems
  induction is generalizing s with
  | nil => exact .refl s
  | cons i is ih => exact (s.samePins_commitItem l v k enables i).trans (ih _)

theorem State.samePins_commitStack (s : State) (l : Lane) (enables : Conditions) :
    s.SamePins (s.commitStack l enables) := by
  unfold State.commitStack
  split
  · exact .refl s
  · exact ((s.samePins_commitItems l _ _ _ _).trans (State.samePins_modifyLane _ l _)).trans
      (State.samePins_drainTagged _ _ _)

theorem State.samePins_grantOrphan (s : State) (l : Lane) (e : ReadEntry) : s.SamePins (s.grantOrphan l e) :=
  ((s.samePins_modifyLane l _).trans (State.samePins_modifyLane _ l _)).trans (State.samePins_offerRecord _ _)

theorem State.samePins_grantTagged (s : State) (l : Lane) (e : ReadEntry) (u : VisitTag) (c : GrantContext) :
    s.SamePins (s.grantTagged l e u c) := by
  unfold State.grantTagged
  dsimp only
  generalize price (s.findType e.tagCode) c.generation c.cls e = p
  have latched : s.SamePins (s.latchPricing l p) :=
    (s.samePins_latchLaneIf l _ _).trans (State.samePins_latchLaneIf _ l _ _)
  refine latched.trans ?_
  split
  · exact (State.samePins_commitItem _ _ _ _ _ _).trans (State.samePins_drainTagged _ _ _)
  · split
    · exact (State.samePins_modifyLane _ l _).trans (State.samePins_commitStack _ _ _)
    · exact State.samePins_modifyLane _ l _

theorem execGrant_samePins {t : State} (h : execGrant s = .next t) : s.SamePins t := by
  unfold execGrant at h
  split at h
  · cases h; exact .refl s
  next l _ =>
  split at h
  · cases h; exact .refl s
  next e rest _ =>
  have taken : s.SamePins (s.takeEntry l rest) := .of_visits rfl rfl
  split at h
  · cases h
    exact (taken.trans (State.samePins_grantOrphan _ l e)).trans (State.samePins_finish _)
  split at h
  · cases h
  · cases h
    exact (taken.trans (State.samePins_grantTagged _ l e _ _)).trans (State.samePins_finish _)

/-! ### Completions -/

theorem State.samePins_completeFirstFrame : s.SamePins s.completeFirstFrame := by
  unfold State.completeFirstFrame
  split
  · split
    · exact .of_visits rfl rfl
    · exact .refl s
  · exact .refl s
  · exact .refl s
  · exact .refl s

theorem State.samePins_completeMessage : s.SamePins s.completeMessage := by
  have dropped : ∀ q, s.SamePins ((s.dropOldest q).setTrunkTx .idle).finish := fun q => by
    refine .trans ?_ (State.samePins_finish _)
    cases q <;> exact .of_visits rfl rfl
  unfold State.completeMessage
  split
  · exact dropped _
  · exact dropped _
  · exact .refl s
  · exact .refl s

end Sys2Proof.Machine

/-! ## Every request keeps the Tariff Store sound -/

namespace Sys2Proof.Machine

variable {s : State}

/-! ### Answers -/

/-- The state that an answer leaves is one of a kind. -/
def Answer.Leads (a : Answer) (P : State → Prop) : Prop := P a.state

variable {P : State → Prop}

theorem refuse_leads (h : P s) (c : ResponseCode) (d : Detail) : (refuse s c d).Leads P := h

theorem accept_leads (h : P s) (d : Detail) : (accept s d).Leads P := h

theorem ite_leads {c : Prop} [Decidable c] {a b : Answer} (ha : c → a.Leads P) (hb : ¬ c → b.Leads P) :
    (if c then a else b).Leads P := by
  split
  · next h => exact ha h
  · next h => exact hb h

/-- A check that refuses, or lets the request go on. -/
theorem check_leads (h : P s) {c : Prop} [Decidable c] {code : ResponseCode} {d : Detail} {a : Answer}
    (go : ¬ c → a.Leads P) : (if c then refuse s code d else a).Leads P :=
  ite_leads (fun _ => refuse_leads h _ _) go

theorem withVisit_leads (h : P s) {n : Nat} {absent : Detail} {k : VisitSlot → Answer}
    (go : ∀ v, (k v).Leads P) : (withVisit s n absent k).Leads P := by
  unfold withVisit
  refine check_leads h fun _ => ?_
  split
  · exact refuse_leads h _ _
  · exact go _

theorem whenOpen_leads (h : P s) {v : VisitSlot} {a : Answer} (go : s.visits[v].state = .opened → a.Leads P) :
    (whenOpen s v a).Leads P :=
  ite_leads go fun _ => refuse_leads h _ _

theorem withAccount_leads (h : P s) {n : Nat} {k : AccountSlot → Answer} (go : ∀ a, (k a).Leads P) :
    (withAccount s n k).Leads P := by
  unfold withAccount
  refine check_leads h fun _ => ?_
  split
  · exact refuse_leads h _ _
  · exact go _

theorem Answer.Leads.tariffsSound {a : Answer} (same : a.Leads s.SamePins) (h : s.TariffsSound) :
    a.Leads State.TariffsSound := State.SamePins.tariffsSound same h

/-! ### Visits -/

theorem State.openVisitAt_tariffsSound (h : s.TariffsSound) {v : VisitSlot} {i : TariffIndex}
    (free : s.visits[v].state = .free) (active : s.tariffs[i].state = .active) (a : AccountSlot) (lanes : LaneSet)
    (minutes : Nat) : (s.openVisitAt v i a lanes minutes).TariffsSound := by
  refine h.opened free active (upd_congr rfl) (v := v) (fun w other => ?_) ?_ ?_
  all_goals
    simp only [State.openVisitAt, State.bindClaimed, State.addSegment, State.modifyVisit_visits, State.mapLanes_visits,
      State.modifyAccount_visits, State.setVisitCounter_visits, State.setTariff_visits]
  · simp only [upd_other _ _ _ _ other]
  · simp only [upd_same, newVisit]
    nofun
  · simp only [upd_same, newVisit]

theorem openVisit_tariffsSound (h : s.TariffsSound) (account : Nat) (lanes : Byte) (minutes : Nat) :
    (openVisit account lanes minutes s).Leads State.TariffsSound := by
  unfold openVisit
  split
  · exact refuse_leads h _ _
  refine check_leads h fun _ => ?_
  split
  · exact refuse_leads h _ _
  next i active =>
  split
  · exact refuse_leads h _ _
  next v slot =>
  split
  · exact refuse_leads h _ _
  split
  · exact refuse_leads h _ _
  · exact accept_leads (State.openVisitAt_tariffsSound h (State.freeSlot_eq_some.1 slot).1
      (State.state_of_activeTariff active) _ _ _) _

theorem bindLanes_samePins (visit : Nat) (lanes : Byte) : (bindLanes visit lanes s).Leads s.SamePins := by
  unfold bindLanes
  split
  · exact refuse_leads (.refl s) _ _
  next set _ =>
  refine withVisit_leads (.refl s) fun v => whenOpen_leads (.refl s) fun _ => ?_
  split
  · exact refuse_leads (.refl s) _ _
  · exact accept_leads (.of_upd v (fun r => { r with laneSet := r.laneSet ||| set }) rfl rfl ⟨rfl, Iff.rfl⟩) _

theorem releaseLanes_samePins (visit : Nat) (lanes : Byte) : (releaseLanes visit lanes s).Leads s.SamePins := by
  unfold releaseLanes
  split
  · exact refuse_leads (.refl s) _ _
  · next set _ =>
    exact withVisit_leads (.refl s) fun v => whenOpen_leads (.refl s) fun _ =>
      accept_leads (.of_upd v (fun r => { r with laneSet := r.laneSet &&& ~~~set }) rfl rfl ⟨rfl, Iff.rfl⟩) _

theorem nextSegment_samePins (visit account : Nat) : (nextSegment visit account s).Leads s.SamePins := by
  refine check_leads (.refl s) fun _ => withVisit_leads (.refl s) fun v => whenOpen_leads (.refl s) fun _ =>
    check_leads (.refl s) fun _ => ?_
  split
  · exact refuse_leads (.refl s) _ _
  · next a _ =>
    exact accept_leads (.of_upd v (fun r => { r with segments := r.segments ++ [newSegment a s.accounts[a]] })
      rfl rfl ⟨rfl, Iff.rfl⟩) _

theorem closeVisit_samePins (visit : Nat) : (closeVisit visit s).Leads s.SamePins :=
  withVisit_leads (.refl s) fun _ => whenOpen_leads (.refl s) fun opened =>
    accept_leads (State.samePins_leaveOpen opened _) _

theorem cancelVisit_tariffsSound (h : s.TariffsSound) (visit : Nat) :
    (cancelVisit visit s).Leads State.TariffsSound := by
  refine withVisit_leads h fun v => check_leads h fun _ => accept_leads ?_ _
  obtain ⟨_, _, _, e, -⟩ := s.cancelVisitAt_eq v
  rw [e]
  refine h.freed (List.nodup_singleton v) (fun w => ?_) fun i => ofFn_get _ i
  simp only [upd_get, List.mem_singleton]

theorem readVisit_samePins (key : VisitKey) (segment : Nat) : (readVisit key segment s).Leads s.SamePins := by
  cases key with
  | number n => exact withVisit_leads (.refl s) fun v => accept_leads (.refl s) _
  | slot n =>
    unfold readVisit
    dsimp only
    split
    · exact refuse_leads (.refl s) _ _
    · exact accept_leads (.refl s) _

/-! ### Lanes -/

theorem configureLane_samePins (lane enabled kind level reporting : Nat) :
    (configureLane lane enabled kind level reporting s).Leads s.SamePins := by
  unfold configureLane
  split
  · exact check_leads (.refl s) fun _ => check_leads (.refl s) fun _ => check_leads (.refl s) fun _ =>
      check_leads (.refl s) fun _ => accept_leads (s.samePins_modifyLane _ _) _
  · exact refuse_leads (.refl s) _ _

theorem laneReset_samePins (lane : Nat) : (laneReset lane s).Leads s.SamePins := by
  unfold laneReset
  split
  · exact refuse_leads (.refl s) _ _
  · exact accept_leads (s.samePins_resetLane _) _

theorem readLane_samePins (lane : Nat) : (readLane lane s).Leads s.SamePins := by
  unfold readLane
  split
  · exact refuse_leads (.refl s) _ _
  · exact accept_leads (.refl s) _

/-! ### Container types -/

theorem writeType_samePins (tagCode : Nat) (spec : TypeSpec) (family schedule : Nat) :
    (writeType tagCode spec family schedule s).Leads s.SamePins := by
  unfold writeType
  split
  · exact refuse_leads (.refl s) _ _
  · exact check_leads (.refl s) fun _ => accept_leads (.of_visits rfl rfl) _

theorem deleteType_samePins (tagCode : Nat) : (deleteType tagCode s).Leads s.SamePins := by
  refine check_leads (.refl s) fun _ => ?_
  split
  · exact refuse_leads (.refl s) _ _
  · exact accept_leads (.of_visits rfl rfl) _

theorem readTypeByTagCode_samePins (tagCode : Nat) : (readTypeByTagCode tagCode s).Leads s.SamePins := by
  refine check_leads (.refl s) fun _ => ?_
  split
  · exact refuse_leads (.refl s) _ _
  · exact accept_leads (.refl s) _

theorem readTypeByIndex_samePins (index : Nat) : (readTypeByIndex index s).Leads s.SamePins := by
  refine check_leads (.refl s) fun _ => ?_
  split
  · exact refuse_leads (.refl s) _ _
  · exact accept_leads (.refl s) _

/-! ### Tariffs -/

theorem loadWrite_tariffsSound (h : s.TariffsSound) (change : Generation → Generation)
    (detail : TariffIndex → Generation → Detail) : (loadWrite s change detail).Leads State.TariffsSound := by
  unfold loadWrite
  split
  · next slot => exact accept_leads (h.setTariff_unpinned (.inl (by rw [slot]; rfl)) (.inr rfl)) _
  · next g slot => exact accept_leads (h.setTariff_unpinned (.inr (by rw [slot]; rfl)) (.inr rfl)) _
  · exact refuse_leads h _ _
  · exact refuse_leads h _ _

theorem writeTariffHeader_tariffsSound (h : s.TariffsSound) (generation mode feeA feeB feeC feeD : Nat)
    (enables : Byte) : (writeTariffHeader generation mode feeA feeB feeC feeD enables s).Leads State.TariffsSound := by
  unfold writeTariffHeader
  split
  · exact check_leads h fun _ => loadWrite_tariffsSound h _ _
  · exact refuse_leads h _ _

theorem writeSchedule_tariffsSound (h : s.TariffsSound)
    (schedule defined depositA depositB depositC depositD bottle damaged ullage : Nat) :
    (writeSchedule schedule defined depositA depositB depositC depositD bottle damaged ullage s).Leads
      State.TariffsSound := by
  unfold writeSchedule
  split
  · exact check_leads h fun _ => loadWrite_tariffsSound h _ _
  · exact refuse_leads h _ _

theorem readTariff_samePins (slot part : Nat) : (readTariff slot part s).Leads s.SamePins := by
  unfold readTariff
  split
  · exact refuse_leads (.refl s) _ _
  refine check_leads (.refl s) fun _ => ?_
  split
  · exact accept_leads (.refl s) _
  split
  · exact accept_leads (.refl s) _
  · exact accept_leads (.refl s) _

theorem State.state_of_pendingTariff {i : TariffIndex} (h : s.pendingTariff = some i) :
    s.tariffs[i].state = .pending := by
  simpa using List.find?_some h

theorem promoteTariff_tariffsSound (h : s.TariffsSound) (expected : Nat) :
    (promoteTariff expected s).Leads State.TariffsSound := by
  refine check_leads h fun _ => ?_
  split
  · exact refuse_leads h _ _
  next i g found =>
  refine check_leads h fun _ => check_leads h fun _ => check_leads h fun _ => accept_leads ?_ _
  obtain ⟨j, pending, held⟩ := Option.bind_eq_some_iff.1 found
  obtain ⟨g', -, same⟩ := Option.map_eq_some_iff.1 held
  cases same
  exact h.promote (State.state_of_pendingTariff pending)

theorem discardPending_tariffsSound (h : s.TariffsSound) : (discardPending s).Leads State.TariffsSound := by
  unfold discardPending
  split
  · exact refuse_leads h _ _
  · next i pending =>
    exact accept_leads (h.setTariff_unpinned (.inr (State.state_of_pendingTariff pending)) (.inl rfl)) _

/-! ### Accounts -/

theorem writeAccount_samePins (slot account cls frozen ceiling : Nat) :
    (writeAccount slot account cls frozen ceiling s).Leads s.SamePins := by
  unfold writeAccount
  split
  · refine check_leads (.refl s) fun _ => ?_
    unfold writeAccountAt
    split
    · exact refuse_leads (.refl s) _ _
    · exact check_leads (.refl s) fun _ => accept_leads (.of_visits rfl rfl) _
  · exact refuse_leads (.refl s) _ _

theorem deleteAccount_samePins (account : Nat) : (deleteAccount account s).Leads s.SamePins :=
  withAccount_leads (.refl s) fun _ => check_leads (.refl s) fun _ => check_leads (.refl s) fun _ =>
    accept_leads (.of_visits rfl rfl) _

theorem readAccount_samePins (key : AccountKey) : (readAccount key s).Leads s.SamePins := by
  cases key with
  | number n => exact withAccount_leads (.refl s) fun a => accept_leads (.refl s) _
  | slot n =>
    unfold readAccount
    dsimp only
    split
    · exact refuse_leads (.refl s) _ _
    · exact accept_leads (.refl s) _

theorem issueContainers_samePins (account family count : Nat) :
    (issueContainers account family count s).Leads s.SamePins := by
  unfold issueContainers
  split
  · exact refuse_leads (.refl s) _ _
  · exact check_leads (.refl s) fun _ => withAccount_leads (.refl s) fun a =>
      accept_leads (s.samePins_addFloat a _ _) _

theorem setFloat_samePins (account family value : Nat) : (setFloat account family value s).Leads s.SamePins := by
  unfold setFloat
  split
  · exact refuse_leads (.refl s) _ _
  · exact check_leads (.refl s) fun _ => withAccount_leads (.refl s) fun a => accept_leads (.of_visits rfl rfl) _

theorem freezeRun_samePins (start count mark : Nat) : (freezeRun start count mark s).Leads s.SamePins := by
  unfold freezeRun
  split
  · exact refuse_leads (.refl s) _ _
  · exact check_leads (.refl s) fun _ =>
      accept_leads (.of_visits (s.freezeSlots_tariffs _ _ _) (s.freezeSlots_visits _ _ _)) _

theorem releaseHeld_samePins (account amount : Nat) : (releaseHeld account amount s).Leads s.SamePins :=
  check_leads (.refl s) fun _ => withAccount_leads (.refl s) fun _ => check_leads (.refl s) fun _ =>
    check_leads (.refl s) fun _ => accept_leads (.of_visits rfl rfl) _

/-! ### The part -/

theorem setMasks_samePins (part : Byte) (lanes : LaneMaskFields) : (setMasks part lanes s).Leads s.SamePins := by
  unfold setMasks
  split
  · exact accept_leads (.of_visits rfl rfl) _
  · exact refuse_leads (.refl s) _ _

theorem State.resetPart_tariffsSound (h : s.TariffsSound) : s.resetPart.TariffsSound := by
  obtain ⟨_, e, -⟩ := s.resetPart_eq
  rw [e]
  exact h.freed (allVisits_nodup.filter _) (fun v => ofFn_get _ v) fun i => ofFn_get _ i

/-- Every request's rule keeps the Tariff Store sound. -/
theorem answerTo_tariffsSound (h : s.TariffsSound) (r : Request) : (answerTo r s).Leads State.TariffsSound := by
  cases r with
  | openVisit a ls m => exact openVisit_tariffsSound h a ls m
  | bindLanes v ls => exact (bindLanes_samePins v ls).tariffsSound h
  | releaseLanes v ls => exact (releaseLanes_samePins v ls).tariffsSound h
  | nextSegment v a => exact (nextSegment_samePins v a).tariffsSound h
  | closeVisit v => exact (closeVisit_samePins v).tariffsSound h
  | cancelVisit v => exact cancelVisit_tariffsSound h v
  | readVisit k i => exact (readVisit_samePins k i).tariffsSound h
  | configureLane l en k lv rep => exact (configureLane_samePins l en k lv rep).tariffsSound h
  | laneReset l => exact (laneReset_samePins l).tariffsSound h
  | readLane l => exact (readLane_samePins l).tariffsSound h
  | writeType t spec f sch => exact (writeType_samePins t spec f sch).tariffsSound h
  | deleteType t => exact (deleteType_samePins t).tariffsSound h
  | readTypeByTagCode t => exact (readTypeByTagCode_samePins t).tariffsSound h
  | readTypeByIndex i => exact (readTypeByIndex_samePins i).tariffsSound h
  | writeTariffHeader g m a b c d en => exact writeTariffHeader_tariffsSound h g m a b c d en
  | writeSchedule k d a b c e bt f u => exact writeSchedule_tariffsSound h k d a b c e bt f u
  | readTariff t p => exact (readTariff_samePins t p).tariffsSound h
  | promoteTariff e => exact promoteTariff_tariffsSound h e
  | discardPending => exact discardPending_tariffsSound h
  | writeAccount sl a cl fr ce => exact (writeAccount_samePins sl a cl fr ce).tariffsSound h
  | deleteAccount a => exact (deleteAccount_samePins a).tariffsSound h
  | readAccount k => exact (readAccount_samePins k).tariffsSound h
  | issueContainers a f n => exact (issueContainers_samePins a f n).tariffsSound h
  | setFloat a f n => exact (setFloat_samePins a f n).tariffsSound h
  | freezeRun st n m => exact (freezeRun_samePins st n m).tariffsSound h
  | dayClose => exact h.of_visits s.clearPaid_tariffs s.clearPaid_visits
  | releaseHeld a n => exact (releaseHeld_samePins a n).tariffsSound h
  | identify => exact h
  | readStatus => exact h.of_visits rfl rfl
  | setMasks p ls => exact (setMasks_samePins p ls).tariffsSound h
  | setPartParameters g a => exact h.of_visits rfl rfl
  | partReset => exact State.resetPart_tariffsSound h

end Sys2Proof.Machine

/-! ## Every step keeps the Tariff Store sound -/

namespace Sys2Proof.Machine

variable {s t : State}

/-! ### Requests and frames on the trunk -/

theorem State.TariffsSound.finish (h : s.TariffsSound) : s.finish.TariffsSound := s.samePins_finish.tariffsSound h

theorem State.TariffsSound.latchPart (h : s.TariffsSound) (f : PartFlag) : (s.latchPart f).TariffsSound :=
  (s.samePins_latchPart f).tariffsSound h

theorem State.TariffsSound.serve (h : s.TariffsSound) (tag code : Byte) {m : State → Answer}
    (answer : (m s).Leads State.TariffsSound) : (s.serve tag code m).TariffsSound := by
  unfold State.serve
  split
  · have responded : ((m s).state.respond ⟨tag, code, (m s).code, (m s).detail⟩).TariffsSound :=
      State.TariffsSound.of_visits answer rfl rfl
    exact responded.finish
  · exact (h.latchPart _).finish

theorem State.TariffsSound.trunkFrameArrival (h : s.TariffsSound) (f : Frame) :
    (s.trunkFrameArrival f).TariffsSound := by
  have discarded : s.trunkError.TariffsSound := (h.latchPart _).finish
  unfold State.trunkFrameArrival
  split
  · split
    · refine h.serve _ _ ?_
      cases decodeRequest f.payload with
      | request r => exact answerTo_tariffsSound h r
      | unknown code => exact h
      | malformed _ => exact h
    · exact discarded
  · split
    · have offered : (s.mapLanes fun l p => if addressesLane f.address l then p.offer f else p).TariffsSound :=
        h.of_visits rfl rfl
      exact offered.finish
    · exact discarded

theorem State.TariffsSound.laneByte (h : s.TariffsSound) (l : Lane) (b : Byte) : (s.laneByte l b).TariffsSound := by
  unfold State.laneByte
  refine List.foldlRecOn _ _ ((s.samePins_modifyLane l _).tariffsSound h) fun t sound e _ => ?_
  exact (State.samePins_laneLinkEvent l e).tariffsSound sound

theorem State.TariffsSound.trunkByte (h : s.TariffsSound) (b : Byte) : (s.trunkByte b).TariffsSound := by
  have received : (s.setTrunkRx (s.trunkRx.receive b).2).TariffsSound := h.of_visits rfl rfl
  unfold State.trunkByte
  refine List.foldlRecOn _ _ received fun t sound e _ => ?_
  cases e with
  | error => exact (sound.latchPart _).finish
  | frame f => exact sound.trunkFrameArrival f

/-! ### Settlement and power-on reset -/

/-- The settled visit returns to FREE and its pin is released (R23, R148). -/
theorem State.TariffsSound.settleVisit (h : s.TariffsSound) (v : VisitSlot) (p : Pin) (header : TariffHeader) :
    (s.settleVisit v p header).TariffsSound := by
  unfold State.settleVisit
  dsimp only
  generalize SettleVisit.mk s.visits[v].number s.visits[v].segments.length p.generation s.visits[v].cause = x
  have settled : s.SamePins ((s.settleSegments header x 0 s.visits[v].segments).setSettleWait (s.settleWait.drop 1)) :=
    (s.samePins_settleSegments header x 0 _).trans (.of_visits rfl rfl)
  have sound := settled.tariffsSound h
  generalize (s.settleSegments header x 0 s.visits[v].segments).setSettleWait (s.settleWait.drop 1) = u at sound ⊢
  obtain ⟨_, e, -⟩ := u.freeVisit_eq v
  rw [e]
  refine sound.freed (List.nodup_singleton v) (fun w => ?_) fun i => ofFn_get _ i
  simp only [upd_get, List.mem_singleton]

theorem execSettlement_tariffsSound (h : s.TariffsSound) (e : execSettlement s = .next t) : t.TariffsSound := by
  unfold execSettlement at e
  split at e
  · cases e; exact h
  split at e
  · cases e; exact h
  split at e
  · split at e
    · cases e; exact (h.settleVisit _ _ _).finish
    · cases e
  · cases e

theorem State.powerOn_tariffsSound (s : State) : s.powerOn.TariffsSound :=
  State.reset_tariffsSound.of_visits rfl rfl

/-! ### Every command -/

theorem exec_tariffsSound (h : s.TariffsSound) (c : Instr) (e : exec c s = .next t) : t.TariffsSound := by
  have goes : ∀ {u : State}, u.TariffsSound → (Host.Outcome.next u : Host.Outcome State Fault Refusal) = .next t →
      t.TariffsSound := fun sound e => by cases e; exact sound
  have same : ∀ {u : State}, s.SamePins u → (Host.Outcome.next u : Host.Outcome State Fault Refusal) = .next t →
      t.TariffsSound := fun same => goes (same.tariffsSound h)
  have served : ∀ {tag code : Byte} (r : Request),
      (Host.Outcome.next (s.serve tag code (answerTo r)) : Host.Outcome State Fault Refusal) = .next t →
        t.TariffsSound := fun r => goes (h.serve _ _ (answerTo_tariffsSound h r))
  cases c with
  | powerOnReset => exact goes s.powerOn_tariffsSound e
  | openVisit tag account lanes minutes => exact served (.openVisit account lanes minutes) e
  | bindLanes tag visit lanes => exact served (.bindLanes visit lanes) e
  | releaseLanes tag visit lanes => exact served (.releaseLanes visit lanes) e
  | nextSegment tag visit account => exact served (.nextSegment visit account) e
  | closeVisit tag visit => exact served (.closeVisit visit) e
  | cancelVisit tag visit => exact served (.cancelVisit visit) e
  | readVisit tag key segment => exact served (.readVisit key segment) e
  | configureLane tag lane enabled kind level reporting =>
    exact served (.configureLane lane enabled kind level reporting) e
  | laneReset tag lane => exact served (.laneReset lane) e
  | readLane tag lane => exact served (.readLane lane) e
  | writeType tag tagCode spec family schedule => exact served (.writeType tagCode spec family schedule) e
  | deleteType tag tagCode => exact served (.deleteType tagCode) e
  | readTypeByTagCode tag tagCode => exact served (.readTypeByTagCode tagCode) e
  | readTypeByIndex tag index => exact served (.readTypeByIndex index) e
  | writeTariffHeader tag generation mode feeA feeB feeC feeD enables =>
    exact served (.writeTariffHeader generation mode feeA feeB feeC feeD enables) e
  | writeSchedule tag schedule defined depositA depositB depositC depositD bottle damaged ullage =>
    exact served (.writeSchedule schedule defined depositA depositB depositC depositD bottle damaged ullage) e
  | readTariff tag slot part => exact served (.readTariff slot part) e
  | promoteTariff tag expected => exact served (.promoteTariff expected) e
  | discardPending tag => exact served .discardPending e
  | writeAccount tag slot account cls frozen ceiling => exact served (.writeAccount slot account cls frozen ceiling) e
  | deleteAccount tag account => exact served (.deleteAccount account) e
  | readAccount tag key => exact served (.readAccount key) e
  | issueContainers tag account family count => exact served (.issueContainers account family count) e
  | setFloat tag account family value => exact served (.setFloat account family value) e
  | freezeRun tag start count mark => exact served (.freezeRun start count mark) e
  | dayClose tag => exact served .dayClose e
  | releaseHeld tag account amount => exact served (.releaseHeld account amount) e
  | identify tag => exact served .identify e
  | readStatus tag => exact served .readStatus e
  | setMasks tag part lanes => exact served (.setMasks part lanes) e
  | setPartParameters tag grace aging => exact served (.setPartParameters grace aging) e
  | partReset tag => exact served .partReset e
  | unknownRequest tag code =>
    refine goes ?_ e
    split
    · exact h
    · exact h.serve _ _ (refuse_leads h _ _)
  | requestOverrun =>
    refine goes ?_ e
    split
    · exact h
    · exact (h.latchPart _).finish
  | downstreamFrame frame => exact goes (h.trunkFrameArrival frame) e
  | trunkFrameError => exact goes (h.latchPart _).finish e
  | singleRead lane read => exact same (State.samePins_singleArrival lane read) e
  | stackFrame lane stack reads => exact same (State.samePins_stackArrival lane stack reads) e
  | stackCancel lane stack => exact same (State.samePins_cancelArrival lane stack) e
  | laneNotice lane bytes => exact same (State.samePins_noticeArrival lane bytes) e
  | laneFrameError lane => exact same (State.samePins_laneErrorArrival lane) e
  | grant => exact (execGrant_samePins e).tariffsSound h
  | tick => exact same State.samePins_tick e
  | openTimeExpiry slot =>
    refine goes ?_ e
    split
    · next due => exact (State.samePins_expireOpen ((Visit.openDue_iff _).1 due).1).tariffsSound h
    · exact h
  | graceExpiry slot =>
    refine goes ?_ e
    split
    · next due => exact (State.samePins_expireGrace ((Visit.graceDue_iff _).1 due).1).tariffsSound h
    · exact h
  | settlement => exact execSettlement_tariffsSound h e
  | laneFrameCompletion lane => exact same (s.samePins_modifyLane lane _) e
  | firstFrameCompletion => exact same State.samePins_completeFirstFrame e
  | messageCompletion => exact same State.samePins_completeMessage e
  | byteReceived link byte =>
    cases link with
    | lane l => exact goes (h.laneByte l byte) e
    | trunk => exact goes (h.trunkByte byte) e

/-- Settles O14: the Tariff Store changes by loads, discards and promotions, and pins by visits that open and visits
that return to FREE; each of these changes keeps it sound. -/
theorem tariffsKept : Obligations.TariffsKept := by
  unfold Obligations.TariffsKept
  intro s t h e
  unfold step at e
  split at e
  · cases e; exact h
  · next c rest _ =>
    have waiting : (s.setPending rest).TariffsSound := h.of_visits rfl rfl
    exact exec_tariffsSound waiting c e

end Sys2Proof.Machine

/-! ## Loading, promoting and discarding a generation (chapter 6) -/

namespace Sys2Proof.Machine

variable {s : State} {i : TariffIndex} {g : Generation}

/-! ### Write Tariff Header and Write Schedule (R114 to R117) -/

theorem modeOf_code (m : RoundingMode) : modeOf m.code = some m := by
  cases m <;> rfl

theorem modeOf_eq_none {n : Nat} (h : 3 < n) : modeOf n = none := by
  obtain ⟨k, rfl⟩ := Nat.exists_eq_add_of_lt h
  rw [show 3 + k + 1 = k + 4 by omega]
  rfl

theorem enablesOf_eq_none {b : Byte} (h : 8 ≤ b.toNat) : enablesOf b = none := if_neg (Nat.not_lt.2 h)

theorem enablesOf_eq_some {b : Byte} (h : b.toNat < 8) : enablesOf b = some (b.setWidth 3) := if_pos h

/-- The load slot is the one that is not ACTIVE, or slot 0 when none is (R114). -/
theorem State.loadSlot_eq (h : s.NoneActive ∧ i = 0 ∨ ∃ o, s.OneActive o ∧ i = otherTariff o) : s.loadSlot = i := by
  unfold State.loadSlot
  rcases h with ⟨none, rfl⟩ | ⟨o, one, rfl⟩
  · rw [State.activeTariff_eq_none.2 none]
  · rw [State.activeTariff_of_oneActive one]

section load

variable {change : Generation → Generation} {detail : TariffIndex → Generation → Detail} (load : s.loadSlot = i)

include load

theorem loadWrite_retiring {p : Nat} (slot : s.tariffs[i] = .retiring g p) :
    loadWrite s change detail = refuse s .tariffBusy (.tariffBusy i g.header.generation p) := by
  subst load
  rw [loadWrite, slot]

/-- A PENDING slot is written as it stands, and an EMPTY one is prepared first (R115). -/
theorem loadWrite_loads (slot : s.tariffs[i] = .pending g ∨ (s.tariffs[i] = .empty ∧ g = Generation.blank)) :
    loadWrite s change detail = accept (s.setTariff i (.pending (change g))) (detail i (change g)) := by
  subst load
  rcases slot with slot | ⟨slot, rfl⟩ <;> rw [loadWrite, slot]

end load

theorem writeTariffHeader_malformed {n mode a b c d : Nat} {enables : Byte}
    (h : 65535 < n ∨ 3 < mode ∨ 10000 < a ∨ 10000 < b ∨ 10000 < c ∨ 10000 < d ∨ 8 ≤ enables.toNat) :
    writeTariffHeader n mode a b c d enables s = refuse s .malformed .empty := by
  unfold writeTariffHeader
  split
  · next m en hm hen =>
    have mode_le : mode ≤ 3 := Nat.not_lt.1 fun high => by rw [modeOf_eq_none high] at hm; cases hm
    have enables_lt : enables.toNat < 8 := Nat.not_le.1 fun high => by rw [enablesOf_eq_none high] at hen; cases hen
    refine if_pos ?_
    simp only [Bool.or_eq_true, decide_eq_true_eq, Config.top16]
    omega
  · rfl

theorem writeTariffHeader_in_range {n a b c d : Nat} {enables : Byte} (hn : n ≤ 65535) (ha : a ≤ 10000)
    (hb : b ≤ 10000) (hc : c ≤ 10000) (hd : d ≤ 10000) (he : enables.toNat < 8) (m : RoundingMode) :
    writeTariffHeader n m.code a b c d enables s = loadWrite s
      (fun g => { g with header := ⟨n, m, ⟨a, b, c, d⟩, enables.setWidth 3⟩ })
      (fun t g => .headerWritten t .pending g.header.generation) := by
  rw [writeTariffHeader, modeOf_code, enablesOf_eq_some he]
  refine if_neg ?_
  simp only [Bool.or_eq_true, decide_eq_true_eq, Config.top16]
  omega

theorem writeSchedule_malformed {schedule defined a b c d bottle damaged ullage : Nat}
    (h : 15 < schedule ∨ 1 < defined ∨ 65535 < a ∨ 65535 < b ∨ 65535 < c ∨ 65535 < d ∨ 65535 < bottle ∨
      100 < damaged ∨ 65535 < ullage) :
    writeSchedule schedule defined a b c d bottle damaged ullage s = refuse s .malformed .empty := by
  unfold writeSchedule
  split
  · next k on hk hon =>
    have schedule_le : schedule ≤ 15 := Nat.not_lt.1 fun high => by rw [scheduleOf_eq_none high] at hk; cases hk
    have defined_le : defined ≤ 1 := Nat.not_lt.1 fun high => by rw [switchOf_eq_none high] at hon; cases hon
    refine if_pos ?_
    simp only [Bool.or_eq_true, decide_eq_true_eq, Config.top16]
    omega
  · rfl

theorem writeSchedule_in_range (k : Fin 16) {defined a b c d bottle damaged ullage : Nat} (hdef : defined ≤ 1)
    (ha : a ≤ 65535) (hb : b ≤ 65535) (hc : c ≤ 65535) (hd : d ≤ 65535) (hbottle : bottle ≤ 65535)
    (hdamaged : damaged ≤ 100) (hullage : ullage ≤ 65535) :
    writeSchedule k.val defined a b c d bottle damaged ullage s = loadWrite s
      (fun g => { g with
        schedules := upd g.schedules k (fun _ => ⟨decide (defined = 1), ⟨a, b, c, d⟩, bottle, damaged, ullage⟩) })
      (fun t _ => .scheduleWritten t k.val .pending) := by
  rw [writeSchedule, scheduleOf_val, switchOf_eq_some hdef]
  refine if_neg ?_
  simp only [Bool.or_eq_true, decide_eq_true_eq, Config.top16]
  omega

/-- Settles O34: a request in range is a write on the load slot, which a RETIRING slot refuses. -/
theorem tariffWritesLoad : Obligations.TariffWritesLoad := by
  unfold Obligations.TariffWritesLoad
  intro s tag enables n mode a b c d schedule defined bottle damaged ullage t room slot
  have load := State.loadSlot_eq slot
  refine ⟨fun bad => State.serve_refuse room (writeTariffHeader_malformed bad),
    fun hn ha hb hc hd he m hm => ?header,
    fun bad => State.serve_refuse room (writeSchedule_malformed bad),
    fun k hk hdef ha hb hc hd hbottle hdamaged hullage => ?schedule⟩
  case header =>
    obtain rfl : mode = m.code := by rw [hm]; cases m <;> rfl
    have meaning := writeTariffHeader_in_range (s := s) hn ha hb hc hd he m
    exact ⟨fun g p busy => State.serve_refuse room (meaning.trans (loadWrite_retiring load busy)),
      fun g loads => State.next_serve_accept room (meaning.trans (loadWrite_loads load loads))⟩
  case schedule =>
    subst hk
    have meaning := writeSchedule_in_range (s := s) k hdef ha hb hc hd hbottle hdamaged hullage
    exact ⟨fun g p busy => State.serve_refuse room (meaning.trans (loadWrite_retiring load busy)),
      fun g loads => State.next_serve_accept room (meaning.trans (loadWrite_loads load loads))⟩

/-! ### The check value (R119) -/

theorem Generation.checkValue_eq (g : Generation) : g.checkValue =
    (g.header.generation + g.header.mode.code + g.header.fees.a + g.header.fees.b + g.header.fees.c +
      g.header.fees.d + g.header.enables.toNat + ((List.finRange 16).map (fun k =>
        (if g.schedules[k].defined then 1 else 0) + g.schedules[k].deposits.a + g.schedules[k].deposits.b +
        g.schedules[k].deposits.c + g.schedules[k].deposits.d + g.schedules[k].bottle + g.schedules[k].damaged +
        g.schedules[k].ullage)).sum) % 65536 := by
  have schedules : g.schedules.toList = (List.finRange 16).map fun k => g.schedules[k] := by
    rw [← List.ofFn_eq_map, ← Vector.toList_ofFn]
    exact congrArg Vector.toList (vector_ext fun k => (ofFn_get (fun k => g.schedules[k]) k).symm)
  rw [Generation.checkValue, schedules, List.map_map]
  simp only [Function.comp_def, Schedule.sum, TariffHeader.sum, PerClass.sum, Nat.add_assoc]

/-! ### The slots that Promote Tariff and Discard Pending look at (R111, R120) -/

theorem State.pendingTariff_eq_none (h : ∀ t : TariffIndex, s.tariffs[t].state ≠ .pending) :
    s.pendingTariff = none :=
  List.find?_eq_none.2 fun t _ => by simpa using h t

section pending

variable (slot : s.tariffs[i] = .pending g)

include slot

theorem State.pendingTariff_eq_some (other : s.tariffs[otherTariff i].state ≠ .pending) :
    s.pendingTariff = some i := by
  have pending : s.tariffs[i].state = .pending := by rw [slot]; rfl
  cases found : s.pendingTariff with
  | none =>
    have none := List.find?_eq_none.1 found i (by rcases tariffIndex_cases i with rfl | rfl <;> simp)
    exact absurd pending (by simpa using none)
  | some j =>
    by_cases same : j = i
    · rw [same]
    · exact absurd (State.state_of_pendingTariff found) (eq_otherTariff same ▸ other)

theorem State.activeTariff_beside (active : s.tariffs[otherTariff i].state = .active) :
    s.activeTariff = some (otherTariff i) := by
  refine State.activeTariff_of_oneActive fun o => ⟨fun h => eq_otherTariff fun same => ?_, fun h => h ▸ active⟩
  rw [same, slot] at h
  cases h

theorem State.activeTariff_eq_none_beside (idle : s.tariffs[otherTariff i].state ≠ .active) :
    s.activeTariff = none := by
  refine State.activeTariff_eq_none.2 fun o active => ?_
  by_cases same : o = i
  · rw [same, slot] at active
    cases active
  · exact idle (eq_otherTariff same ▸ active)

theorem State.activeGenerationIs_iff (n : Nat) : s.activeGenerationIs n = true ↔
    s.tariffs[otherTariff i].state = .active ∧ s.tariffs[otherTariff i].generation = n := by
  unfold State.activeGenerationIs
  by_cases active : s.tariffs[otherTariff i].state = .active
  · rw [State.activeTariff_beside slot active, Option.any_some, beq_iff_eq, and_iff_right active]
  · rw [State.activeTariff_eq_none_beside slot active]
    exact iff_of_false nofun fun h => active h.1

/-- The promotion beside a slot that is not ACTIVE (R121). -/
theorem State.promote_alone (idle : s.tariffs[otherTariff i].state ≠ .active) :
    s.promote i g = { s with tariffs := upd s.tariffs i (fun _ => .active g 0) } ∧ s.formerSlot = none := by
  rw [State.promote, State.formerSlot, State.activeTariff_eq_none_beside slot idle]
  exact ⟨rfl, rfl⟩

/-- The promotion beside an ACTIVE slot, which is RETIRING while it has pins (R121). -/
theorem State.promote_beside {g' : Generation} {pins : Nat} (former : s.tariffs[otherTariff i] = .active g' pins) :
    s.promote i g = { s with
      tariffs := upd (upd s.tariffs (otherTariff i) (fun _ =>
        if 0 < pins then .retiring g' pins else .empty)) i (fun _ => .active g 0) } ∧
    s.formerSlot = some (otherTariff i, if 0 < pins then .retiring else .empty, pins) := by
  have active : s.tariffs[otherTariff i].state = .active := by rw [former]; rfl
  have state : (TariffSlot.active g' pins).superseded.state = if 0 < pins then .retiring else .empty :=
    apply_ite TariffSlot.state _ _ _
  rw [State.promote, State.formerSlot, State.activeTariff_beside slot active]
  dsimp only [Option.map_some]
  rw [former, state, TariffSlot.superseded_pins]
  exact ⟨rfl, rfl⟩

end pending

/-! ### Promote Tariff and Discard Pending (R120 to R122) -/

theorem promoteTariff_malformed {expected : Nat} (h : 65535 < expected) :
    promoteTariff expected s = refuse s .malformed .empty := if_pos h

theorem promoteTariff_none {expected : Nat} (h : expected ≤ 65535)
    (none : ∀ t : TariffIndex, s.tariffs[t].state ≠ .pending) :
    promoteTariff expected s = refuse s .wrongState s.tariffStates := by
  rw [promoteTariff, State.pendingTariff_eq_none none]
  exact if_neg (Nat.not_lt.2 h)

/-- The checks of Promote Tariff on the PENDING slot, in their order (R120). -/
theorem promoteTariff_pending {expected : Nat} (h : expected ≤ 65535) (slot : s.tariffs[i] = .pending g)
    (other : s.tariffs[otherTariff i].state ≠ .pending) : promoteTariff expected s =
      if g.header.generation = 0 then refuse s .wrongState s.tariffStates
      else if s.activeGenerationIs g.header.generation then refuse s .wrongState s.tariffStates
      else if g.checkValue ≠ expected then refuse s .checkMismatch (.checkMismatch i expected g.checkValue)
      else accept (s.promote i g) (.promoted i g.header.generation g.checkValue s.formerSlot) := by
  have found : s.pendingTariff.bind (fun t => s.tariffs[t].contents.map (fun g => (t, g))) = some (i, g) := by
    rw [State.pendingTariff_eq_some slot other, Option.bind_some, slot]
    rfl
  rw [promoteTariff, found]
  exact if_neg (Nat.not_lt.2 h)

theorem discardPending_none (none : ∀ t : TariffIndex, s.tariffs[t].state ≠ .pending) :
    discardPending s = refuse s .wrongState s.tariffStates := by
  rw [discardPending, State.pendingTariff_eq_none none]

theorem discardPending_pending (slot : s.tariffs[i] = .pending g)
    (other : s.tariffs[otherTariff i].state ≠ .pending) :
    discardPending s = accept (s.setTariff i .empty) (.pendingDiscarded i) := by
  rw [discardPending, State.pendingTariff_eq_some slot other]

/-- Settles O35: each check of a promotion in turn, those before it passed. -/
theorem promoteAndDiscard : Obligations.PromoteAndDiscard := by
  unfold Obligations.PromoteAndDiscard
  intro s tag expected room x states
  refine ⟨fun high => State.serve_refuse room (promoteTariff_malformed high), fun none =>
    ⟨fun h => State.serve_refuse room (promoteTariff_none h none), State.serve_refuse room (discardPending_none none)⟩,
    fun t g slot other => ⟨State.next_serve_accept room (discardPending_pending slot other), fun h check value => ?_⟩⟩
  obtain rfl : check = g.checkValue := value.trans g.checkValue_eq.symm
  have meaning := promoteTariff_pending h slot other
  refine ⟨fun zero => State.serve_refuse room (meaning.trans (if_pos zero)), fun active same => ?_,
    fun nonzero fresh => ?_⟩
  · refine State.serve_refuse room (meaning.trans ?_)
    rw [if_pos ((State.activeGenerationIs_iff slot _).2 ⟨active, same⟩), ite_self]
    rfl
  · rw [if_neg nonzero, if_neg fun same => by
      obtain ⟨active, same⟩ := (State.activeGenerationIs_iff slot _).1 same
      exact fresh active same] at meaning
    refine ⟨fun differs => State.serve_refuse room (meaning.trans (if_pos differs)), fun equal => ?_⟩
    rw [if_neg (not_not.2 equal)] at meaning
    refine ⟨fun idle => ?_, fun g' pins former => ?_⟩
    · obtain ⟨promoted, none⟩ := State.promote_alone slot idle
      rw [promoted, none] at meaning
      exact State.next_serve_accept room meaning
    · obtain ⟨promoted, some⟩ := State.promote_beside slot former
      rw [promoted, some] at meaning
      exact State.next_serve_accept room meaning

end Sys2Proof.Machine

/-! ## Use counts: the changes that keep them exact (R4, R23, R130) -/

namespace Sys2Proof.Machine

variable {s t : State}

/-! ### Segments and account slots, one visit and one account at a time -/

/-- A record whose segments name the same account slots, and that is FREE only where it was. -/
structure Visit.SameUses (r r' : Visit) : Prop where
  slots : r'.segments.map Segment.accountSlot = r.segments.map Segment.accountSlot
  free : r'.state = .free → r.state = .free

/-- An account slot with the same use count, and that is empty only where it was or where nothing uses it. -/
structure Account.SameUses (r r' : Account) : Prop where
  useCount : r'.useCount = r.useCount
  empty : r'.number = 0 → r.number = 0 ∨ r.useCount = 0

theorem Visit.uses_eq_count (r : Visit) (a : AccountSlot) :
    r.uses a = (r.segments.map Segment.accountSlot).count a := by
  rw [Visit.uses, List.count, List.countP_map]
  rfl

theorem Visit.SameUses.uses {r r' : Visit} (h : r.SameUses r') (a : AccountSlot) : r'.uses a = r.uses a := by
  rw [Visit.uses_eq_count, h.slots, Visit.uses_eq_count]

theorem Visit.free_uses (a : AccountSlot) : Visit.free.uses a = 0 := rfl

/-- How the number of segments that name a slot changes where one record changes. -/
theorem State.usesOf_except {v : VisitSlot} (others : ∀ w : VisitSlot, w ≠ v → t.visits[w] = s.visits[w])
    (a : AccountSlot) : t.usesOf a + s.visits[v].uses a = s.usesOf a + t.visits[v].uses a := by
  have split : ∀ u : State, u.usesOf a = u.visits[v].uses a + ∑ w ∈ Finset.univ.erase v, u.visits[w].uses a :=
    fun u => ((Finset.add_sum_erase _ (fun w : VisitSlot => u.visits[w].uses a) (Finset.mem_univ v)).trans
      (Fin.sum_univ_def _)).symm
  have rest : ∑ w ∈ Finset.univ.erase v, t.visits[w].uses a = ∑ w ∈ Finset.univ.erase v, s.visits[w].uses a :=
    Finset.sum_congr rfl fun w hw => by rw [others w (Finset.ne_of_mem_erase hw)]
  rw [split s, split t, rest]
  omega

theorem State.uses_le_usesOf (s : State) (v : VisitSlot) (a : AccountSlot) : s.visits[v].uses a ≤ s.usesOf a :=
  List.single_le_sum (fun _ _ => Nat.zero_le _) _ (List.mem_map_of_mem (mem_allVisits v))

/-- Use counts stay exact where every record names the slots that it named and every account keeps its count. -/
theorem State.UseCountsExact.same (h : s.UseCountsExact)
    (visits : ∀ v : VisitSlot, Visit.SameUses s.visits[v] t.visits[v])
    (accounts : ∀ a : AccountSlot, Account.SameUses s.accounts[a] t.accounts[a]) : t.UseCountsExact where
  free v hv := by
    have slots := (visits v).slots
    rw [h.free v ((visits v).free hv)] at slots
    exact List.map_eq_nil_iff.1 slots
  exact a := by
    have uses : t.usesOf a = s.usesOf a := by simp only [State.usesOf, (visits _).uses]
    rw [uses, (accounts a).useCount]
    exact h.exact a
  empty a ha := by
    rw [(accounts a).useCount]
    exact ((accounts a).empty ha).elim (h.empty a) id

/-- Use counts stay exact where the segments of one record change and the counts follow them. -/
theorem State.UseCountsExact.change (h : s.UseCountsExact) {v : VisitSlot}
    (others : ∀ w : VisitSlot, w ≠ v → t.visits[w] = s.visits[w])
    (free : t.visits[v].state = .free → t.visits[v].segments = [])
    (follows : ∀ a : AccountSlot,
      t.accounts[a].useCount + s.visits[v].uses a = s.accounts[a].useCount + t.visits[v].uses a)
    (empty : ∀ a : AccountSlot, t.accounts[a].number = 0 → t.accounts[a].useCount = 0) : t.UseCountsExact where
  free w hw := by
    by_cases e : w = v
    · subst e; exact free hw
    · rw [others w e] at hw ⊢; exact h.free w hw
  exact a := by
    have count := State.usesOf_except others a
    have followed := follows a
    rw [h.exact a] at followed
    omega
  empty := empty

/-! ### Changes that leave segments and use counts alone -/

section keeps

variable (h : s.UseCountsExact)

include h

theorem State.UseCountsExact.of_frame (visits : t.visits = s.visits) (accounts : t.accounts = s.accounts) :
    t.UseCountsExact :=
  h.same (fun v => by rw [visits]; exact ⟨rfl, id⟩) fun a => by rw [accounts]; exact ⟨rfl, .inl⟩

theorem State.UseCountsExact.modifyVisit (v : VisitSlot) {f : Visit → Visit}
    (keeps : Visit.SameUses s.visits[v] (f s.visits[v])) : (s.modifyVisit v f).UseCountsExact :=
  h.same (fun w => by
    rw [State.modifyVisit_visits, upd_get]
    split
    · next e => subst e; exact keeps
    · exact ⟨rfl, id⟩) fun _ => ⟨rfl, .inl⟩

theorem State.UseCountsExact.modifyAccount (a : AccountSlot) {f : Account → Account}
    (keeps : Account.SameUses s.accounts[a] (f s.accounts[a])) : (s.modifyAccount a f).UseCountsExact :=
  h.same (fun _ => ⟨rfl, id⟩) fun b => by
    rw [State.modifyAccount_accounts, upd_get]
    split
    · next e => subst e; exact keeps
    · exact ⟨rfl, .inl⟩

theorem State.UseCountsExact.finish : s.finish.UseCountsExact := h.of_frame s.finish_visits s.finish_accounts

theorem State.UseCountsExact.modifyLane (l : Lane) (f : LanePort → LanePort) : (s.modifyLane l f).UseCountsExact :=
  h.of_frame rfl rfl

theorem State.UseCountsExact.latchPart (f : PartFlag) : (s.latchPart f).UseCountsExact := h.of_frame rfl rfl

theorem State.UseCountsExact.latchPartIf (f : PartFlag) (b : Bool) : (s.latchPartIf f b).UseCountsExact := by
  rw [State.latchPartIf_eq]
  exact h.of_frame rfl rfl

theorem State.UseCountsExact.latchLaneIf (l : Lane) (f : LaneFlag) (b : Bool) :
    (s.latchLaneIf l f b).UseCountsExact := by
  obtain ⟨_, e, -⟩ := s.latchLaneIf_frame l f b
  rw [e]
  exact h.of_frame rfl rfl

theorem State.UseCountsExact.placeItem (e : ItemEntry) : (s.placeItem e).UseCountsExact := by
  obtain ⟨_, _, _, e, -⟩ := s.placeItem_frame e
  rw [e]
  exact h.of_frame rfl rfl

theorem State.UseCountsExact.offerRecord (r : ItemRecord) : (s.offerRecord r).UseCountsExact := by
  obtain ⟨_, _, _, e, -⟩ := s.offerRecord_frame r
  rw [e]
  exact h.of_frame rfl rfl

theorem State.UseCountsExact.removeItems (l : Lane) (o : ItemOutcome) (c : Choice) :
    (s.removeItems l o c).UseCountsExact := by
  obtain ⟨_, _, _, e, -⟩ := s.removeItems_frame l o c
  rw [e]
  exact h.of_frame rfl rfl

theorem State.UseCountsExact.purgeVisit (o : ItemOutcome) (u : VisitTag) : (s.purgeVisit o u).UseCountsExact := by
  obtain ⟨_, _, _, _, e, -⟩ := s.purgeVisit_frame o u
  rw [e]
  exact h.of_frame rfl rfl

/-! ### Tagged counts, lanes and states of visits -/

theorem State.UseCountsExact.lowerTagged (u : VisitTag) (n : Nat) : (s.lowerTagged u n).UseCountsExact := by
  unfold State.lowerTagged
  split
  · exact h.modifyVisit _ ⟨rfl, id⟩
  · exact h

theorem State.UseCountsExact.acceptReads (l : Lane) (es : List ReadEntry) : (s.acceptReads l es).UseCountsExact := by
  obtain ⟨_, e⟩ := s.acceptReads_frame l es
  refine h.same (fun v => ?_) fun a => by rw [e]; exact ⟨rfl, .inl⟩
  obtain ⟨_, visit, -⟩ := s.acceptReads_visit l es v
  rw [visit]
  exact ⟨rfl, id⟩

theorem State.UseCountsExact.enterSettling (v : VisitSlot) : (s.enterSettling v).UseCountsExact :=
  (h.modifyVisit v (f := fun r => { r with state := .settling, grace := 0 }) ⟨rfl, nofun⟩).of_frame rfl rfl

theorem State.UseCountsExact.completeDrain (v : VisitSlot) : (s.completeDrain v).UseCountsExact := by
  rcases s.completeDrain_cases v with ⟨-, e⟩ | ⟨-, e⟩ <;> rw [e]
  · exact h.enterSettling v
  · exact h

theorem State.UseCountsExact.drainTagged (u : VisitTag) (n : Nat) : (s.drainTagged u n).UseCountsExact :=
  (h.lowerTagged u n).completeDrain _

theorem State.UseCountsExact.clearTagged (v : VisitSlot) : (s.clearTagged v).UseCountsExact :=
  h.modifyVisit v ⟨rfl, id⟩

theorem State.UseCountsExact.giveUpLanes (v : VisitSlot) : (s.giveUpLanes v).UseCountsExact := by
  have unbound : (s.unbindLanes s.visits[v].laneSet).UseCountsExact := h.of_frame rfl rfl
  exact unbound.modifyVisit v ⟨rfl, id⟩

theorem State.UseCountsExact.leaveOpen (v : VisitSlot) (c : CloseCause) : (s.leaveOpen v c).UseCountsExact :=
  ((h.giveUpLanes v).modifyVisit v (f := fun r => { r with cause := c, state := .closing, grace := s.graceSeconds })
    ⟨rfl, nofun⟩).completeDrain v

theorem State.UseCountsExact.resetLane (l : Lane) : (s.resetLane l).UseCountsExact := by
  have lowered : (s.lowerForLane l).UseCountsExact :=
    List.foldlRecOn _ _ h fun t kept v _ => kept.lowerTagged _ _
  have settled := List.foldlRecOn (orderByRank s.freeIndex (s.drainedByReset l)) State.enterSettling
    (motive := State.UseCountsExact) (lowered.modifyLane l LanePort.cleared) fun t kept v _ => kept.enterSettling v
  exact settled.of_frame rfl rfl

/-! ### Floats and money -/

theorem State.UseCountsExact.setFloatValue (a : AccountSlot) (f : Family) (n : Nat) :
    (s.setFloatValue a f n).UseCountsExact := h.modifyAccount a ⟨rfl, .inl⟩

theorem State.UseCountsExact.addFloat (a : AccountSlot) (f : Family) (n : Nat) : (s.addFloat a f n).UseCountsExact :=
  (h.setFloatValue a f _).latchPartIf _ _

theorem State.UseCountsExact.takeFloat (a : AccountSlot) (f : Option Family) : (s.takeFloat a f).UseCountsExact := by
  cases f with
  | none => exact h
  | some f => exact h.setFloatValue a f _

theorem State.UseCountsExact.addBack (gs : List Segment) : (s.addBack gs).UseCountsExact :=
  List.foldlRecOn _ _ h fun _ kept g _ => List.foldlRecOn _ _ kept fun _ kept f _ => kept.addFloat g.accountSlot f _

theorem State.UseCountsExact.settleSegment (header : TariffHeader) (x : SettleVisit) (k : Nat) (g : Segment) :
    (s.settleSegment header x k g).UseCountsExact := by
  obtain ⟨_, e⟩ := s.settleSegment_frame header x k g
  rw [e]
  exact (h.modifyAccount g.accountSlot (f := fun a => a.settle (amountsOf header s.accounts[g.accountSlot] g))
    ⟨rfl, .inl⟩).of_frame rfl rfl

/-! ### Segments that open, and records that return to FREE -/

theorem State.UseCountsExact.setSegment {v : VisitSlot} {k : Nat} {g g' : Segment}
    (hk : s.visits[v].segments[k]? = some g) (slot : g'.accountSlot = g.accountSlot) :
    (s.setSegment v k g').UseCountsExact := by
  refine h.modifyVisit v ⟨?_, id⟩
  obtain ⟨bound, rfl⟩ := List.getElem?_eq_some_iff.1 hk
  rw [List.map_set, slot, ← List.getElem_map Segment.accountSlot (h := by rwa [List.length_map]),
    List.set_getElem_self]

theorem State.UseCountsExact.addSegment {v : VisitSlot} {a : AccountSlot} (live : s.visits[v].state ≠ .free)
    (held : s.accounts[a].number ≠ 0) : (s.addSegment v a).UseCountsExact := by
  have visit : (s.addSegment v a).visits[v] =
      { s.visits[v] with segments := s.visits[v].segments ++ [newSegment a s.accounts[a]] } := upd_same _ _ _
  have account : ∀ b : AccountSlot, (s.addSegment v a).accounts[b] =
      if b = a then { s.accounts[a] with useCount := s.accounts[a].useCount + 1 } else s.accounts[b] :=
    fun b => upd_get _ _ _ _
  refine h.change (v := v) (fun w other => upd_other _ _ _ _ other) (fun free => ?_) (fun b => ?_) fun b none => ?_
  · rw [visit] at free
    exact absurd free live
  · rw [visit, account, Visit.uses, Visit.uses, List.countP_append, List.countP_singleton]
    by_cases e : b = a
    · subst e
      rw [if_pos rfl, if_pos (by rw [newSegment, beq_self_eq_true])]
      dsimp only
      omega
    · rw [if_neg e, if_neg (by simpa [newSegment] using Ne.symm e)]
      omega
  · rw [account] at none ⊢
    split at none
    · exact absurd none held
    · next other => rw [if_neg other]; exact h.empty b none

theorem State.UseCountsExact.freeVisit (v : VisitSlot) : (s.freeVisit v).UseCountsExact := by
  obtain ⟨_, e, -⟩ := s.freeVisit_eq v
  rw [e]
  refine h.change (v := v) (fun w other => upd_other _ _ _ _ other) (fun _ => ?_) (fun a => ?_) fun a none => ?_
  · rw [upd_same]
    rfl
  · have bound := s.uses_le_usesOf v a
    rw [← h.exact a] at bound
    rw [ofFn_get, upd_same, Visit.free_uses, Nat.add_zero]
    exact Nat.sub_add_cancel bound
  · rw [ofFn_get] at none ⊢
    dsimp only at none ⊢
    rw [h.empty a none, Nat.zero_sub]

end keeps

end Sys2Proof.Machine

/-! ## What arrivals, grants, timers and settlements do to use counts -/

namespace Sys2Proof.Machine

variable {s t : State}

section keeps

variable (h : s.UseCountsExact)

include h

/-! ### Arrivals on the lanes (R36 to R41) -/

theorem State.UseCountsExact.laneErrorArrival (l : Lane) : (s.laneErrorArrival l).UseCountsExact := by
  unfold State.laneErrorArrival
  split
  · exact (h.modifyLane l _).finish
  · exact h

theorem State.UseCountsExact.overrunReads (l : Lane) (n : Nat) : (s.overrunReads l n).UseCountsExact :=
  h.modifyLane l _

theorem State.UseCountsExact.singleArrival (l : Lane) (r : SingleRead) : (s.singleArrival l r).UseCountsExact := by
  unfold State.singleArrival
  split
  · exact h
  split
  · exact h.laneErrorArrival l
  split
  · exact (h.overrunReads l 1).finish
  · exact (h.acceptReads l _).finish

theorem State.UseCountsExact.stackArrival (l : Lane) (stack : Byte) (reads : List CrateRead) :
    (s.stackArrival l stack reads).UseCountsExact := by
  unfold State.stackArrival
  split
  · exact h
  split
  · exact h.laneErrorArrival l
  split
  · exact h.laneErrorArrival l
  split
  · exact h.laneErrorArrival l
  split
  · exact (h.overrunReads l _).finish
  · exact (h.acceptReads l _).finish

theorem State.UseCountsExact.withdrawStack (l : Lane) (n : Nat) : (s.withdrawStack l n).UseCountsExact := by
  unfold State.withdrawStack
  split
  · exact (h.removeItems l _ _).drainTagged _ _
  · exact h.removeItems l _ _

theorem State.UseCountsExact.cancelArrival (l : Lane) (stack : Byte) : (s.cancelArrival l stack).UseCountsExact := by
  unfold State.cancelArrival
  split
  · exact h
  split
  · exact (h.withdrawStack l _).finish
  · exact (h.modifyLane l _).finish

theorem State.UseCountsExact.noticeArrival (l : Lane) (bytes : List Byte) :
    (s.noticeArrival l bytes).UseCountsExact := by
  unfold State.noticeArrival
  split
  · exact h
  split
  · exact h.laneErrorArrival l
  · exact (h.placeItem _).finish

theorem State.UseCountsExact.laneLinkEvent (l : Lane) (e : LinkEvent) : (s.laneLinkEvent l e).UseCountsExact := by
  cases e with
  | error => exact h.laneErrorArrival l
  | frame f =>
    unfold State.laneLinkEvent State.laneFrameArrival
    dsimp only
    split
    · exact h.singleArrival l _
    · exact h.stackArrival l _ _
    · exact h.cancelArrival l _
    · exact h.noticeArrival l _
    · exact h.laneErrorArrival l

theorem State.UseCountsExact.laneByte (l : Lane) (b : Byte) : (s.laneByte l b).UseCountsExact := by
  unfold State.laneByte
  exact List.foldlRecOn _ _ (h.modifyLane l _) fun _ kept e _ => kept.laneLinkEvent l e

/-! ### Grants (R46, R47, R81, R82) -/

theorem State.UseCountsExact.commitItem (l : Lane) (v : VisitSlot) (k : Nat) (enables : Conditions) (i : CommitItem) :
    (s.commitItem l v k enables i).UseCountsExact := by
  unfold State.commitItem
  split
  · exact h
  · next g hk =>
    exact ((((h.setSegment hk (passage_accountSlot enables _ g i)).takeFloat _ _).latchLaneIf l _ _).latchLaneIf l _
      _).offerRecord _

theorem State.UseCountsExact.commitItems (l : Lane) (v : VisitSlot) (k : Nat) (enables : Conditions)
    (is : List CommitItem) : (s.commitItems l v k enables is).UseCountsExact :=
  List.foldlRecOn _ _ h fun _ kept i _ => kept.commitItem l v k enables i

theorem State.UseCountsExact.commitStack (l : Lane) (enables : Conditions) :
    (s.commitStack l enables).UseCountsExact := by
  unfold State.commitStack
  split
  · exact h
  · exact ((h.commitItems l _ _ _ _).modifyLane l _).drainTagged _ _

theorem State.UseCountsExact.grantOrphan (l : Lane) (e : ReadEntry) : (s.grantOrphan l e).UseCountsExact :=
  ((h.modifyLane l _).modifyLane l _).offerRecord _

theorem State.UseCountsExact.grantTagged (l : Lane) (e : ReadEntry) (u : VisitTag) (c : GrantContext) :
    (s.grantTagged l e u c).UseCountsExact := by
  have latched : ∀ p, (s.latchPricing l p).UseCountsExact := fun p => (h.latchLaneIf l _ _).latchLaneIf l _ _
  unfold State.grantTagged
  dsimp only
  split
  · exact ((latched _).commitItem l _ _ _ _).drainTagged _ _
  · split
    · exact ((latched _).modifyLane l _).commitStack l _
    · exact (latched _).modifyLane l _

theorem State.UseCountsExact.execGrant (e : execGrant s = .next t) : t.UseCountsExact := by
  unfold Machine.execGrant at e
  split at e
  · cases e; exact h
  next l _ =>
  split at e
  · cases e; exact h
  next entry rest _ =>
  have taken : (s.takeEntry l rest).UseCountsExact := h.of_frame rfl rfl
  split at e
  · cases e
    exact (taken.grantOrphan l entry).finish
  split at e
  · cases e
  · cases e
    exact (taken.grantTagged l entry _ _).finish

/-! ### Timers (R14 to R20, R173) -/

theorem State.UseCountsExact.expireOpen (v : VisitSlot) : (s.expireOpen v).UseCountsExact :=
  ((h.leaveOpen v .expired).latchPart _).finish

theorem State.UseCountsExact.abandonOnLane (u : VisitTag) (l : Lane) : (s.abandonOnLane u l).UseCountsExact := by
  unfold State.abandonOnLane
  dsimp only
  split
  · exact h
  · exact (h.removeItems l _ _).modifyLane l _

theorem State.UseCountsExact.expireGrace (v : VisitSlot) : (s.expireGrace v).UseCountsExact := by
  have abandoned := List.foldlRecOn allLanes (State.abandonOnLane (s.visitTag v)) (motive := State.UseCountsExact) h
    fun _ kept l _ => kept.abandonOnLane _ l
  exact ((abandoned.clearTagged v).enterSettling v).finish

theorem State.UseCountsExact.tickVisit (v : VisitSlot) : (s.tickVisit v).UseCountsExact := by
  have segments : s.visits[v].count.segments = s.visits[v].segments := by unfold Visit.count; split <;> rfl
  have counted : (s.counted v).UseCountsExact :=
    h.modifyVisit v (f := Visit.count) ⟨by rw [segments], by rw [Visit.count_state]; exact id⟩
  rw [State.tickVisit_eq]
  split
  · exact counted.expireOpen v
  split
  · exact counted.expireGrace v
  · exact counted

/-! ### Settlement and completions (R148, R189, R193) -/

theorem State.UseCountsExact.settleSegments (header : TariffHeader) (x : SettleVisit) (k : Nat) (gs : List Segment) :
    (s.settleSegments header x k gs).UseCountsExact := by
  induction gs generalizing s k with
  | nil => exact h
  | cons g gs ih => exact ih (h.settleSegment header x k g) (k + 1)

theorem State.UseCountsExact.settleVisit (v : VisitSlot) (p : Pin) (header : TariffHeader) :
    (s.settleVisit v p header).UseCountsExact := by
  have settled := h.settleSegments header
    ⟨s.visits[v].number, s.visits[v].segments.length, p.generation, s.visits[v].cause⟩ 0 s.visits[v].segments
  exact (settled.of_frame (State.setSettleWait_visits _ _) (State.setSettleWait_accounts _ _)).freeVisit v

theorem State.UseCountsExact.execSettlement (e : execSettlement s = .next t) : t.UseCountsExact := by
  unfold Machine.execSettlement at e
  split at e
  · cases e; exact h
  split at e
  · cases e; exact h
  split at e
  · split at e
    · cases e; exact (h.settleVisit _ _ _).finish
    · cases e
  · cases e

theorem State.UseCountsExact.completeFirstFrame : s.completeFirstFrame.UseCountsExact := by
  unfold State.completeFirstFrame
  split
  · split
    · exact h.of_frame rfl rfl
    · exact h
  · exact h
  · exact h
  · exact h

theorem State.UseCountsExact.completeMessage : s.completeMessage.UseCountsExact := by
  have dropped : ∀ q, ((s.dropOldest q).setTrunkTx .idle).UseCountsExact := fun q => by
    cases q <;> exact h.of_frame rfl rfl
  unfold State.completeMessage
  split
  · exact (dropped _).finish
  · exact (dropped _).finish
  · exact h
  · exact h

end keeps

end Sys2Proof.Machine

/-! ## Every request keeps use counts exact -/

namespace Sys2Proof.Machine

variable {s : State}

/-! ### Requests that only read -/

section reads

variable {P : State → Prop} (h : P s)

include h

theorem readVisit_leads (key : VisitKey) (segment : Nat) : (readVisit key segment s).Leads P := by
  cases key with
  | number n => exact withVisit_leads h fun _ => accept_leads h _
  | slot n =>
    unfold readVisit
    dsimp only
    split
    · exact refuse_leads h _ _
    · exact accept_leads h _

theorem readLane_leads (lane : Nat) : (readLane lane s).Leads P := by
  unfold readLane
  split
  · exact refuse_leads h _ _
  · exact accept_leads h _

theorem readTypeByTagCode_leads (tagCode : Nat) : (readTypeByTagCode tagCode s).Leads P := by
  refine check_leads h fun _ => ?_
  split
  · exact refuse_leads h _ _
  · exact accept_leads h _

theorem readTypeByIndex_leads (index : Nat) : (readTypeByIndex index s).Leads P := by
  refine check_leads h fun _ => ?_
  split
  · exact refuse_leads h _ _
  · exact accept_leads h _

theorem readTariff_leads (slot part : Nat) : (readTariff slot part s).Leads P := by
  unfold readTariff
  split
  · exact refuse_leads h _ _
  refine check_leads h fun _ => ?_
  split
  · exact accept_leads h _
  split
  · exact accept_leads h _
  · exact accept_leads h _

theorem readAccount_leads (key : AccountKey) : (readAccount key s).Leads P := by
  cases key with
  | number n => exact withAccount_leads h fun _ => accept_leads h _
  | slot n =>
    unfold readAccount
    dsimp only
    split
    · exact refuse_leads h _ _
    · exact accept_leads h _

end reads

theorem State.number_ne_zero_of_findAccount {n : Nat} {a : AccountSlot} (found : s.findAccount n = some a) :
    s.accounts[a].number ≠ 0 := by
  have named := List.find?_some found
  rw [Bool.and_eq_true, bne_iff_ne, beq_iff_eq] at named
  exact named.2 ▸ named.1

section keeps

variable (h : s.UseCountsExact)

include h

/-! ### Visits (chapter 1) -/

theorem State.UseCountsExact.bindClaimed (v : VisitSlot) (lanes : LaneSet) :
    (s.bindClaimed v lanes).UseCountsExact :=
  (h.modifyVisit v (f := fun r => { r with laneSet := r.laneSet ||| lanes }) ⟨rfl, id⟩).of_frame rfl rfl

/-- A FREE record has no segment, so the record that opens in its place names the slots that it named: none. -/
theorem State.UseCountsExact.openVisitAt {v : VisitSlot} {a : AccountSlot} (free : s.visits[v].state = .free)
    (held : s.accounts[a].number ≠ 0) (i : TariffIndex) (lanes : LaneSet) (minutes : Nat) :
    (s.openVisitAt v i a lanes minutes).UseCountsExact := by
  have counted : ((s.setTariff i s.tariffs[i].addPin).setVisitCounter (succNumber s.nextNumber)).UseCountsExact :=
    h.of_frame rfl rfl
  have opened := counted.modifyVisit v
    (f := fun _ => newVisit s.nextNumber (appliedMinutes minutes) ⟨i, s.tariffs[i].generation⟩)
    ⟨(congrArg (List.map Segment.accountSlot) (h.free v free)).symm, nofun⟩
  exact (opened.addSegment (by rw [State.modifyVisit_visits, upd_same]; nofun) held).bindClaimed v lanes

theorem State.UseCountsExact.openVisit (account : Nat) (lanes : Byte) (minutes : Nat) :
    (openVisit account lanes minutes s).Leads State.UseCountsExact := by
  unfold Machine.openVisit
  split
  · exact refuse_leads h _ _
  refine check_leads h fun _ => ?_
  split
  · exact refuse_leads h _ _
  split
  · exact refuse_leads h _ _
  next v slot =>
  split
  · exact refuse_leads h _ _
  next a found =>
  split
  · exact refuse_leads h _ _
  · exact accept_leads (h.openVisitAt (State.freeSlot_eq_some.1 slot).1 (State.number_ne_zero_of_findAccount found)
      _ _ _) _

theorem State.UseCountsExact.bindLanes (visit : Nat) (lanes : Byte) :
    (bindLanes visit lanes s).Leads State.UseCountsExact := by
  unfold Machine.bindLanes
  split
  · exact refuse_leads h _ _
  refine withVisit_leads h fun v => whenOpen_leads h fun _ => ?_
  split
  · exact refuse_leads h _ _
  · exact accept_leads (h.bindClaimed v _) _

theorem State.UseCountsExact.releaseLanes (visit : Nat) (lanes : Byte) :
    (releaseLanes visit lanes s).Leads State.UseCountsExact := by
  unfold Machine.releaseLanes
  split
  · exact refuse_leads h _ _
  · next set _ =>
    refine withVisit_leads h fun v => whenOpen_leads h fun _ => ?_
    have unbound : (s.unbindLanes (s.visits[v].laneSet &&& set)).UseCountsExact := h.of_frame rfl rfl
    exact accept_leads (unbound.modifyVisit v ⟨rfl, id⟩) _

theorem State.UseCountsExact.nextSegment (visit account : Nat) :
    (nextSegment visit account s).Leads State.UseCountsExact := by
  refine check_leads h fun _ => withVisit_leads h fun v => whenOpen_leads h fun opened => check_leads h fun _ => ?_
  split
  · exact refuse_leads h _ _
  · next found =>
    exact accept_leads (h.addSegment (by rw [opened]; nofun) (State.number_ne_zero_of_findAccount found)) _

theorem State.UseCountsExact.closeVisit (visit : Nat) : (closeVisit visit s).Leads State.UseCountsExact :=
  withVisit_leads h fun v => whenOpen_leads h fun _ => accept_leads (h.leaveOpen v .requested) _

theorem State.UseCountsExact.cancelVisit (visit : Nat) : (cancelVisit visit s).Leads State.UseCountsExact := by
  refine withVisit_leads h fun v => check_leads h fun _ => accept_leads ?_ _
  have purged : (s.cancelPurge v).UseCountsExact := ((h.giveUpLanes v).purgeVisit _ _).clearTagged v
  exact (purged.addBack _).freeVisit v

/-! ### Lanes, container types and tariffs (chapters 2, 5 and 6) -/

theorem State.UseCountsExact.configureLane (lane enabled kind level reporting : Nat) :
    (configureLane lane enabled kind level reporting s).Leads State.UseCountsExact := by
  unfold Machine.configureLane
  split
  · exact check_leads h fun _ => check_leads h fun _ => check_leads h fun _ => check_leads h fun _ =>
      accept_leads (h.modifyLane _ _) _
  · exact refuse_leads h _ _

theorem State.UseCountsExact.laneReset (lane : Nat) : (laneReset lane s).Leads State.UseCountsExact := by
  unfold Machine.laneReset
  split
  · exact refuse_leads h _ _
  · exact accept_leads (h.resetLane _) _

theorem State.UseCountsExact.setTypes (types : List TypeEntry) : (s.setTypes types).UseCountsExact := h.of_frame rfl rfl

theorem State.UseCountsExact.setTariff (i : TariffIndex) (x : TariffSlot) : (s.setTariff i x).UseCountsExact :=
  h.of_frame rfl rfl

theorem State.UseCountsExact.writeType (tagCode : Nat) (spec : TypeSpec) (family schedule : Nat) :
    (writeType tagCode spec family schedule s).Leads State.UseCountsExact := by
  unfold Machine.writeType
  split
  · exact refuse_leads h _ _
  · exact check_leads h fun _ => accept_leads (h.setTypes _) _

theorem State.UseCountsExact.deleteType (tagCode : Nat) : (deleteType tagCode s).Leads State.UseCountsExact := by
  refine check_leads h fun _ => ?_
  split
  · exact refuse_leads h _ _
  · exact accept_leads (h.setTypes _) _

theorem State.UseCountsExact.loadWrite (change : Generation → Generation)
    (detail : TariffIndex → Generation → Detail) : (loadWrite s change detail).Leads State.UseCountsExact := by
  unfold Machine.loadWrite
  split
  · exact accept_leads (h.setTariff _ _) _
  · exact accept_leads (h.setTariff _ _) _
  · exact refuse_leads h _ _
  · exact refuse_leads h _ _

theorem State.UseCountsExact.writeTariffHeader (generation mode feeA feeB feeC feeD : Nat) (enables : Byte) :
    (writeTariffHeader generation mode feeA feeB feeC feeD enables s).Leads State.UseCountsExact := by
  unfold Machine.writeTariffHeader
  split
  · exact check_leads h fun _ => h.loadWrite _ _
  · exact refuse_leads h _ _

theorem State.UseCountsExact.writeSchedule
    (schedule defined depositA depositB depositC depositD bottle damaged ullage : Nat) :
    (writeSchedule schedule defined depositA depositB depositC depositD bottle damaged ullage s).Leads
      State.UseCountsExact := by
  unfold Machine.writeSchedule
  split
  · exact check_leads h fun _ => h.loadWrite _ _
  · exact refuse_leads h _ _

theorem State.UseCountsExact.promote (i : TariffIndex) (g : Generation) : (s.promote i g).UseCountsExact := by
  unfold State.promote
  split
  · exact (h.setTariff _ _).setTariff _ _
  · exact h.setTariff _ _

theorem State.UseCountsExact.promoteTariff (expected : Nat) :
    (promoteTariff expected s).Leads State.UseCountsExact := by
  refine check_leads h fun _ => ?_
  split
  · exact refuse_leads h _ _
  · exact check_leads h fun _ => check_leads h fun _ => check_leads h fun _ => accept_leads (h.promote _ _) _

theorem State.UseCountsExact.discardPending : (discardPending s).Leads State.UseCountsExact := by
  unfold Machine.discardPending
  split
  · exact refuse_leads h _ _
  · exact accept_leads (h.setTariff _ _) _

/-! ### Accounts (chapter 7) -/

/-- An empty slot starts with use count 0, which is the count it had; a slot in use keeps its count (R132). -/
theorem State.UseCountsExact.written (a : AccountSlot) {number : Nat} (named : number ≠ 0) (cls : CustomerClass)
    (frozen : Bool) (ceiling : Nat) :
    Account.SameUses s.accounts[a] (s.accounts[a].written number cls frozen ceiling) := by
  refine ⟨?_, fun none => absurd none (by rw [Account.written_number]; exact named)⟩
  unfold Account.written
  split
  · next empty => exact (h.empty a empty).symm
  · rfl

theorem State.UseCountsExact.writeAccount (slot account cls frozen ceiling : Nat) :
    (writeAccount slot account cls frozen ceiling s).Leads State.UseCountsExact := by
  unfold Machine.writeAccount
  split
  · next a cl f _ _ _ =>
    refine check_leads h fun inRange => ?_
    have named : account ≠ 0 := fun zero => inRange (by rw [accountInRange_eq_false (.inl zero)]; rfl)
    unfold writeAccountAt
    split
    · exact refuse_leads h _ _
    · exact check_leads h fun _ => accept_leads (h.modifyAccount a (h.written a named cl f ceiling)) _
  · exact refuse_leads h _ _

/-- Delete Account empties a slot that no segment names (R133). -/
theorem State.UseCountsExact.deleteAccount (account : Nat) : (deleteAccount account s).Leads State.UseCountsExact := by
  refine withAccount_leads h fun a => check_leads h fun used => check_leads h fun _ => accept_leads ?_ _
  have unused : s.accounts[a].useCount = 0 := Nat.eq_zero_of_not_pos used
  exact h.modifyAccount a ⟨unused.symm, fun _ => .inr unused⟩

theorem State.UseCountsExact.issueContainers (account family count : Nat) :
    (issueContainers account family count s).Leads State.UseCountsExact := by
  unfold Machine.issueContainers
  split
  · exact refuse_leads h _ _
  · exact check_leads h fun _ => withAccount_leads h fun a => accept_leads (h.addFloat a _ _) _

theorem State.UseCountsExact.setFloat (account family value : Nat) :
    (setFloat account family value s).Leads State.UseCountsExact := by
  unfold Machine.setFloat
  split
  · exact refuse_leads h _ _
  · exact check_leads h fun _ => withAccount_leads h fun a => accept_leads (h.setFloatValue a _ _) _

theorem State.UseCountsExact.freezeRun (start count mark : Nat) :
    (freezeRun start count mark s).Leads State.UseCountsExact := by
  unfold Machine.freezeRun
  split
  · exact refuse_leads h _ _
  refine check_leads h fun _ => accept_leads (h.same (fun v => ?_) fun a => ?_) _
  · rw [State.freezeSlots_visits]
    exact ⟨rfl, id⟩
  · rw [State.freezeSlots_accounts, ofFn_get]
    split <;> exact ⟨rfl, .inl⟩

theorem State.UseCountsExact.dayClose : (dayClose s).Leads State.UseCountsExact := by
  refine accept_leads (h.same (fun v => ?_) fun a => ?_) _
  · rw [State.clearPaid_visits]
    exact ⟨rfl, id⟩
  · rw [State.clearPaid_accounts, updAll_get]
    exact ⟨rfl, .inl⟩

theorem State.UseCountsExact.releaseAt (a : AccountSlot) (paid : Nat) : (s.releaseAt a paid).UseCountsExact :=
  (h.modifyAccount a (f := fun r =>
    { r with held := r.held - paid, paidToday := satAdd Config.top32 r.paidToday paid }) ⟨rfl, .inl⟩).of_frame rfl rfl

theorem State.UseCountsExact.releaseHeld (account amount : Nat) :
    (releaseHeld account amount s).Leads State.UseCountsExact :=
  check_leads h fun _ => withAccount_leads h fun a => check_leads h fun _ => check_leads h fun _ =>
    accept_leads (h.releaseAt a _) _

/-! ### The part (chapter 9) -/

theorem State.UseCountsExact.setMasks (part : Byte) (lanes : LaneMaskFields) :
    (setMasks part lanes s).Leads State.UseCountsExact := by
  unfold Machine.setMasks
  split
  · exact accept_leads (h.of_frame (s.setMaskSets_visits _ _) (s.setMaskSets_accounts _ _)) _
  · exact refuse_leads h _ _

theorem State.UseCountsExact.clearFlags : s.clearFlags.UseCountsExact := h.of_frame rfl rfl

theorem State.UseCountsExact.cancelForReset (v : VisitSlot) : (s.cancelForReset v).UseCountsExact := by
  unfold State.cancelForReset
  split
  · exact ((h.giveUpLanes v).addBack _).freeVisit v
  · exact h

theorem State.UseCountsExact.resetPart : s.resetPart.UseCountsExact := by
  have emptied : s.clearFlags.emptyLanes.UseCountsExact := h.clearFlags.of_frame rfl rfl
  have cancelled := List.foldlRecOn allVisits State.cancelForReset (motive := State.UseCountsExact) emptied
    fun _ kept v _ => kept.cancelForReset v
  unfold State.resetPart
  generalize allVisits.foldl State.cancelForReset s.clearFlags.emptyLanes = u at cancelled ⊢
  exact cancelled.of_frame rfl rfl

/-- Every request's rule keeps use counts exact. -/
theorem State.UseCountsExact.answerTo (r : Request) : (answerTo r s).Leads State.UseCountsExact := by
  cases r with
  | openVisit a ls m => exact h.openVisit a ls m
  | bindLanes v ls => exact h.bindLanes v ls
  | releaseLanes v ls => exact h.releaseLanes v ls
  | nextSegment v a => exact h.nextSegment v a
  | closeVisit v => exact h.closeVisit v
  | cancelVisit v => exact h.cancelVisit v
  | readVisit k i => exact readVisit_leads h k i
  | configureLane l en k lv rep => exact h.configureLane l en k lv rep
  | laneReset l => exact h.laneReset l
  | readLane l => exact readLane_leads h l
  | writeType t spec f sch => exact h.writeType t spec f sch
  | deleteType t => exact h.deleteType t
  | readTypeByTagCode t => exact readTypeByTagCode_leads h t
  | readTypeByIndex i => exact readTypeByIndex_leads h i
  | writeTariffHeader g m a b c d en => exact h.writeTariffHeader g m a b c d en
  | writeSchedule k d a b c e bt f u => exact h.writeSchedule k d a b c e bt f u
  | readTariff t p => exact readTariff_leads h t p
  | promoteTariff e => exact h.promoteTariff e
  | discardPending => exact h.discardPending
  | writeAccount sl a cl fr ce => exact h.writeAccount sl a cl fr ce
  | deleteAccount a => exact h.deleteAccount a
  | readAccount k => exact readAccount_leads h k
  | issueContainers a f n => exact h.issueContainers a f n
  | setFloat a f n => exact h.setFloat a f n
  | freezeRun st n m => exact h.freezeRun st n m
  | dayClose => exact h.dayClose
  | releaseHeld a n => exact h.releaseHeld a n
  | identify => exact accept_leads h _
  | readStatus => exact accept_leads h.clearFlags _
  | setMasks p ls => exact h.setMasks p ls
  | setPartParameters g a =>
    exact accept_leads (h.of_frame (s.setParameters_visits _ _) (s.setParameters_accounts _ _)) _
  | partReset => exact accept_leads h.resetPart _

end keeps

end Sys2Proof.Machine

/-! ## Every step keeps use counts exact -/

namespace Sys2Proof.Machine

variable {s t : State}

section keeps

variable (h : s.UseCountsExact)

include h

theorem State.UseCountsExact.serve (tag code : Byte) {m : State → Answer}
    (answer : (m s).Leads State.UseCountsExact) : (s.serve tag code m).UseCountsExact := by
  have responded : ((m s).state.respond ⟨tag, code, (m s).code, (m s).detail⟩).UseCountsExact :=
    State.UseCountsExact.of_frame answer rfl rfl
  unfold State.serve
  split
  · exact responded.finish
  · exact (h.latchPart _).finish

theorem State.UseCountsExact.trunkError : s.trunkError.UseCountsExact := (h.latchPart _).finish

theorem State.UseCountsExact.trunkFrameArrival (f : Frame) : (s.trunkFrameArrival f).UseCountsExact := by
  unfold State.trunkFrameArrival
  split
  · split
    · refine h.serve _ _ ?_
      cases decodeRequest f.payload with
      | request r => exact h.answerTo r
      | unknown code => exact refuse_leads h _ _
      | malformed _ => exact refuse_leads h _ _
    · exact h.trunkError
  · split
    · have offered : (s.mapLanes fun l p => if addressesLane f.address l then p.offer f else p).UseCountsExact :=
        h.of_frame rfl rfl
      exact offered.finish
    · exact h.trunkError

theorem State.UseCountsExact.trunkByte (b : Byte) : (s.trunkByte b).UseCountsExact := by
  have received : (s.setTrunkRx (s.trunkRx.receive b).2).UseCountsExact := h.of_frame rfl rfl
  unfold State.trunkByte
  refine List.foldlRecOn _ _ received fun t kept e _ => ?_
  cases e with
  | error => exact kept.trunkError
  | frame f => exact kept.trunkFrameArrival f

theorem State.UseCountsExact.exec (c : Instr) (e : exec c s = .next t) : t.UseCountsExact := by
  have goes : ∀ {u : State}, u.UseCountsExact → (Host.Outcome.next u : Host.Outcome State Fault Refusal) = .next t →
      t.UseCountsExact := fun kept e => by cases e; exact kept
  have served : ∀ {tag code : Byte} (r : Request),
      (Host.Outcome.next (s.serve tag code (Machine.answerTo r)) : Host.Outcome State Fault Refusal) = .next t →
        t.UseCountsExact := fun r => goes (h.serve _ _ (h.answerTo r))
  cases c with
  | powerOnReset => exact goes (u := s.powerOn) (State.reset_useCountsExact.of_frame rfl rfl) e
  | openVisit tag account lanes minutes => exact served (.openVisit account lanes minutes) e
  | bindLanes tag visit lanes => exact served (.bindLanes visit lanes) e
  | releaseLanes tag visit lanes => exact served (.releaseLanes visit lanes) e
  | nextSegment tag visit account => exact served (.nextSegment visit account) e
  | closeVisit tag visit => exact served (.closeVisit visit) e
  | cancelVisit tag visit => exact served (.cancelVisit visit) e
  | readVisit tag key segment => exact served (.readVisit key segment) e
  | configureLane tag lane enabled kind level reporting =>
    exact served (.configureLane lane enabled kind level reporting) e
  | laneReset tag lane => exact served (.laneReset lane) e
  | readLane tag lane => exact served (.readLane lane) e
  | writeType tag tagCode spec family schedule => exact served (.writeType tagCode spec family schedule) e
  | deleteType tag tagCode => exact served (.deleteType tagCode) e
  | readTypeByTagCode tag tagCode => exact served (.readTypeByTagCode tagCode) e
  | readTypeByIndex tag index => exact served (.readTypeByIndex index) e
  | writeTariffHeader tag generation mode feeA feeB feeC feeD enables =>
    exact served (.writeTariffHeader generation mode feeA feeB feeC feeD enables) e
  | writeSchedule tag schedule defined depositA depositB depositC depositD bottle damaged ullage =>
    exact served (.writeSchedule schedule defined depositA depositB depositC depositD bottle damaged ullage) e
  | readTariff tag slot part => exact served (.readTariff slot part) e
  | promoteTariff tag expected => exact served (.promoteTariff expected) e
  | discardPending tag => exact served .discardPending e
  | writeAccount tag slot account cls frozen ceiling => exact served (.writeAccount slot account cls frozen ceiling) e
  | deleteAccount tag account => exact served (.deleteAccount account) e
  | readAccount tag key => exact served (.readAccount key) e
  | issueContainers tag account family count => exact served (.issueContainers account family count) e
  | setFloat tag account family value => exact served (.setFloat account family value) e
  | freezeRun tag start count mark => exact served (.freezeRun start count mark) e
  | dayClose tag => exact served .dayClose e
  | releaseHeld tag account amount => exact served (.releaseHeld account amount) e
  | identify tag => exact served .identify e
  | readStatus tag => exact served .readStatus e
  | setMasks tag part lanes => exact served (.setMasks part lanes) e
  | setPartParameters tag grace aging => exact served (.setPartParameters grace aging) e
  | partReset tag => exact served .partReset e
  | unknownRequest tag code =>
    refine goes ?_ e
    split
    · exact h
    · exact h.serve _ _ (refuse_leads h _ _)
  | requestOverrun =>
    refine goes ?_ e
    split
    · exact h
    · exact (h.latchPart _).finish
  | downstreamFrame frame => exact goes (h.trunkFrameArrival frame) e
  | trunkFrameError => exact goes h.trunkError e
  | singleRead lane read => exact goes (h.singleArrival lane read) e
  | stackFrame lane stack reads => exact goes (h.stackArrival lane stack reads) e
  | stackCancel lane stack => exact goes (h.cancelArrival lane stack) e
  | laneNotice lane bytes => exact goes (h.noticeArrival lane bytes) e
  | laneFrameError lane => exact goes (h.laneErrorArrival lane) e
  | grant => exact h.execGrant e
  | tick => exact goes (List.foldlRecOn _ _ h fun _ kept v _ => kept.tickVisit v) e
  | openTimeExpiry slot =>
    refine goes ?_ e
    split
    · exact h.expireOpen slot
    · exact h
  | graceExpiry slot =>
    refine goes ?_ e
    split
    · exact h.expireGrace slot
    · exact h
  | settlement => exact h.execSettlement e
  | laneFrameCompletion lane => exact goes (h.modifyLane lane _) e
  | firstFrameCompletion => exact goes h.completeFirstFrame e
  | messageCompletion => exact goes h.completeMessage e
  | byteReceived link byte =>
    cases link with
    | lane l => exact goes (h.laneByte l byte) e
    | trunk => exact goes (h.trunkByte byte) e

end keeps

/-- Settles O13: a segment that is created raises the use count of its slot, a record that returns to FREE lowers the
counts of its segments' slots, and every other change leaves segments' slots and use counts alone. -/
theorem useCountsKept : Obligations.UseCountsKept := by
  unfold Obligations.UseCountsKept
  intro s t h e
  unfold step at e
  split at e
  · cases e; exact h
  · next c rest _ =>
    have waiting : (s.setPending rest).UseCountsExact := h.of_frame rfl rfl
    exact waiting.exec c e

end Sys2Proof.Machine

/-! ## Accounts: edits, floats, Freeze Run and Day Close (chapter 7) -/

namespace Sys2Proof.Machine

variable {s : State} {a : AccountSlot}

/-! ### Write Account and Delete Account (R131 to R133) -/

theorem classOf_code (k : CustomerClass) : classOf k.code = some k := by cases k <;> rfl

theorem classOf_eq_none {n : Nat} (h : 3 < n) : classOf n = none := by
  obtain ⟨k, rfl⟩ := Nat.exists_eq_add_of_lt h
  rw [show 3 + k + 1 = k + 4 by omega]
  rfl

theorem State.duplicateOf_eq_some {b : AccountSlot} {n : Nat} :
    s.duplicateOf a n = some b ↔ lowest (fun c => c ≠ a ∧ s.accounts[c].number = n) b := by
  rw [State.duplicateOf, allAccounts, find?_finRange_eq_some]
  exact lowest_congr fun c => by simp [-Fin.getElem_fin]

theorem State.duplicateOf_unheld {n : Nat} (h : ∀ b : AccountSlot, b ≠ a → s.accounts[b].number ≠ n) :
    s.duplicateOf a n = none := by
  rw [State.duplicateOf, allAccounts, find?_finRange_eq_none]
  intro b
  by_cases same : b = a
  · simp [same]
  · simpa [same, -Fin.getElem_fin] using h b same

theorem writeAccount_malformed {slot account cls frozen ceiling : Nat}
    (h : 255 < slot ∨ account = 0 ∨ 16777215 < account ∨ 3 < cls ∨ 1 < frozen ∨ 4294967295 < ceiling) :
    writeAccount slot account cls frozen ceiling s = refuse s .malformed .empty := by
  unfold writeAccount
  split
  · next a k f ha hk hf =>
    have slot_le : slot ≤ 255 := Nat.not_lt.1 fun high => by rw [accountSlotOf_eq_none high] at ha; cases ha
    have cls_le : cls ≤ 3 := Nat.not_lt.1 fun high => by rw [classOf_eq_none high] at hk; cases hk
    have frozen_le : frozen ≤ 1 := Nat.not_lt.1 fun high => by rw [switchOf_eq_none high] at hf; cases hf
    refine if_pos ?_
    simp only [Bool.or_eq_true, Bool.not_eq_true', accountInRange, Config.accountTop, Config.top32,
      Bool.and_eq_false_iff, decide_eq_true_eq, decide_eq_false_iff_not]
    omega
  · rfl

theorem writeAccount_in_range {account frozen ceiling : Nat} (low : 1 ≤ account) (high : account ≤ 16777215)
    (hf : frozen ≤ 1) (hc : ceiling ≤ 4294967295) (k : CustomerClass) :
    writeAccount a.val account k.code frozen ceiling s =
      writeAccountAt a account k (decide (frozen = 1)) ceiling s := by
  rw [writeAccount, accountSlotOf_val, classOf_code, switchOf_eq_some hf]
  refine if_neg ?_
  simp only [accountInRange_eq_true low high, Bool.not_true, Bool.false_or, decide_eq_true_eq, Config.top32]
  omega

section edit

variable {n ceiling : Nat} {k : CustomerClass} {frozen : Bool}

theorem writeAccountAt_duplicate {b : AccountSlot}
    (h : lowest (fun c => c ≠ a ∧ s.accounts[c].number = n) b) :
    writeAccountAt a n k frozen ceiling s = refuse s .duplicate (.accountHolder b) := by
  rw [writeAccountAt, State.duplicateOf_eq_some.2 h]

variable (unheld : ∀ b : AccountSlot, b ≠ a → s.accounts[b].number ≠ n)

include unheld

/-- A slot in use keeps its number (R131). -/
theorem writeAccountAt_inUse (held : s.accounts[a].number ≠ 0) (other : s.accounts[a].number ≠ n)
    (used : 0 < s.accounts[a].useCount) : writeAccountAt a n k frozen ceiling s =
      refuse s .inUse (.accountInUse s.accounts[a].number s.accounts[a].useCount) := by
  rw [writeAccountAt, State.duplicateOf_unheld unheld]
  refine if_pos ?_
  simp only [Bool.and_eq_true, decide_eq_true_eq]
  exact ⟨⟨held, other⟩, used⟩

theorem writeAccountAt_writes
    (free : s.accounts[a].number = 0 ∨ s.accounts[a].number = n ∨ s.accounts[a].useCount = 0) :
    writeAccountAt a n k frozen ceiling s =
      accept (s.modifyAccount a (fun r => r.written n k frozen ceiling))
        (.accountWritten (s.accounts[a].actionFor n) (accountReport a (s.accounts[a].written n k frozen ceiling))) := by
  rw [writeAccountAt, State.duplicateOf_unheld unheld]
  refine if_neg ?_
  simp only [Bool.and_eq_true, decide_eq_true_eq]
  rintro ⟨⟨held, other⟩, used⟩
  exact free.elim held fun h => h.elim other used.ne'

end edit

/-- The checks of Delete Account on the slot that holds the number, in their order (R133). -/
theorem deleteAccount_at {n : Nat} (h : s.AccountAt a n) : deleteAccount n s =
    if 0 < s.accounts[a].useCount then refuse s .inUse (.deleteUse s.accounts[a].useCount)
    else if 0 < s.accounts[a].held then refuse s .inUse (.deleteHeld s.accounts[a].held)
    else accept (s.modifyAccount a (fun _ => Account.empty))
      (.accountDeleted a s.accounts[a].floats s.accounts[a].paidToday) := withAccount_at h _

/-- Settles O36: each check in turn, those before it passed. -/
theorem accountEdits : Obligations.AccountEdits := by
  unfold Obligations.AccountEdits
  refine ⟨fun s tag slot account cls frozen ceiling room => ?write, fun s tag account room => ?delete⟩
  case write =>
    refine ⟨fun bad => State.serve_refuse room (writeAccount_malformed bad), fun low high hf hc a k ha hk => ?_⟩
    obtain rfl : cls = k.code := by rw [hk]; cases k <;> rfl
    subst ha
    have meaning := writeAccount_in_range (s := s) (a := a) low high hf hc k
    exact ⟨fun b held => State.serve_refuse room (meaning.trans (writeAccountAt_duplicate held)),
      fun unheld =>
        ⟨fun held other used =>
          State.serve_refuse room (meaning.trans (writeAccountAt_inUse unheld held other used)),
        fun free => State.next_serve_accept room (meaning.trans (writeAccountAt_writes unheld free))⟩⟩
  case delete =>
    refine ⟨fun out => State.serve_refuse room (withAccount_malformed out _),
      fun low high none => State.serve_refuse room (withAccount_absent low high none _), fun a found => ?_⟩
    have meaning := deleteAccount_at found
    refine ⟨fun used => State.serve_refuse room (meaning.trans (if_pos used)), fun unused held => ?_,
      fun unused none => ?_⟩
    · rw [if_neg (Nat.not_lt.2 unused.le), if_pos held] at meaning
      exact State.serve_refuse room meaning
    · rw [if_neg (Nat.not_lt.2 unused.le), if_neg (Nat.not_lt.2 none.le)] at meaning
      exact State.next_serve_accept room meaning

/-! ### Issue Containers and Set Float (R135 to R137) -/

section floats

variable {account family n : Nat} {f : Family}

theorem issueContainers_malformed (h : 7 < family ∨ n = 0 ∨ 65535 < n) :
    issueContainers account family n s = refuse s .malformed .empty := by
  unfold issueContainers
  split
  · rfl
  · next f hf =>
    have family_le : family ≤ 7 := Nat.not_lt.1 fun high => by rw [familyOf_eq_none high] at hf; cases hf
    refine if_pos ?_
    simp only [Bool.or_eq_true, decide_eq_true_eq, Config.top16]
    omega

theorem setFloat_malformed (h : 7 < family ∨ 65535 < n) :
    setFloat account family n s = refuse s .malformed .empty := by
  unfold setFloat
  split
  · rfl
  · next f hf =>
    have family_le : family ≤ 7 := Nat.not_lt.1 fun high => by rw [familyOf_eq_none high] at hf; cases hf
    exact if_pos (h.resolve_left (Nat.not_lt.2 family_le))

/-- A count in range goes to the account that the request names (R136). -/
theorem issueContainers_in_range (low : 1 ≤ n) (high : n ≤ 65535) : issueContainers account f.val n s =
    withAccount s account (fun a => accept (s.addFloat a f n) (.containersIssued f (s.float a f)
      (satAdd 65535 (s.float a f) n) (s.float a f + n - satAdd 65535 (s.float a f) n))) := by
  rw [issueContainers, familyOf_val]
  refine if_neg ?_
  simp only [Bool.or_eq_true, decide_eq_true_eq, Config.top16]
  omega

/-- A value in range goes to the account that the request names (R137). -/
theorem setFloat_in_range (high : n ≤ 65535) : setFloat account f.val n s =
    withAccount s account (fun a => accept (s.setFloatValue a f n) (.floatSet f (s.float a f) n)) := by
  rw [setFloat, familyOf_val]
  exact if_neg (Nat.not_lt.2 high)

/-- A number out of range is refused whether or not the count is 0. -/
theorem issueContainers_account_malformed (out : account = 0 ∨ 16777215 < account) (high : n ≤ 65535) :
    issueContainers account f.val n s = refuse s .malformed .empty := by
  rcases Nat.eq_zero_or_pos n with zero | low
  · exact issueContainers_malformed (.inr (.inl zero))
  · rw [issueContainers_in_range low high, withAccount_malformed out]

/-- An addition that the float takes whole (R135). -/
theorem State.addFloat_whole (h : s.accounts[a].floats[f] + n ≤ 65535) : s.addFloat a f n = { s with
    accounts := upd s.accounts a (fun r =>
      { r with floats := upd r.floats f (fun _ => s.accounts[a].floats[f] + n) }) } := by
  have stays : ¬ Config.top16 < s.float a f + n := Nat.not_lt.2 h
  rw [State.addFloat, State.latchPartIf, decide_eq_false stays, satAdd, Nat.min_eq_right (Nat.not_lt.1 stays)]
  rfl

/-- An addition that stops at the top and latches FLOAT_CLAMP (R135). -/
theorem State.addFloat_clamps (h : 65535 < s.accounts[a].floats[f] + n) : s.addFloat a f n = { s with
    accounts := upd s.accounts a (fun r => { r with floats := upd r.floats f (fun _ => 65535) })
    partFlags := s.partFlags ||| 0x08#7 } := by
  have passes : Config.top16 < s.float a f + n := h
  rw [State.addFloat, State.latchPartIf, decide_eq_true passes, satAdd, Nat.min_eq_left passes.le]
  rfl

end floats

/-- Settles O37: an addition stays below the top or stops there with FLOAT_CLAMP, and a set float is the value. -/
theorem floatRequests : Obligations.FloatRequests := by
  unfold Obligations.FloatRequests
  intro s tag account family n room
  refine ⟨fun bad => State.serve_refuse room (issueContainers_malformed bad),
    fun bad => State.serve_refuse room (setFloat_malformed bad), fun hfam high => ?_⟩
  lift family to Family using Nat.lt_succ_of_le hfam
  have setMeaning := setFloat_in_range (s := s) (account := account) (f := family) high
  have issueMeaning := fun low : 1 ≤ n => issueContainers_in_range (s := s) (account := account) (f := family) low high
  refine ⟨fun out => ⟨State.serve_refuse room (issueContainers_account_malformed out high),
      State.serve_refuse room (setMeaning.trans (withAccount_malformed out _))⟩,
    fun low top none =>
      ⟨fun one => State.serve_refuse room ((issueMeaning one).trans (withAccount_absent low top none _)),
      State.serve_refuse room (setMeaning.trans (withAccount_absent low top none _))⟩, fun a f found hf => ?_⟩
  obtain rfl : f = family := Fin.ext hf
  refine ⟨fun one stays => ?_, fun one passes => ?_,
    State.next_serve_accept room (setMeaning.trans (withAccount_at found _))⟩
  · have meaning := (issueMeaning one).trans (withAccount_at found _)
    have after : satAdd 65535 (s.float a f) n = s.accounts[a].floats[f] + n := Nat.min_eq_right stays
    have none : s.float a f + n - (s.accounts[a].floats[f] + n) = 0 := Nat.sub_self _
    rw [State.addFloat_whole stays, after, none] at meaning
    exact State.next_serve_accept room meaning
  · have meaning := (issueMeaning one).trans (withAccount_at found _)
    have after : satAdd 65535 (s.float a f) n = 65535 := Nat.min_eq_left passes.le
    rw [State.addFloat_clamps passes, after] at meaning
    exact State.next_serve_accept room meaning

/-! ### Freeze Run and Day Close (R139, R141) -/

theorem inRun_iff (start n : Nat) (a : AccountSlot) : inRun start n a = true ↔ start ≤ a.val ∧ a.val < start + n := by
  rw [inRun, Bool.and_eq_true, decide_eq_true_eq, decide_eq_true_eq]

theorem freezeRun_malformed {start count mark : Nat} (h : 255 < start ∨ count = 0 ∨ 256 < count ∨ 1 < mark) :
    freezeRun start count mark s = refuse s .malformed .empty := by
  unfold freezeRun
  split
  · rfl
  · next m hm =>
    have mark_le : mark ≤ 1 := Nat.not_lt.1 fun high => by rw [switchOf_eq_none high] at hm; cases hm
    refine if_pos ?_
    simp only [Bool.or_eq_true, decide_eq_true_eq]
    omega

/-- A run in range marks its slots and counts the accounts among them (R139). -/
theorem freezeRun_in_range {start count mark : Nat} (hs : start ≤ 255) (low : 1 ≤ count) (high : count ≤ 256)
    (hm : mark ≤ 1) : freezeRun start count mark s =
      accept (s.freezeSlots start (runLength start count) (decide (mark = 1)))
        (.freezeRun (runLength start count) (start + runLength start count) (count - runLength start count)
          (allAccounts.countP (fun a => decide
            (start ≤ a.val ∧ a.val < start + runLength start count ∧ s.accounts[a].number ≠ 0)))) := by
  have marked : ∀ a : AccountSlot, (inRun start (runLength start count) a && s.accounts[a].number != 0) =
      decide (start ≤ a.val ∧ a.val < start + runLength start count ∧ s.accounts[a].number ≠ 0) := fun a => by
    rw [Bool.eq_iff_iff, Bool.and_eq_true, inRun_iff, bne_iff_ne, decide_eq_true_eq, and_assoc]
  rw [freezeRun, switchOf_eq_some hm]
  simp only [marked]
  refine if_neg ?_
  simp only [Bool.or_eq_true, decide_eq_true_eq]
  omega

/-- A sum that stops at the top at each addition is the whole sum, or the top (R141). -/
theorem foldl_satAdd {top start : Nat} (h : start ≤ top) (rs : List Account) :
    rs.foldl (fun n r => satAdd top n r.paidToday) start =
      min top (start + (rs.map fun r => r.paidToday).sum) := by
  induction rs generalizing start with
  | nil => exact (Nat.min_eq_right h).symm
  | cons r rs ih =>
    rw [List.foldl_cons, ih (satAdd_le_top _ _ _), List.map_cons, List.sum_cons, satAdd]
    omega

theorem State.accounts_toList (s : State) : s.accounts.toList = allAccounts.map fun a => s.accounts[a] := by
  rw [allAccounts, ← List.ofFn_eq_map, ← Vector.toList_ofFn]
  exact congrArg Vector.toList (vector_ext fun a => (ofFn_get (fun a => s.accounts[a]) a).symm)

theorem dayClose_eq (s : State) : dayClose s = accept s.clearPaid
    (.dayClosed (min 4294967295 ((allAccounts.map (fun a => s.accounts[a].paidToday)).sum))
      (allAccounts.countP (fun a => decide (0 < s.accounts[a].paidToday)))) := by
  rw [dayClose, State.paidSum, foldl_satAdd (Nat.zero_le _), Nat.zero_add, State.accounts_toList, List.map_map,
    List.countP_map]
  rfl

/-- The end of a request that changed the accounts and placed its response: attention and the transmitter are all
that differs besides (R171, R193). -/
theorem State.finish_of_accounts {u : State} (same : u = { s with accounts := u.accounts }) (tag code : Byte)
    (d : Detail) : (u.answered tag code .ok d).finish = { s with
      accounts := (u.answered tag code .ok d).finish.accounts
      attention := (u.answered tag code .ok d).finish.attention
      trunkTx := (u.answered tag code .ok d).finish.trunkTx
      responses := s.responses ++ [⟨tag, code, .ok, d⟩] } := by
  generalize u.accounts = accounts at same
  subst same
  rw [State.finish_eq]
  rfl

/-- Settles O38: the marks and the sums are of the slots as the request finds them. -/
theorem freezeRunAndDayClose : Obligations.FreezeRunAndDayClose := by
  unfold Obligations.FreezeRunAndDayClose
  intro s tag room
  refine ⟨fun start count mark => ⟨fun bad => State.serve_refuse room (freezeRun_malformed bad),
    fun hs low high hm => ⟨_, _, State.next_serve_accept room (freezeRun_in_range hs low high hm), rfl, ?_,
      fun a => ?_⟩⟩, _, State.next_serve_accept room (dayClose_eq s), ?_, fun a => ?_⟩
  · exact State.finish_of_accounts rfl _ _ _
  · rw [State.finish_accounts, State.answered, State.freezeSlots_accounts, ofFn_get]
    simp only [inRun_iff]
    rfl
  · exact State.finish_of_accounts rfl _ _ _
  · rw [State.finish_accounts, State.answered, State.clearPaid_accounts, updAll_get]

end Sys2Proof.Machine

/-! ## Settlement and payout (chapter 8) -/

namespace Sys2Proof.Machine

variable {s : State}

/-! ### The settle-wait list (R145) -/

/-- Settles O16: every change that a step is made of keeps the list exact. -/
theorem settleWaitKept : Obligations.SettleWaitKept := by
  unfold Obligations.SettleWaitKept
  intro s t start h
  exact step_keeps (fun _ _ m => m.links.settleWaitExact) h start

/-! ### The amounts of one segment (R149 to R152) -/

section amounts

variable {h : TariffHeader} {r : Account} {g : Segment}

/-- A fee of at most the whole of G stays within G in every rounding mode (R149). -/
theorem amountsOf_fee_le (within : h.fees.of g.cls ≤ 10000) : (amountsOf h r g).fee ≤ g.gross :=
  roundDiv_le h.mode (by decide) (Nat.mul_le_mul_left _ within)

theorem amountsOf_fee_zero (none : h.fees.of g.cls = 0) : (amountsOf h r g).fee = 0 := by
  rw [amountsOf, feeProduct, none, Nat.mul_zero]
  exact roundDiv_exact h.mode (by decide) (by decide)

theorem amountsOf_fee_whole (whole : h.fees.of g.cls = 10000) : (amountsOf h r g).fee = g.gross := by
  rw [amountsOf, feeProduct, whole]
  exact (roundDiv_exact h.mode (by decide) (Nat.mul_mod_left _ _)).trans (Nat.mul_div_left _ (by decide))

theorem amountsOf_payout_frozen (frozen : r.frozen = true) : (amountsOf h r g).payout = 0 := if_pos frozen

theorem amountsOf_payout (clear : r.frozen = false) :
    (amountsOf h r g).payout = min (amountsOf h r g).net (r.ceiling - r.paidToday) := by
  rw [amountsOf, clear]
  rfl

/-- The payout is within the net, and paid-today stays within the ceiling that it has not passed (R150). -/
theorem amountsOf_payout_le : (amountsOf h r g).payout ≤ (amountsOf h r g).net ∧
    r.paidToday + (amountsOf h r g).payout ≤ max r.paidToday r.ceiling := by
  cases frozen : r.frozen with
  | true => rw [amountsOf_payout_frozen frozen]; omega
  | false => rw [amountsOf_payout frozen]; omega

/-- The held amount joins the held balance as far as its top; the rest is unplaced (R151, R152). -/
theorem amountsOf_heldAdded (low : r.held ≤ 4294967295) :
    (amountsOf h r g).heldAdded + (amountsOf h r g).unplaced = (amountsOf h r g).held ∧
    r.held + (amountsOf h r g).heldAdded ≤ 4294967295 ∧
    (0 < (amountsOf h r g).unplaced → r.held + (amountsOf h r g).heldAdded = 4294967295) := by
  have added : (amountsOf h r g).heldAdded = min (amountsOf h r g).held (4294967295 - r.held) := rfl
  have rest : (amountsOf h r g).unplaced = (amountsOf h r g).held - (amountsOf h r g).heldAdded := rfl
  omega

/-- What a segment comes to is paid, kept as fee, held or unplaced (R149 to R152). -/
theorem amountsOf_conserves (within : h.fees.of g.cls ≤ 10000) (low : r.held ≤ 4294967295) :
    (amountsOf h r g).payout + (amountsOf h r g).fee + (amountsOf h r g).heldAdded + (amountsOf h r g).unplaced =
      g.gross + g.excessCredit := by
  have fee := amountsOf_fee_le (r := r) within
  have net : (amountsOf h r g).net = g.gross - (amountsOf h r g).fee := rfl
  have payout := (amountsOf_payout_le (h := h) (r := r) (g := g)).1
  have held : (amountsOf h r g).held = (amountsOf h r g).net - (amountsOf h r g).payout + g.excessCredit := rfl
  have placed := (amountsOf_heldAdded (h := h) (g := g) low).1
  omega

end amounts

/-- Settles O59. -/
theorem settlementAmounts : Obligations.SettlementAmounts := by
  unfold Obligations.SettlementAmounts
  intro h r g fees low m fee
  have rate : fee = h.fees.of g.cls := by
    simp only [fee]
    cases g.cls <;> rfl
  clear_value fee
  subst rate
  have within : h.fees.of g.cls ≤ 10000 := fees.of_le g.cls
  obtain ⟨-, top, full⟩ := amountsOf_heldAdded (h := h) (g := g) low
  refine ⟨rfl, amountsOf_fee_le within, rfl, rfl, amountsOf_payout_frozen, fun clear passed => ?_,
    fun clear _ => amountsOf_payout clear, rfl, amountsOf_conserves within low, top, full, rfl, rfl,
    amountsOf_payout_le.2, amountsOf_fee_zero, amountsOf_fee_whole⟩
  exact (amountsOf_payout clear).trans (by rw [Nat.sub_eq_zero_of_le passed, Nat.min_zero])

/-! ### The segments of a visit, one after another (R148, R153, R154) -/

theorem Account.settledThrough_nil (r : Account) (h : TariffHeader) (a : AccountSlot) : r.settledThrough h a [] = r :=
  rfl

theorem Account.settledThrough_cons (r : Account) (h : TariffHeader) (a : AccountSlot) (g : Segment)
    (gs : List Segment) : r.settledThrough h a (g :: gs) =
      (if a = g.accountSlot then r.settle (amountsOf h r g) else r).settledThrough h a gs := by
  by_cases same : a = g.accountSlot
  · rw [if_pos same, Account.settledThrough, List.filter_cons_of_pos (by simpa using same.symm)]
    rfl
  · rw [if_neg same, Account.settledThrough, List.filter_cons_of_neg (by simpa using Ne.symm same)]
    rfl

/-- Settlement leaves an account's use count to the freeing of the visit. -/
theorem Account.settledThrough_useCount (r : Account) (h : TariffHeader) (a : AccountSlot) (gs : List Segment) :
    (r.settledThrough h a gs).useCount = r.useCount := by
  induction gs generalizing r with
  | nil => rfl
  | cons g gs ih =>
    rw [Account.settledThrough_cons, ih]
    split <;> rfl

/-- The record reports an inexact fee rounding in its segment's sticky flags (R149). -/
theorem settledSegment_eq (h : TariffHeader) (g : Segment) : settledSegment h g = { g with
    sticky := if (g.gross * h.fees.of g.cls) % 10000 = 0 then g.sticky else g.sticky ||| 0x1#3 } := by
  rw [settledSegment, feeProduct, inexactDiv]
  by_cases whole : (g.gross * h.fees.of g.cls) % 10000 = 0
  · rw [if_pos whole, whole]
    exact congrArg (fun x => { g with sticky := x }) (BitVec.or_zero)
  · rw [if_neg whole, bne_iff_ne.2 whole]
    rfl

/-- The records of a visit's segments from a place on: each against its account as the segments before it left it. -/
def State.settlementRecords (s : State) (h : TariffHeader) (x : SettleVisit) (k : Nat) (gs : List Segment) :
    List SettlementRecord :=
  gs.mapIdx fun i g => settlementRecord h x (k + i)
    (amountsOf h (s.accounts[g.accountSlot].settledThrough h g.accountSlot (gs.take i)) g) g

theorem State.settleSegment_account (s : State) (h : TariffHeader) (x : SettleVisit) (k : Nat) (g : Segment)
    (a : AccountSlot) : (s.settleSegment h x k g).accounts[a] =
      if a = g.accountSlot then s.accounts[a].settle (amountsOf h s.accounts[a] g) else s.accounts[a] := by
  obtain ⟨_, e⟩ := s.settleSegment_frame h x k g
  rw [e]
  refine (upd_get _ _ _ _).trans ?_
  split
  · next same => rw [same]
  · rfl

/-- An account is settled through a visit's segments one segment at a time (R153). -/
theorem State.settleSegment_settledThrough (s : State) (h : TariffHeader) (x : SettleVisit) (k : Nat) (g : Segment)
    (a : AccountSlot) (gs : List Segment) : (s.settleSegment h x k g).accounts[a].settledThrough h a gs =
      s.accounts[a].settledThrough h a (g :: gs) := by
  rw [State.settleSegment_account, Account.settledThrough_cons]

theorem State.settlementRecords_cons (s : State) (h : TariffHeader) (x : SettleVisit) (k : Nat) (g : Segment)
    (gs : List Segment) : s.settlementRecords h x k (g :: gs) =
      settlementRecord h x k (amountsOf h s.accounts[g.accountSlot] g) g ::
        (s.settleSegment h x k g).settlementRecords h x (k + 1) gs := by
  simp only [State.settlementRecords, List.mapIdx_cons, List.take_succ_cons, State.settleSegment_settledThrough,
    Nat.add_assoc, Nat.add_comm 1]
  rfl

/-- HELD_OVERFLOW is latched where the held balance cannot take the whole (R152). -/
theorem State.settleSegment_latches (s : State) (h : TariffHeader) (x : SettleVisit) (k : Nat) (g : Segment) :
    s.Latches (s.settleSegment h x k g) .heldOverflow
      (0 < (amountsOf h s.accounts[g.accountSlot] g).unplaced) := by
  intro f
  refine (State.latches_latchPartIf _ .heldOverflow _ f).trans ?_
  rw [decide_eq_true_eq]
  rfl

/-- The segments of a visit settled in order: each account through the segments that name it, a record for each
segment, and HELD_OVERFLOW where one of them leaves an amount unplaced (R148, R152 to R154). -/
theorem State.settleSegments_eq (s : State) (h : TariffHeader) (x : SettleVisit) (k : Nat) (gs : List Segment) :
    ∃ flags, s.settleSegments h x k gs = { s with
        accounts := Vector.ofFn (fun a => s.accounts[a].settledThrough h a gs)
        settlementQueue := s.settlementQueue ++ (s.settlementRecords h x k gs).map .settled
        partFlags := flags } ∧
      s.Latches (s.settleSegments h x k gs) .heldOverflow (∃ r ∈ s.settlementRecords h x k gs, 0 < r.unplaced) := by
  induction gs generalizing s k with
  | nil =>
    have same : Vector.ofFn (fun a : AccountSlot => s.accounts[a]) = s.accounts := vector_ext fun a => ofFn_get _ a
    refine ⟨s.partFlags, ?_, (State.Latches.refl _ rfl).congr (by simp [State.settlementRecords])⟩
    simp only [Account.settledThrough_nil, same, State.settlementRecords, List.mapIdx_nil, List.map_nil,
      List.append_nil]
    rfl
  | cons g gs ih =>
    obtain ⟨flags, e, later⟩ := ih (s.settleSegment h x k g) (k + 1)
    have step : s.settleSegments h x k (g :: gs) = (s.settleSegment h x k g).settleSegments h x (k + 1) gs := rfl
    rw [step, State.settlementRecords_cons]
    refine ⟨flags, ?_, ((s.settleSegment_latches h x k g).trans later).congr ?_⟩
    case refine_2 => simp only [List.mem_cons, exists_eq_or_imp]; rfl
    simp only [e, State.settleSegment_settledThrough]
    obtain ⟨_, frame⟩ := s.settleSegment_frame h x k g
    generalize (s.settleSegment h x k g).settlementRecords h x (k + 1) gs = records
    rw [frame, List.map_cons, List.append_assoc, List.singleton_append]

/-! ### The head of the settle-wait list (R147, R148) -/

/-- What the records of a settled visit share (R154). -/
def Visit.settling (r : Visit) (p : Pin) : SettleVisit := ⟨r.number, r.segments.length, p.generation, r.cause⟩

/-- A record that holds a pin returns to FREE (R23, R124). -/
theorem State.freeVisit_pinned (s : State) {v : VisitSlot} {p : Pin} (pin : s.visits[v].pin = some p) :
    ∃ flags, s.freeVisit v = { s with
        accounts := Vector.ofFn (fun a =>
          { s.accounts[a] with useCount := s.accounts[a].useCount - s.visits[v].uses a })
        tariffs := upd s.tariffs p.slot (fun x => x.released 1)
        visits := upd s.visits v (fun _ => Visit.free)
        partFlags := flags } ∧
      s.Latches (s.freeVisit v) .tariffRetired (s.tariffs[p.slot].RetiresAfter 1) := by
  obtain ⟨flags, e, latches⟩ := s.freeVisit_eq v
  rw [pin, State.released_some] at e
  rw [pin] at latches
  exact ⟨flags, e, latches.congr (s.retires_some p)⟩

/-- The head visit settled whole: its accounts, its records, and the record, use counts and pin given back (R148). -/
theorem State.settleVisit_eq (s : State) {v : VisitSlot} {p : Pin} (h : TariffHeader)
    (pin : s.visits[v].pin = some p) :
    ∃ flags, s.settleVisit v p h = { s with
        accounts := Vector.ofFn (fun a => { s.accounts[a].settledThrough h a s.visits[v].segments with
          useCount := s.accounts[a].useCount - s.visits[v].uses a })
        settlementQueue := s.settlementQueue ++
          (s.settlementRecords h (s.visits[v].settling p) 0 s.visits[v].segments).map .settled
        settleWait := s.settleWait.drop 1
        tariffs := upd s.tariffs p.slot (fun x => x.released 1)
        visits := upd s.visits v (fun _ => Visit.free)
        partFlags := flags } ∧
      ∀ f : PartFlag, (s.settleVisit v p h).partFlag f = true ↔
        (s.partFlag f = true ∨ f = .heldOverflow ∧
          ∃ r ∈ s.settlementRecords h (s.visits[v].settling p) 0 s.visits[v].segments, 0 < r.unplaced) ∨
        f = .tariffRetired ∧ s.tariffs[p.slot].RetiresAfter 1 := by
  obtain ⟨_, settled, overflows⟩ := s.settleSegments_eq h (s.visits[v].settling p) 0 s.visits[v].segments
  have whole : s.settleVisit v p h = ((s.settleSegments h (s.visits[v].settling p) 0
    s.visits[v].segments).setSettleWait (s.settleWait.drop 1)).freeVisit v := rfl
  rw [whole]
  generalize s.settleSegments h (s.visits[v].settling p) 0 s.visits[v].segments = u at settled overflows
  have visits : (u.setSettleWait (s.settleWait.drop 1)).visits = s.visits := by
    rw [State.setSettleWait_visits, settled]
  have tariffs : (u.setSettleWait (s.settleWait.drop 1)).tariffs = s.tariffs := by
    rw [State.setSettleWait_tariffs, settled]
  have pinned : (u.setSettleWait (s.settleWait.drop 1)).visits[v].pin = some p := by rw [visits, pin]
  obtain ⟨flags, freed, retires⟩ := State.freeVisit_pinned _ pinned
  refine ⟨flags, ?_, fun f => ?_⟩
  · rw [freed, visits, tariffs, settled]
    simp only [State.setSettleWait, ofFn_get, Account.settledThrough_useCount]
  · rw [retires f, tariffs]
    exact or_congr_left (overflows f)

theorem State.settlementRoom_eq (s : State) : s.settlementRoom = 8 - s.settlementQueue.length := rfl

/-- SETTLEMENT on a head that is eligible (R147). -/
theorem execSettlement_settles {u : VisitTag} {rest : List VisitTag} {p : Pin} {g : Generation}
    (wait : s.settleWait = u :: rest) (room : s.visits[u.slot].segments.length ≤ 8 - s.settlementQueue.length)
    (settling : s.visits[u.slot].state = .settling) (number : s.visits[u.slot].number = u.number)
    (pin : s.visits[u.slot].pin = some p) (contents : s.tariffs[p.slot].contents = some g) :
    execSettlement s = .next (s.settleVisit u.slot p g.header).finish := by
  have pinned : s.pinned s.visits[u.slot] = some g := by rw [State.pinned, pin]; exact contents
  rw [execSettlement, wait]
  simp only [State.settlementRoom_eq, Nat.not_lt.2 room, if_false, settling, number, decide_true, beq_self_eq_true,
    Bool.and_self, if_true, pin, pinned]

/-- The record of the segment in a place of the visit (R154). -/
theorem State.settlementRecords_getElem? (s : State) (h : TariffHeader) (x : SettleVisit) {gs : List Segment} {k : Nat}
    {g : Segment} (here : gs[k]? = some g) : (s.settlementRecords h x 0 gs)[k]? = some (settlementRecord h x k
      (amountsOf h (s.accounts[g.accountSlot].settledThrough h g.accountSlot (gs.take k)) g) g) := by
  rw [State.settlementRecords, List.getElem?_mapIdx, here, Nat.zero_add]
  rfl

theorem State.finish_partFlag (s : State) (f : PartFlag) : s.finish.partFlag f = s.partFlag f := by
  rw [State.partFlag, State.finish_partFlags, State.partFlag]

/-- Settles O58: the next state is the settled one with the event ended, and each clause reads one of its fields. -/
theorem settlementSettlesHead : Obligations.SettlementSettlesHead := by
  unfold Obligations.SettlementSettlesHead
  intro s
  refine ⟨fun none => ?empty, fun u rest wait => ⟨fun full => ?full, ?settles⟩⟩
  case empty =>
    show execSettlement s = .next s
    rw [execSettlement, none]
  case full =>
    show execSettlement s = .next s
    rw [execSettlement, wait]
    exact if_pos full
  case settles =>
    rintro r p g rfl settling number pin contents room
    obtain ⟨flags, e, latched⟩ := s.settleVisit_eq g.header pin
    refine ⟨_, s.settlementRecords g.header (s.visits[u.slot].settling p) 0 s.visits[u.slot].segments,
      execSettlement_settles wait room settling number pin contents, ?frame, fun a => ?account, List.length_mapIdx,
      fun k seg here => ?record, ?overflow, ?retired, fun f notOverflow notRetired => ?others⟩
    case frame =>
      rw [State.finish_eq, e, wait]
      rfl
    case account =>
      rw [State.finish_accounts, e]
      exact ofFn_get _ a
    case record =>
      rw [State.settlementRecords_getElem? _ _ _ here, settlementRecord, settledSegment_eq, ← number]
      rfl
    case overflow => simp only [State.finish_partFlag, latched, true_and, reduceCtorEq, false_and, or_false]
    case retired => simp only [State.finish_partFlag, latched, reduceCtorEq, false_and, or_false, true_and,
      TariffSlot.RetiresAfter, le_refl]
    case others =>
      rw [State.finish_partFlag, Bool.eq_iff_iff, latched, or_iff_left fun h => notRetired h.1,
        or_iff_left fun h => notOverflow h.1]

/-! ### Release Held (R155, R156) -/

theorem releaseHeld_malformed {account amount : Nat}
    (h : amount = 0 ∨ 4294967295 < amount ∨ account = 0 ∨ 16777215 < account) :
    releaseHeld account amount s = refuse s .malformed .empty := by
  unfold releaseHeld
  split
  · rfl
  · next inRange =>
    simp only [Bool.or_eq_true, decide_eq_true_eq, Config.top32] at inRange
    exact withAccount_malformed (by omega) _

/-- An amount in range goes to the checks on the account that the request names (R155). -/
theorem releaseHeld_in_range {account amount : Nat} (low : 1 ≤ amount) (high : amount ≤ 4294967295) :
    releaseHeld account amount s = withAccount s account (fun a =>
      if s.accounts[a].frozen then refuse s .frozen (.heldBalance s.accounts[a].held)
      else if 8 ≤ s.settlementQueue.length then refuse s .queueFull .empty
      else accept (s.releaseAt a (min amount s.accounts[a].held))
        (.released (min amount s.accounts[a].held) (s.accounts[a].held - min amount s.accounts[a].held)
          (min 4294967295 (s.accounts[a].paidToday + min amount s.accounts[a].held)))) := by
  refine if_neg ?_
  simp only [Bool.or_eq_true, decide_eq_true_eq, Config.top32]
  omega

/-- Settles O39: each check in turn, those before it passed. -/
theorem releaseHeldPays : Obligations.ReleaseHeldPays := by
  unfold Obligations.ReleaseHeldPays
  intro s tag account amount room
  refine ⟨fun bad => State.serve_refuse room (releaseHeld_malformed bad), fun low high => ?_⟩
  have meaning := releaseHeld_in_range (s := s) (account := account) low high
  refine ⟨fun least most none => State.serve_refuse room (meaning.trans (withAccount_absent least most none _)),
    fun a found => ?_⟩
  rw [withAccount_at found] at meaning
  refine ⟨fun frozen => ?_, fun clear full => ?_, fun clear free => ?_⟩
  · rw [if_pos frozen] at meaning
    exact State.serve_refuse room meaning
  · rw [if_neg (Bool.eq_false_iff.1 clear), if_pos full] at meaning
    exact State.serve_refuse room meaning
  · rw [if_neg (Bool.eq_false_iff.1 clear), if_neg (Nat.not_le.2 free), State.releaseAt, found.number] at meaning
    exact State.next_serve_accept room meaning

end Sys2Proof.Machine

/-! ## The end of an event: attention and the trunk transmitter's choice (9.2, 10.9) -/

namespace Sys2Proof.Machine

variable (s : State)

/-! ### Attention (R171) -/

theorem PartFlag.place_lt (f : PartFlag) : f.place < 7 := by cases f <;> decide

theorem LaneFlag.place_lt (f : LaneFlag) : f.place < 10 := by cases f <;> decide

/-- The seven part flags take the seven places of their set (R167). -/
theorem PartFlag.exists_place : ∀ i < 7, ∃ f : PartFlag, f.place = i
  | 0, _ => ⟨.itemLoss, rfl⟩
  | 1, _ => ⟨.visitExpired, rfl⟩
  | 2, _ => ⟨.heldOverflow, rfl⟩
  | 3, _ => ⟨.floatClamp, rfl⟩
  | 4, _ => ⟨.tariffRetired, rfl⟩
  | 5, _ => ⟨.requestOverrun, rfl⟩
  | 6, _ => ⟨.trunkFrameError, rfl⟩
  | _ + 7, h => absurd h (by omega)

/-- The ten lane flags take the ten places of their set (R52). -/
theorem LaneFlag.exists_place : ∀ i < 10, ∃ f : LaneFlag, f.place = i
  | 0, _ => ⟨.overrun, rfl⟩
  | 1, _ => ⟨.frameError, rfl⟩
  | 2, _ => ⟨.orphan, rfl⟩
  | 3, _ => ⟨.unlisted, rfl⟩
  | 4, _ => ⟨.diverted, rfl⟩
  | 5, _ => ⟨.ullageWarn, rfl⟩
  | 6, _ => ⟨.excess, rfl⟩
  | 7, _ => ⟨.staleCancel, rfl⟩
  | 8, _ => ⟨.stackAbandoned, rfl⟩
  | 9, _ => ⟨.downstreamLoss, rfl⟩
  | _ + 10, h => absurd h (by omega)

/-- A set less its mask is not empty where some place is latched and unmasked. -/
theorem and_not_ne_zero_iff {w : Nat} (flags masks : BitVec w) :
    (flags &&& ~~~masks != 0) = true ↔ ∃ i < w, flags.getLsbD i = true ∧ masks.getLsbD i = false := by
  have at_place : ∀ i < w, ((flags &&& ~~~masks).getLsbD i = true ↔
      flags.getLsbD i = true ∧ masks.getLsbD i = false) := fun i below => by simp [below]
  rw [bne_iff_ne]
  refine ⟨fun some => ?_, fun ⟨i, below, shows⟩ none => ?_⟩
  · by_contra no
    refine some (BitVec.eq_of_getLsbD_eq fun i below => ?_)
    exact (Bool.eq_false_iff.2 fun h => no ⟨i, below, (at_place i below).1 h⟩).trans BitVec.getLsbD_zero.symm
  · have set := (at_place i below).2 shows
    rw [none] at set
    exact absurd (BitVec.getLsbD_zero.symm.trans set) nofun

theorem State.partAttention_iff : (s.partFlags &&& ~~~s.partMasks != 0) = true ↔ ∃ f, s.partFlagShows f := by
  rw [and_not_ne_zero_iff]
  refine ⟨fun ⟨i, below, shows⟩ => ?_, fun ⟨f, shows⟩ => ⟨f.place, f.place_lt, shows⟩⟩
  obtain ⟨f, rfl⟩ := PartFlag.exists_place i below
  exact ⟨f, shows⟩

theorem State.laneAttention_iff (l : Lane) : s.laneAttention l = true ↔ ∃ f, s.laneFlagShows l f := by
  rw [State.laneAttention, and_not_ne_zero_iff]
  refine ⟨fun ⟨i, below, shows⟩ => ?_, fun ⟨f, shows⟩ => ⟨f.place, f.place_lt, shows⟩⟩
  obtain ⟨f, rfl⟩ := LaneFlag.exists_place i below
  exact ⟨f, shows⟩

theorem State.attentionNow_iff :
    s.attentionNow = true ↔ (∃ f, s.partFlagShows f) ∨ ∃ l f, s.laneFlagShows l f := by
  rw [State.attentionNow, Bool.or_eq_true, s.partAttention_iff, List.any_eq_true]
  simp only [mem_allLanes, true_and, State.laneAttention_iff]

/-- Attention is true to flags and masks where it stands as its re-evaluation would leave it. -/
theorem State.attentionTrue_iff : s.attentionTrue ↔ s.attention = s.attentionNow := by
  rw [State.attentionTrue, ← s.attentionNow_iff, ← Bool.eq_iff_iff]

theorem State.attentionNow_finish : s.finish.attentionNow = s.attentionNow := by
  rw [State.finish_eq]
  rfl

theorem State.finish_attentionTrue : s.finish.attentionTrue := by
  rw [State.attentionTrue_iff, State.finish_attention, State.attentionNow_finish]

/-! ### The choice (R193) -/

variable {s}

/-- The end of an event changes attention and the transmitter alone. -/
theorem State.finish_frame (s : State) :
    s.finish = { s with attention := s.attentionNow, trunkTx := s.finish.trunkTx } := by
  rw [State.finish_eq]

theorem State.finish_trunkTx_idle (h : s.trunkTx = .idle) : s.finish.trunkTx = s.reevaluateAttention.chosenTx := by
  rw [State.finish_eq, h]

/-- An idle transmitter starts the oldest message of the queue that is next. -/
theorem State.finish_starts (h : s.trunkTx = .idle) {q : TrunkQueue} {m : Message} (next : s.nextQueue = some q)
    (oldest : s.oldest q = some m) :
    s.finish.trunkTx = .sending q (if m.lines = [] then .only else .first) (m.firstFrame s.finish.attention) := by
  have next' : s.reevaluateAttention.nextQueue = some q := next
  have oldest' : s.reevaluateAttention.oldest q = some m := by cases q <;> exact oldest
  rw [State.finish_trunkTx_idle h, State.chosenTx, next', State.finish_attention]
  simp only [oldest', startMessage, List.isEmpty_iff]
  rfl

theorem State.finish_idle (h : s.trunkTx = .idle) (none : s.nextQueue = none) : s.finish.trunkTx = .idle := by
  have none' : s.reevaluateAttention.nextQueue = Option.none := none
  rw [State.finish_trunkTx_idle h, State.chosenTx, none']

/-- Settles O3: the queues are looked at in the order of R193, those before the chosen one being empty. -/
theorem eventEnds : Obligations.EventEnds := by
  unfold Obligations.EventEnds
  intro u
  refine ⟨?_, u.finish_attentionTrue, fun busy => ?_, fun idle => ⟨fun r rs responses => ?_,
    fun responses e es settlements => ?_, fun responses settlements e es items => ?_,
    fun responses settlements items => ?_⟩⟩
  · rw [State.finish_attention]
    exact u.finish_frame
  · rw [u.finish_busy busy]
  · exact State.finish_starts idle (by simp [State.nextQueue, responses]) (by simp [State.oldest, responses])
  · exact State.finish_starts idle (by simp [State.nextQueue, responses, settlements])
      (by simp [State.oldest, settlements])
  · exact State.finish_starts idle (q := .items) (m := .item e)
      (by simp [State.nextQueue, responses, settlements, items]) (by simp [State.oldest, items])
  · exact State.finish_idle idle (by simp [State.nextQueue, responses, settlements, items])

end Sys2Proof.Machine

/-! ## The payload of a request, encoded and decoded (10.3, R185, R187) -/

namespace Sys2Proof

open Machine

/-! ### Fields -/

theorem toNat_byte {n : Nat} (h : fits8 n = true) : (BitVec.ofNat 8 n).toNat = n :=
  Nat.mod_eq_of_lt (of_decide_eq_true h)

theorem nat16_bytes {n : Nat} (h : fits16 n = true) : nat16 (BitVec.ofNat 8 (n / 256)) (BitVec.ofNat 8 n) = n := by
  have : n < 65536 := of_decide_eq_true h
  simp only [nat16, BitVec.toNat_ofNat]
  omega

theorem nat24_bytes {n : Nat} (h : fits24 n = true) :
    nat24 (BitVec.ofNat 8 (n / 65536)) (BitVec.ofNat 8 (n / 256)) (BitVec.ofNat 8 n) = n := by
  have : n < 16777216 := of_decide_eq_true h
  simp only [nat24, BitVec.toNat_ofNat]
  omega

theorem nat32_bytes {n : Nat} (h : fits32 n = true) :
    nat32 (BitVec.ofNat 8 (n / 16777216)) (BitVec.ofNat 8 (n / 65536)) (BitVec.ofNat 8 (n / 256)) (BitVec.ofNat 8 n) =
      n := by
  have : n < 4294967296 := of_decide_eq_true h
  simp only [nat32, BitVec.toNat_ofNat]
  omega

theorem toNat_append_byte {w : Nat} (x : BitVec w) (b : Byte) : (x ++ b).toNat = x.toNat * 256 + b.toNat := by
  rw [BitVec.toNat_append, ← Nat.shiftLeft_add_eq_or_of_lt b.isLt, Nat.shiftLeft_eq]

/-- The two bytes of a word, put together again. -/
theorem word_bytes (w : Word16) : ((w >>> 8).setWidth 8 : Byte) ++ (w.setWidth 8 : Byte) = w := by
  have := w.isLt
  refine BitVec.eq_of_toNat_eq ?_
  simp only [toNat_append_byte, BitVec.toNat_setWidth, BitVec.toNat_ushiftRight, Nat.shiftRight_eq_div_pow]
  omega

/-- The three bytes of a slot map, put together again. -/
theorem map_bytes (m : SlotMap) :
    mapOf (BitVec.ofNat 8 (m.toNat / 65536)) (BitVec.ofNat 8 (m.toNat / 256)) (BitVec.ofNat 8 m.toNat) = m := by
  have := m.isLt
  refine BitVec.eq_of_toNat_eq ?_
  simp only [mapOf, toNat_append_byte, BitVec.toNat_ofNat]
  omega

/-! ### The fields of a request -/

/-- A class code that names no class is followed by family and schedule alone (R187). -/
theorem decodeWriteType_unknown {t1 t0 cls f sch : Byte} (h : 3 ≤ cls.toNat) :
    decodeWriteType [t1, t0, cls, f, sch] =
      some (.writeType (nat16 t1 t0) (.unknown cls.toNat) f.toNat sch.toNat) := by
  obtain ⟨n, e⟩ : ∃ n, cls.toNat = n + 3 := ⟨cls.toNat - 3, (Nat.sub_add_cancel h).symm⟩
  simp only [decodeWriteType, e]
  rfl

theorem decodeWriteType_fields {t : Nat} {spec : TypeSpec} {f sch : Nat}
    (h : (Request.writeType t spec f sch).wellFormed = true) :
    decodeWriteType (Request.writeType t spec f sch).fields = some (.writeType t spec f sch) := by
  simp only [Request.wellFormed, Bool.and_eq_true] at h
  obtain ⟨⟨⟨ht, hs⟩, hf⟩, hsch⟩ := h
  cases spec with
  | crate map =>
    change some (Request.writeType (nat16 _ _) (.crate (mapOf _ _ _)) (BitVec.toNat _) (BitVec.toNat _)) = _
    rw [nat16_bytes ht, map_bytes, toNat_byte hf, toNat_byte hsch]
  | pool map =>
    change some (Request.writeType (nat16 _ _) (.pool (mapOf _ _ _)) (BitVec.toNat _) (BitVec.toNat _)) = _
    rw [nat16_bytes ht, map_bytes, toNat_byte hf, toNat_byte hsch]
  | keg tare tol a l =>
    simp only [TypeSpec.wellFormed, Bool.and_eq_true] at hs
    obtain ⟨⟨⟨htare, htol⟩, ha⟩, hl⟩ := hs
    change some (Request.writeType (nat16 _ _) (.keg (nat16 _ _) (nat16 _ _) (nat16 _ _) (nat16 _ _)) (BitVec.toNat _)
      (BitVec.toNat _)) = _
    rw [nat16_bytes ht, nat16_bytes htare, nat16_bytes htol, nat16_bytes ha, nat16_bytes hl, toNat_byte hf,
      toNat_byte hsch]
  | unknown code =>
    simp only [TypeSpec.wellFormed, Bool.and_eq_true, decide_eq_true_eq] at hs
    obtain ⟨least, hcode⟩ := hs
    refine (decodeWriteType_unknown (by rwa [toNat_byte hcode])).trans ?_
    rw [nat16_bytes ht, toNat_byte hcode, toNat_byte hf, toNat_byte hsch]

/-- The fields of a well-formed request, read under its code, are the request (R185, R187). -/
theorem decodeFields_fields {r : Request} (h : r.wellFormed = true) : decodeFields r.code.toNat r.fields = some r := by
  cases r with
  | writeType t spec f sch => exact decodeWriteType_fields h
  | readVisit key k =>
    rw [Request.wellFormed, Bool.and_eq_true] at h
    obtain ⟨hkey, hk⟩ := h
    cases key with
    | number n =>
      change some (Request.readVisit (.number (nat16 _ _)) (BitVec.toNat _)) = _
      rw [nat16_bytes hkey, toNat_byte hk]
    | slot n =>
      change some (Request.readVisit (.slot (nat16 _ _)) (BitVec.toNat _)) = _
      rw [nat16_bytes hkey, toNat_byte hk]
  | readAccount key =>
    cases key with
    | number n => exact congrArg (fun n => some (Request.readAccount (.number n))) (nat24_bytes h)
    | slot n => exact congrArg (fun n => some (Request.readAccount (.slot n))) (nat24_bytes h)
  | bindLanes v ls => exact congrArg (fun v => some (Request.bindLanes v ls)) (nat16_bytes h)
  | releaseLanes v ls => exact congrArg (fun v => some (Request.releaseLanes v ls)) (nat16_bytes h)
  | closeVisit v => exact congrArg (fun v => some (Request.closeVisit v)) (nat16_bytes h)
  | cancelVisit v => exact congrArg (fun v => some (Request.cancelVisit v)) (nat16_bytes h)
  | laneReset l => exact congrArg (fun l => some (Request.laneReset l)) (toNat_byte h)
  | readLane l => exact congrArg (fun l => some (Request.readLane l)) (toNat_byte h)
  | deleteType t => exact congrArg (fun t => some (Request.deleteType t)) (nat16_bytes h)
  | readTypeByTagCode t => exact congrArg (fun t => some (Request.readTypeByTagCode t)) (nat16_bytes h)
  | readTypeByIndex i => exact congrArg (fun i => some (Request.readTypeByIndex i)) (nat16_bytes h)
  | promoteTariff e => exact congrArg (fun e => some (Request.promoteTariff e)) (nat16_bytes h)
  | deleteAccount a => exact congrArg (fun a => some (Request.deleteAccount a)) (nat24_bytes h)
  | openVisit a ls m =>
    simp only [Request.wellFormed, Bool.and_eq_true] at h
    change some (Request.openVisit (nat24 _ _ _) ls (BitVec.toNat _)) = _
    rw [nat24_bytes h.1, toNat_byte h.2]
  | nextSegment v a =>
    simp only [Request.wellFormed, Bool.and_eq_true] at h
    change some (Request.nextSegment (nat16 _ _) (nat24 _ _ _)) = _
    rw [nat16_bytes h.1, nat24_bytes h.2]
  | readTariff t p =>
    simp only [Request.wellFormed, Bool.and_eq_true] at h
    change some (Request.readTariff (BitVec.toNat _) (BitVec.toNat _)) = _
    rw [toNat_byte h.1, toNat_byte h.2]
  | releaseHeld a n =>
    simp only [Request.wellFormed, Bool.and_eq_true] at h
    change some (Request.releaseHeld (nat24 _ _ _) (nat32 _ _ _ _)) = _
    rw [nat24_bytes h.1, nat32_bytes h.2]
  | setPartParameters g a =>
    simp only [Request.wellFormed, Bool.and_eq_true] at h
    change some (Request.setPartParameters (BitVec.toNat _) (BitVec.toNat _)) = _
    rw [toNat_byte h.1, toNat_byte h.2]
  | issueContainers a f n =>
    simp only [Request.wellFormed, Bool.and_eq_true] at h
    obtain ⟨⟨ha, hf⟩, hn⟩ := h
    change some (Request.issueContainers (nat24 _ _ _) (BitVec.toNat _) (nat16 _ _)) = _
    rw [nat24_bytes ha, toNat_byte hf, nat16_bytes hn]
  | setFloat a f n =>
    simp only [Request.wellFormed, Bool.and_eq_true] at h
    obtain ⟨⟨ha, hf⟩, hn⟩ := h
    change some (Request.setFloat (nat24 _ _ _) (BitVec.toNat _) (nat16 _ _)) = _
    rw [nat24_bytes ha, toNat_byte hf, nat16_bytes hn]
  | freezeRun st n m =>
    simp only [Request.wellFormed, Bool.and_eq_true] at h
    obtain ⟨⟨hst, hn⟩, hm⟩ := h
    change some (Request.freezeRun (BitVec.toNat _) (nat16 _ _) (BitVec.toNat _)) = _
    rw [toNat_byte hst, nat16_bytes hn, toNat_byte hm]
  | configureLane l en k lv rep =>
    simp only [Request.wellFormed, Bool.and_eq_true] at h
    obtain ⟨⟨⟨⟨hl, hen⟩, hk⟩, hlv⟩, hrep⟩ := h
    change some (Request.configureLane (BitVec.toNat _) (BitVec.toNat _) (BitVec.toNat _) (BitVec.toNat _)
      (BitVec.toNat _)) = _
    rw [toNat_byte hl, toNat_byte hen, toNat_byte hk, toNat_byte hlv, toNat_byte hrep]
  | writeTariffHeader g m a b c d en =>
    simp only [Request.wellFormed, Bool.and_eq_true] at h
    obtain ⟨⟨⟨⟨⟨hg, hm⟩, ha⟩, hb⟩, hc⟩, hd⟩ := h
    change some (Request.writeTariffHeader (nat16 _ _) (BitVec.toNat _) (nat16 _ _) (nat16 _ _) (nat16 _ _)
      (nat16 _ _) en) = _
    rw [nat16_bytes hg, toNat_byte hm, nat16_bytes ha, nat16_bytes hb, nat16_bytes hc, nat16_bytes hd]
  | writeSchedule k d a b c e bt f u =>
    simp only [Request.wellFormed, Bool.and_eq_true] at h
    obtain ⟨⟨⟨⟨⟨⟨⟨⟨hk, hd⟩, ha⟩, hb⟩, hc⟩, he⟩, hbt⟩, hf⟩, hu⟩ := h
    change some (Request.writeSchedule (BitVec.toNat _) (BitVec.toNat _) (nat16 _ _) (nat16 _ _) (nat16 _ _)
      (nat16 _ _) (nat16 _ _) (BitVec.toNat _) (nat16 _ _)) = _
    rw [toNat_byte hk, toNat_byte hd, nat16_bytes ha, nat16_bytes hb, nat16_bytes hc, nat16_bytes he, nat16_bytes hbt,
      toNat_byte hf, nat16_bytes hu]
  | writeAccount sl a cl fr ce =>
    simp only [Request.wellFormed, Bool.and_eq_true] at h
    obtain ⟨⟨⟨⟨hsl, ha⟩, hcl⟩, hfr⟩, hce⟩ := h
    change some (Request.writeAccount (BitVec.toNat _) (nat24 _ _ _) (BitVec.toNat _) (BitVec.toNat _)
      (nat32 _ _ _ _)) = _
    rw [toNat_byte hsl, nat24_bytes ha, toNat_byte hcl, toNat_byte hfr, nat32_bytes hce]
  | setMasks p m =>
    change some (Request.setMasks p ⟨_, _, _, _, _, _⟩) = some (.setMasks p m)
    simp only [word_bytes]
  | discardPending => rfl
  | dayClose => rfl
  | identify => rfl
  | readStatus => rfl
  | partReset => rfl

theorem Request.codeListed_code (r : Request) : codeListed r.code.toNat = true := by cases r <;> rfl

/-- A well-formed request's payload is read as the request. -/
theorem decodeRequest_encodeRequest {r : Request} (h : r.wellFormed = true) :
    decodeRequest (encodeRequest r) = .request r := by
  rw [encodeRequest, decodeRequest, if_pos r.codeListed_code, decodeFields_fields h, RequestForm.of]

end Sys2Proof

/-! ## The message on the trunk, under the operations (10.9) -/

namespace Sys2Proof.Machine

variable {s t u : State}

/-! ### A transmission that goes on -/

/-- The transmitter is as it was, and the message it is sending is still the oldest of its queue (R193). -/
structure State.KeepsSending (s t : State) : Prop where
  trunkTx : t.trunkTx = s.trunkTx
  oldest : ∀ (q : TrunkQueue) (part : FramePart) (f : Frame), s.trunkTx = .sending q part f →
    ∀ m, s.oldest q = some m → t.oldest q = some m

theorem State.KeepsSending.refl (s : State) : s.KeepsSending s := ⟨rfl, fun _ _ _ _ _ => id⟩

theorem State.KeepsSending.trans (h : s.KeepsSending t) (h' : t.KeepsSending u) : s.KeepsSending u where
  trunkTx := h'.trunkTx.trans h.trunkTx
  oldest q part f sending m front := h'.oldest q part f (h.trunkTx.trans sending) m (h.oldest q part f sending m front)

theorem head?_of_isPrefix {α : Type} {as bs : List α} (h : as <+: bs) {a : α} (head : as.head? = some a) :
    bs.head? = some a := by
  obtain ⟨rest, rfl⟩ := h
  rw [List.head?_append, head]
  rfl

/-- What joins a queue joins it at its tail. -/
theorem State.KeepsSending.of_queues (trunkTx : t.trunkTx = s.trunkTx) (responses : s.responses <+: t.responses)
    (settlementQueue : s.settlementQueue <+: t.settlementQueue) (items : s.items <+: t.items) : s.KeepsSending t := by
  have grows : ∀ {α : Type} {as bs : List α} (f : α → Message), as <+: bs → ∀ m, as.head?.map f = some m →
      bs.head?.map f = some m := fun f h m front => by
    obtain ⟨a, head, rfl⟩ := Option.map_eq_some_iff.1 front
    rw [head?_of_isPrefix h head, Option.map_some]
  refine ⟨trunkTx, fun q _ _ _ => ?_⟩
  cases q with
  | responses => exact grows _ responses
  | settlements => exact grows _ settlementQueue
  | items => exact grows _ items

theorem State.KeepsSending.of_items (trunkTx : t.trunkTx = s.trunkTx) (responses : t.responses = s.responses)
    (settlementQueue : t.settlementQueue = s.settlementQueue) (items : s.items <+: t.items) : s.KeepsSending t :=
  .of_queues trunkTx (by rw [responses]) (by rw [settlementQueue]) items

theorem State.KeepsSending.of_frame (trunkTx : t.trunkTx = s.trunkTx) (responses : t.responses = s.responses)
    (settlementQueue : t.settlementQueue = s.settlementQueue) (items : t.items = s.items) : s.KeepsSending t :=
  .of_items trunkTx responses settlementQueue (by rw [items])

/-- What every member of a run keeps sending, the run keeps sending. -/
theorem State.KeepsSending.foldl {α : Type} {F : State → α → State} (one : ∀ (s : State) (a : α), s.KeepsSending (F s a))
    (as : List α) (s : State) : s.KeepsSending (as.foldl F s) :=
  List.foldlRecOn _ _ (.refl s) fun t kept a _ => kept.trans (one t a)

/-! ### Records and responses -/

theorem State.Recorded.items_grow {rs : List ItemRecord} (h : s.Recorded t rs) : s.items <+: t.items :=
  ⟨_, h.1.symm⟩

variable (s)

theorem State.keepsSending_respond (r : Response) : s.KeepsSending (s.respond r) :=
  .of_queues rfl ⟨_, rfl⟩ (refl _) (refl _)

theorem State.keepsSending_placeItem (e : ItemEntry) : s.KeepsSending (s.placeItem e) := by
  rcases s.placeItem_cases e with ⟨-, placed⟩ | ⟨-, lost⟩
  · rw [placed]
    exact .of_items rfl rfl rfl ⟨_, rfl⟩
  · rw [lost]
    exact .of_frame rfl rfl rfl rfl

theorem State.keepsSending_offerRecord (r : ItemRecord) : s.KeepsSending (s.offerRecord r) := by
  unfold State.offerRecord
  split
  · exact s.keepsSending_placeItem _
  · exact .refl s

theorem State.keepsSending_removeItems (l : Lane) (o : ItemOutcome) (c : Choice) :
    s.KeepsSending (s.removeItems l o c) := by
  obtain ⟨_, _, _, e, records⟩ := s.removeItems_records l o c
  have items := records.recorded.items_grow
  rw [e] at items ⊢
  exact .of_items rfl rfl rfl items

theorem State.keepsSending_abandon (u : VisitTag) :
    s.KeepsSending (allLanes.foldl (State.abandonOnLane u) s) := by
  refine .foldl (fun t l => ?_) _ _
  obtain ⟨_, _, _, e, records⟩ := t.abandonOnLane_records u l
  have items := records.recorded.items_grow
  rw [e] at items ⊢
  exact .of_items rfl rfl rfl items

/-! ### Visits and lanes -/

theorem State.keepsSending_latchLaneIf (l : Lane) (f : LaneFlag) (b : Bool) :
    s.KeepsSending (s.latchLaneIf l f b) := by
  obtain ⟨_, e, -⟩ := s.latchLaneIf_frame l f b
  rw [e]
  exact .of_frame rfl rfl rfl rfl

theorem State.keepsSending_drainTagged (u : VisitTag) (n : Nat) : s.KeepsSending (s.drainTagged u n) := by
  obtain ⟨_, _, e⟩ := s.drainTagged_frame u n
  rw [e]
  exact .of_frame rfl rfl rfl rfl

theorem State.keepsSending_leaveOpen (v : VisitSlot) (c : CloseCause) : s.KeepsSending (s.leaveOpen v c) := by
  obtain ⟨_, _, e⟩ := s.leaveOpen_frame v c
  rw [e]
  exact .of_frame rfl rfl rfl rfl

theorem State.keepsSending_acceptReads (l : Lane) (es : List ReadEntry) : s.KeepsSending (s.acceptReads l es) := by
  obtain ⟨_, e⟩ := s.acceptReads_frame l es
  rw [e]
  exact .of_frame rfl rfl rfl rfl

theorem State.keepsSending_resetLane (l : Lane) : s.KeepsSending (s.resetLane l) := by
  obtain ⟨_, e⟩ := s.resetLane_eq l
  rw [e]
  exact .of_frame rfl rfl rfl rfl

theorem State.keepsSending_addFloat (a : AccountSlot) (f : Family) (n : Nat) : s.KeepsSending (s.addFloat a f n) := by
  obtain ⟨_, e⟩ := s.addFloat_frame a f n
  rw [e]
  exact .of_frame rfl rfl rfl rfl

theorem State.keepsSending_freeVisit (v : VisitSlot) : s.KeepsSending (s.freeVisit v) := by
  obtain ⟨_, _, _, e⟩ := s.freeVisit_frame v
  rw [e]
  exact .of_frame rfl rfl rfl rfl

theorem State.keepsSending_cancelVisitAt (v : VisitSlot) : s.KeepsSending (s.cancelVisitAt v) := by
  obtain ⟨_, _, _, e, recorded, -⟩ := s.cancelVisitAt_eq v
  have items := recorded.items_grow
  rw [e] at items ⊢
  exact .of_items rfl rfl rfl items

theorem State.keepsSending_promote (i : TariffIndex) (g : Generation) : s.KeepsSending (s.promote i g) := by
  unfold State.promote
  split <;> exact .of_frame rfl rfl rfl rfl

theorem State.keepsSending_releaseAt (a : AccountSlot) (paid : Nat) : s.KeepsSending (s.releaseAt a paid) :=
  .of_queues rfl (refl _) ⟨_, rfl⟩ (refl _)

/-- Part Reset discards the responses and item records that have not started (R174, R175). -/
theorem State.keepsSending_resetPart : s.KeepsSending s.resetPart := by
  obtain ⟨_, e, -⟩ := s.resetPart_eq
  rw [e]
  refine ⟨rfl, fun q part f sending m front => ?_⟩
  have one : s.inTransmission q = 1 := by rw [State.inTransmission, sending]; exact if_pos rfl
  cases q with
  | responses => exact (congrArg (Option.map _) (by rw [one, List.head?_take, if_neg Nat.one_ne_zero])).trans front
  | settlements => exact front
  | items => exact (congrArg (Option.map _) (by rw [one, List.head?_take, if_neg Nat.one_ne_zero])).trans front

/-! ### Settlement (R148, R153) -/

theorem State.keepsSending_settleSegments (h : TariffHeader) (x : SettleVisit) (k : Nat) (gs : List Segment) :
    s.KeepsSending (s.settleSegments h x k gs) := by
  induction gs generalizing s k with
  | nil => exact .refl s
  | cons g gs ih =>
    obtain ⟨_, e⟩ := s.settleSegment_frame h x k g
    have first : s.KeepsSending (s.settleSegment h x k g) := by
      rw [e]
      exact .of_queues rfl (refl _) ⟨_, rfl⟩ (refl _)
    exact first.trans (ih _ (k + 1))

theorem State.keepsSending_settleVisit (v : VisitSlot) (p : Pin) (h : TariffHeader) :
    s.KeepsSending (s.settleVisit v p h) := by
  have settled := s.keepsSending_settleSegments h
    ⟨s.visits[v].number, s.visits[v].segments.length, p.generation, s.visits[v].cause⟩ 0 s.visits[v].segments
  exact (settled.trans (u := State.setSettleWait _ (s.settleWait.drop 1)) (.of_frame rfl rfl rfl rfl)).trans
    (State.keepsSending_freeVisit _ v)

/-! ### Grants (R46, R47, R81, R82) -/

theorem State.keepsSending_commitItem (l : Lane) (v : VisitSlot) (k : Nat) (enables : Conditions) (i : CommitItem) :
    s.KeepsSending (s.commitItem l v k enables i) := by
  unfold State.commitItem
  split
  · exact .refl s
  · next g _ =>
    dsimp only
    generalize passage enables s.accounts[g.accountSlot].floats g i = p
    obtain ⟨_, e⟩ := (s.setSegment v k p.segment).takeFloat_frame g.accountSlot p.takes
    have taken : s.KeepsSending ((s.setSegment v k p.segment).takeFloat g.accountSlot p.takes) := by
      rw [e]
      exact .of_frame rfl rfl rfl rfl
    exact ((taken.trans (State.keepsSending_latchLaneIf _ l _ _)).trans (State.keepsSending_latchLaneIf _ l _ _)).trans
      (State.keepsSending_offerRecord _ _)

theorem State.keepsSending_commitStack (l : Lane) (enables : Conditions) : s.KeepsSending (s.commitStack l enables) := by
  unfold State.commitStack
  split
  · exact .refl s
  · next c _ =>
    have committed : s.KeepsSending (s.commitItems l c.tag.slot c.segment enables
        (c.items.map (StagedItem.toCommit c.stack))) :=
      .foldl (fun t i => t.keepsSending_commitItem l c.tag.slot c.segment enables i) _ _
    exact (committed.trans (u := State.modifyLane _ l (fun p => { p with context := none }))
      (.of_frame rfl rfl rfl rfl)).trans (State.keepsSending_drainTagged _ _ _)

theorem State.keepsSending_grantOrphan (l : Lane) (e : ReadEntry) : s.KeepsSending (s.grantOrphan l e) :=
  .trans (t := (s.modifyLane l (fun p => { p with orphans := satAdd Config.top16 p.orphans 1 })).latchLane l .orphan)
    (.of_frame rfl rfl rfl rfl) (State.keepsSending_offerRecord _ _)

theorem State.keepsSending_grantTagged (l : Lane) (e : ReadEntry) (u : VisitTag) (c : GrantContext) :
    s.KeepsSending (s.grantTagged l e u c) := by
  unfold State.grantTagged
  dsimp only
  generalize price (s.findType e.tagCode) c.generation c.cls e = p
  have latched : s.KeepsSending (s.latchPricing l p) :=
    (s.keepsSending_latchLaneIf l _ _).trans (State.keepsSending_latchLaneIf _ l _ _)
  have staged : ∀ k stack i, s.KeepsSending ((s.latchPricing l p).stageItem l u k stack i) := fun _ _ _ =>
    latched.trans (.of_frame rfl rfl rfl rfl)
  split
  · exact (latched.trans (State.keepsSending_commitItem _ _ _ _ _ _)).trans (State.keepsSending_drainTagged _ _ _)
  · split
    · exact (staged _ _ _).trans (State.keepsSending_commitStack _ _ _)
    · exact staged _ _ _

end Sys2Proof.Machine

/-! ## What the rule of every request answers (9.1, R162, R163) -/

namespace Sys2Proof.Machine

variable {s : State}

/-- What a request's rule answers: a refusal, which leaves the state as it is (R163), or an execution, which leaves the
message in transmission as it is. -/
inductive Answer.Decided (s : State) : Answer → Prop
  | refused (c : ResponseCode) (d : Detail) : Answer.Decided s (refuse s c d)
  | accepted {t : State} (keeps : s.KeepsSending t) (d : Detail) : Answer.Decided s (accept t d)

theorem Answer.Decided.keepsSending {a : Answer} (h : a.Decided s) : s.KeepsSending a.state := by
  cases h with
  | refused c d => exact .refl s
  | accepted keeps d => exact keeps

theorem Answer.Decided.eq_refuse {a : Answer} (h : a.Decided s) (refused : a.code ≠ .ok) :
    a = refuse s a.code a.detail := by
  cases h with
  | refused c d => rfl
  | accepted keeps d => exact absurd rfl refused

/-! ### Checks and lookups -/

/-- A request that reports and changes nothing. -/
theorem reported_decided (d : Detail) : (accept s d).Decided s := .accepted (.refl s) d

/-- A request whose effect lies outside the transmitter and its queues. -/
theorem quiet_decided {t : State} {d : Detail} (trunkTx : t.trunkTx = s.trunkTx) (responses : t.responses = s.responses)
    (settlementQueue : t.settlementQueue = s.settlementQueue) (items : t.items = s.items) : (accept t d).Decided s :=
  .accepted (.of_frame trunkTx responses settlementQueue items) d

/-- A check that refuses, or lets the request go on. -/
theorem check_decided {c : Prop} [Decidable c] {code : ResponseCode} {d : Detail} {a : Answer} (go : a.Decided s) :
    (if c then refuse s code d else a).Decided s := by
  split
  · exact .refused _ _
  · exact go

theorem withVisit_decided {n : Nat} {absent : Detail} {k : VisitSlot → Answer} (go : ∀ v, (k v).Decided s) :
    (withVisit s n absent k).Decided s := by
  refine check_decided ?_
  split
  · exact .refused _ _
  · exact go _

theorem whenOpen_decided {v : VisitSlot} {a : Answer} (go : a.Decided s) : (whenOpen s v a).Decided s := by
  unfold whenOpen
  split
  · exact go
  · exact .refused _ _

theorem withAccount_decided {n : Nat} {k : AccountSlot → Answer} (go : ∀ a, (k a).Decided s) :
    (withAccount s n k).Decided s := by
  refine check_decided ?_
  split
  · exact .refused _ _
  · exact go _

/-! ### Visits (chapter 1) -/

theorem openVisit_decided (account : Nat) (lanes : Byte) (minutes : Nat) :
    (openVisit account lanes minutes s).Decided s := by
  unfold openVisit
  split
  · exact .refused _ _
  refine check_decided ?_
  split
  · exact .refused _ _
  split
  · exact .refused _ _
  split
  · exact .refused _ _
  split
  · exact .refused _ _
  · exact quiet_decided rfl rfl rfl rfl

theorem bindLanes_decided (visit : Nat) (lanes : Byte) : (bindLanes visit lanes s).Decided s := by
  unfold bindLanes
  split
  · exact .refused _ _
  refine withVisit_decided fun v => whenOpen_decided ?_
  split
  · exact .refused _ _
  · exact quiet_decided rfl rfl rfl rfl

theorem releaseLanes_decided (visit : Nat) (lanes : Byte) : (releaseLanes visit lanes s).Decided s := by
  unfold releaseLanes
  split
  · exact .refused _ _
  · exact withVisit_decided fun v => whenOpen_decided (quiet_decided rfl rfl rfl rfl)

theorem nextSegment_decided (visit account : Nat) : (nextSegment visit account s).Decided s := by
  refine check_decided (withVisit_decided fun v => whenOpen_decided (check_decided ?_))
  split
  · exact .refused _ _
  · exact quiet_decided rfl rfl rfl rfl

theorem closeVisit_decided (visit : Nat) : (closeVisit visit s).Decided s :=
  withVisit_decided fun v => whenOpen_decided (.accepted (s.keepsSending_leaveOpen v _) _)

theorem cancelVisit_decided (visit : Nat) : (cancelVisit visit s).Decided s :=
  withVisit_decided fun v => check_decided (.accepted (s.keepsSending_cancelVisitAt v) _)

theorem readVisit_decided (key : VisitKey) (segment : Nat) : (readVisit key segment s).Decided s := by
  cases key with
  | number n => exact withVisit_decided fun v => reported_decided _
  | slot n =>
    unfold readVisit
    dsimp only
    split
    · exact .refused _ _
    · exact reported_decided _

/-! ### Lanes and container types (chapters 2 and 5) -/

theorem configureLane_decided (lane enabled kind level reporting : Nat) :
    (configureLane lane enabled kind level reporting s).Decided s := by
  unfold configureLane
  split
  · exact check_decided (check_decided (check_decided (check_decided (quiet_decided rfl rfl rfl rfl))))
  · exact .refused _ _

theorem laneReset_decided (lane : Nat) : (laneReset lane s).Decided s := by
  unfold laneReset
  split
  · exact .refused _ _
  · exact .accepted (s.keepsSending_resetLane _) _

theorem readLane_decided (lane : Nat) : (readLane lane s).Decided s := by
  unfold readLane
  split
  · exact .refused _ _
  · exact reported_decided _

theorem writeType_decided (tagCode : Nat) (spec : TypeSpec) (family schedule : Nat) :
    (writeType tagCode spec family schedule s).Decided s := by
  unfold writeType
  split
  · exact .refused _ _
  · exact check_decided (quiet_decided rfl rfl rfl rfl)

theorem deleteType_decided (tagCode : Nat) : (deleteType tagCode s).Decided s := by
  refine check_decided ?_
  split
  · exact .refused _ _
  · exact quiet_decided rfl rfl rfl rfl

theorem readTypeByTagCode_decided (tagCode : Nat) : (readTypeByTagCode tagCode s).Decided s := by
  refine check_decided ?_
  split
  · exact .refused _ _
  · exact reported_decided _

theorem readTypeByIndex_decided (index : Nat) : (readTypeByIndex index s).Decided s := by
  refine check_decided ?_
  split
  · exact .refused _ _
  · exact reported_decided _

/-! ### The Tariff Store (chapter 6) -/

theorem loadWrite_decided (change : Generation → Generation) (detail : TariffIndex → Generation → Detail) :
    (loadWrite s change detail).Decided s := by
  unfold loadWrite
  split
  · exact quiet_decided rfl rfl rfl rfl
  · exact quiet_decided rfl rfl rfl rfl
  · exact .refused _ _
  · exact .refused _ _

theorem writeTariffHeader_decided (generation mode feeA feeB feeC feeD : Nat) (enables : Byte) :
    (writeTariffHeader generation mode feeA feeB feeC feeD enables s).Decided s := by
  unfold writeTariffHeader
  split
  · exact check_decided (loadWrite_decided _ _)
  · exact .refused _ _

theorem writeSchedule_decided (schedule defined depositA depositB depositC depositD bottle damaged ullage : Nat) :
    (writeSchedule schedule defined depositA depositB depositC depositD bottle damaged ullage s).Decided s := by
  unfold writeSchedule
  split
  · exact check_decided (loadWrite_decided _ _)
  · exact .refused _ _

theorem readTariff_decided (slot part : Nat) : (readTariff slot part s).Decided s := by
  unfold readTariff
  split
  · exact .refused _ _
  refine check_decided ?_
  split
  · exact reported_decided _
  split
  · exact reported_decided _
  · exact reported_decided _

theorem promoteTariff_decided (expected : Nat) : (promoteTariff expected s).Decided s := by
  refine check_decided ?_
  split
  · exact .refused _ _
  · exact check_decided (check_decided (check_decided (.accepted (s.keepsSending_promote _ _) _)))

theorem discardPending_decided : (discardPending s).Decided s := by
  unfold discardPending
  split
  · exact .refused _ _
  · exact quiet_decided rfl rfl rfl rfl

/-! ### Accounts (chapters 7 and 8) -/

theorem writeAccount_decided (slot account cls frozen ceiling : Nat) :
    (writeAccount slot account cls frozen ceiling s).Decided s := by
  unfold writeAccount
  split
  · refine check_decided ?_
    unfold writeAccountAt
    split
    · exact .refused _ _
    · exact check_decided (quiet_decided rfl rfl rfl rfl)
  · exact .refused _ _

theorem deleteAccount_decided (account : Nat) : (deleteAccount account s).Decided s :=
  withAccount_decided fun _ => check_decided (check_decided (quiet_decided rfl rfl rfl rfl))

theorem readAccount_decided (key : AccountKey) : (readAccount key s).Decided s := by
  cases key with
  | number n => exact withAccount_decided fun a => reported_decided _
  | slot n =>
    unfold readAccount
    dsimp only
    split
    · exact .refused _ _
    · exact reported_decided _

theorem issueContainers_decided (account family count : Nat) : (issueContainers account family count s).Decided s := by
  unfold issueContainers
  split
  · exact .refused _ _
  · exact check_decided (withAccount_decided fun a => .accepted (s.keepsSending_addFloat a _ _) _)

theorem setFloat_decided (account family value : Nat) : (setFloat account family value s).Decided s := by
  unfold setFloat
  split
  · exact .refused _ _
  · exact check_decided (withAccount_decided fun a => quiet_decided rfl rfl rfl rfl)

theorem freezeRun_decided (start count mark : Nat) : (freezeRun start count mark s).Decided s := by
  unfold freezeRun
  split
  · exact .refused _ _
  · exact check_decided (quiet_decided (s.freezeSlots_trunkTx _ _ _) (s.freezeSlots_responses _ _ _)
      (s.freezeSlots_settlementQueue _ _ _) (s.freezeSlots_items _ _ _))

theorem releaseHeld_decided (account amount : Nat) : (releaseHeld account amount s).Decided s :=
  check_decided (withAccount_decided fun a =>
    check_decided (check_decided (.accepted (s.keepsSending_releaseAt a _) _)))

/-! ### Every request -/

theorem setMasks_decided (part : Byte) (lanes : LaneMaskFields) : (setMasks part lanes s).Decided s := by
  unfold setMasks
  split
  · exact quiet_decided rfl rfl rfl rfl
  · exact .refused _ _

theorem answerTo_decided (r : Request) : (answerTo r s).Decided s := by
  cases r with
  | openVisit a ls m => exact openVisit_decided a ls m
  | bindLanes v ls => exact bindLanes_decided v ls
  | releaseLanes v ls => exact releaseLanes_decided v ls
  | nextSegment v a => exact nextSegment_decided v a
  | closeVisit v => exact closeVisit_decided v
  | cancelVisit v => exact cancelVisit_decided v
  | readVisit k i => exact readVisit_decided k i
  | configureLane l en k lv rep => exact configureLane_decided l en k lv rep
  | laneReset l => exact laneReset_decided l
  | readLane l => exact readLane_decided l
  | writeType t spec f sch => exact writeType_decided t spec f sch
  | deleteType t => exact deleteType_decided t
  | readTypeByTagCode t => exact readTypeByTagCode_decided t
  | readTypeByIndex i => exact readTypeByIndex_decided i
  | writeTariffHeader g m a b c d en => exact writeTariffHeader_decided g m a b c d en
  | writeSchedule k d a b c e bt f u => exact writeSchedule_decided k d a b c e bt f u
  | readTariff t p => exact readTariff_decided t p
  | promoteTariff e => exact promoteTariff_decided e
  | discardPending => exact discardPending_decided
  | writeAccount sl a cl fr ce => exact writeAccount_decided sl a cl fr ce
  | deleteAccount a => exact deleteAccount_decided a
  | readAccount k => exact readAccount_decided k
  | issueContainers a f n => exact issueContainers_decided a f n
  | setFloat a f n => exact setFloat_decided a f n
  | freezeRun st n m => exact freezeRun_decided st n m
  | dayClose =>
    exact quiet_decided s.clearPaid_trunkTx s.clearPaid_responses s.clearPaid_settlementQueue s.clearPaid_items
  | releaseHeld a n => exact releaseHeld_decided a n
  | identify => exact reported_decided _
  | readStatus => exact quiet_decided rfl rfl rfl rfl
  | setMasks p ls => exact setMasks_decided p ls
  | setPartParameters g a => exact quiet_decided rfl rfl rfl rfl
  | partReset => exact .accepted s.keepsSending_resetPart _

theorem answerForm_decided (f : RequestForm) : (answerForm f s).Decided s := by
  cases f with
  | request r => exact answerTo_decided r
  | unknown code => exact .refused _ _
  | malformed _ => exact .refused _ _

/-! ### Requests as commands and as frames (9.1) -/

/-- A request's command is served under the request's code (R160 to R162). -/
theorem exec_command (tag : Byte) (r : Request) (s : State) :
    exec (r.command tag) s = .next (s.serve tag r.code (answerTo r)) := by cases r <;> rfl

theorem exec_unknownRequest {tag code : Byte} (unlisted : codeListed code.toNat = false) (s : State) :
    exec (.unknownRequest tag code) s = .next (s.serve tag code (unknownRequest code)) := by
  change Host.Outcome.next (if codeListed code.toNat = true then s else _) = _
  rw [unlisted, if_neg Bool.false_ne_true]

theorem decodeRequest_unknown {code : Byte} (unlisted : codeListed code.toNat = false) (fields : List Byte) :
    decodeRequest (code :: fields) = .unknown code := by
  rw [decodeRequest, unlisted, if_neg Bool.false_ne_true]

/-- Settles O4: no rule refuses but with the state as it found it. -/
theorem refusedRequestChangesNothing : Obligations.RefusedRequestChangesNothing := by
  unfold Obligations.RefusedRequestChangesNothing
  refine ⟨fun tag r s room refused => ?_, fun tag payload s room refused => ?_, fun s tag code room unlisted => ⟨?_,
    fun fields => ?_⟩⟩
  · rw [exec_command]
    exact State.serve_refuse room ((answerTo_decided r).eq_refuse refused)
  · exact Host.Outcome.next.inj (State.serve_refuse room ((answerForm_decided _).eq_refuse refused))
  · rw [exec_unknownRequest unlisted]
    exact State.serve_refuse room rfl
  · rw [State.requestArrival, decodeRequest_unknown unlisted]
    exact Host.Outcome.next.inj (State.serve_refuse room rfl)

/-- Settles O5. -/
theorem fullResponseQueueDiscards : Obligations.FullResponseQueueDiscards := by
  unfold Obligations.FullResponseQueueDiscards
  intro s full t
  have discards : ∀ tag code m, s.serve tag code m = t := fun tag code m => s.serve_full tag code m full
  refine ⟨fun tag r => ?_, fun tag code unlisted => ?_, ?_, fun tag payload => discards _ _ _⟩
  · rw [exec_command, discards]
  · rw [exec_unknownRequest unlisted, discards]
  · exact congrArg Host.Outcome.next (if_neg (Nat.not_lt.2 full))

/-- Settles O6: the payload is read as the request that it encodes, under the request's code. -/
theorem requestFrameRunsRequest : Obligations.RequestFrameRunsRequest := by
  unfold Obligations.RequestFrameRunsRequest
  intro r f s wellFormed address kind payload
  have request : f.kind = FrameKind.request.code := kind
  have arrives : s.trunkFrameArrival f = s.requestArrival f.tag f.payload := by
    rw [State.trunkFrameArrival, if_pos address, if_pos request]
  have read : answerForm (decodeRequest (encodeRequest r)) = answerTo r := by
    rw [decodeRequest_encodeRequest wellFormed]
    rfl
  rw [exec_command, arrives, payload, State.requestArrival, read]
  rfl

end Sys2Proof.Machine

/-! ## What the end of every event established stays so (R171, R189, R193) -/

namespace Sys2Proof.Machine

variable {s t u : State}

/-- Attention and the transmitter stand, each on its own, as the end of an event left them. -/
structure State.EndKept (s t : State) : Prop where
  attention : s.attentionTrue → t.attentionTrue
  transmitter : s.TransmitterSound → t.TransmitterSound

theorem State.EndKept.refl (s : State) : s.EndKept s := ⟨id, id⟩

theorem State.EndKept.trans (h : s.EndKept t) (h' : t.EndKept u) : s.EndKept u :=
  ⟨h'.attention ∘ h.attention, h'.transmitter ∘ h.transmitter⟩

theorem State.EndKept.foldl {α : Type} {F : State → α → State} (one : ∀ (s : State) (a : α), s.EndKept (F s a))
    (as : List α) (s : State) : s.EndKept (as.foldl F s) :=
  List.foldlRecOn _ _ (.refl s) fun t kept a _ => kept.trans (one t a)

/-- An event that ends, the message in transmission as it was. -/
theorem State.KeepsSending.finish (h : s.KeepsSending t) : s.EndKept t.finish where
  attention _ := t.finish_attentionTrue
  transmitter sound := by
    refine t.finish_transmitterSound fun q part f sending => ?_
    have before : s.trunkTx = .sending q part f := h.trunkTx.symm.trans sending
    obtain ⟨m, attention, front, frames⟩ := sound.sending q part f before
    exact ⟨m, attention, h.oldest q part f before m front, frames⟩

/-- A transmitter that an event leaves idle chooses at its end. -/
theorem State.endKept_finish_idle (idle : t.trunkTx = .idle) : s.EndKept t.finish where
  attention _ := t.finish_attentionTrue
  transmitter _ := t.finish_transmitterSound fun _ _ _ sending => nomatch idle.symm.trans sending

/-- The flags and masks, and attention as it stands. -/
structure State.SameFlags (s t : State) : Prop where
  attention : t.attention = s.attention
  partFlags : t.partFlags = s.partFlags
  partMasks : t.partMasks = s.partMasks
  laneMasks : t.laneMasks = s.laneMasks
  laneFlags : ∀ l : Lane, t.lanes[l].flags = s.lanes[l].flags

theorem State.SameFlags.attentionTrue (h : s.SameFlags t) (start : s.attentionTrue) : t.attentionTrue := by
  unfold State.attentionTrue State.partFlagShows State.laneFlagShows at start ⊢
  simp only [h.attention, h.partFlags, h.partMasks, h.laneMasks, h.laneFlags]
  exact start

theorem State.SameFlags.of_lanes (attention : t.attention = s.attention) (partFlags : t.partFlags = s.partFlags)
    (partMasks : t.partMasks = s.partMasks) (laneMasks : t.laneMasks = s.laneMasks) (lanes : t.lanes = s.lanes) :
    s.SameFlags t :=
  ⟨attention, partFlags, partMasks, laneMasks, fun l => by rw [lanes]⟩

theorem State.sameFlags_modifyLane (l : Lane) {f : LanePort → LanePort} (h : ∀ p, (f p).flags = p.flags) :
    s.SameFlags (s.modifyLane l f) := by
  refine ⟨rfl, rfl, rfl, rfl, fun m => ?_⟩
  rw [State.modifyLane_lanes, upd_get]
  split
  · next e => rw [h, e]
  · rfl

/-- A change outside flags, masks, the transmitter and its queues is no matter of the end of an event. -/
theorem State.SameFlags.endKept (h : s.SameFlags t) (trunkTx : t.trunkTx = s.trunkTx)
    (responses : t.responses = s.responses) (settlementQueue : t.settlementQueue = s.settlementQueue)
    (items : t.items = s.items) : s.EndKept t where
  attention := h.attentionTrue
  transmitter sound := by
    have oldest : ∀ q, t.oldest q = s.oldest q := fun q => by
      cases q <;> simp only [State.oldest, responses, settlementQueue, items]
    refine ⟨fun idle => ?_, fun q part f sending => ?_⟩
    · rw [responses, settlementQueue, items]
      exact sound.idle (trunkTx.symm.trans idle)
    · rw [oldest]
      exact sound.sending q part f (trunkTx.symm.trans sending)

variable (s)

/-! ### Requests and frames on the trunk -/

theorem State.endKept_overrun : s.EndKept s.overrun :=
  State.KeepsSending.finish (.of_frame rfl rfl rfl rfl)

theorem State.endKept_serve (tag code : Byte) {m : State → Answer} (h : (m s).Decided s) :
    s.EndKept (s.serve tag code m) := by
  unfold State.serve
  split
  · exact (h.keepsSending.trans (State.keepsSending_respond _ _)).finish
  · exact s.endKept_overrun

theorem State.endKept_trunkError : s.EndKept s.trunkError :=
  State.KeepsSending.finish (.of_frame rfl rfl rfl rfl)

theorem State.endKept_trunkFrameArrival (f : Frame) : s.EndKept (s.trunkFrameArrival f) := by
  unfold State.trunkFrameArrival
  split
  · split
    · exact s.endKept_serve _ _ (answerForm_decided _)
    · exact s.endKept_trunkError
  · split
    · exact State.KeepsSending.finish (.of_frame rfl rfl rfl rfl)
    · exact s.endKept_trunkError

theorem State.endKept_trunkByte (b : Byte) : s.EndKept (s.trunkByte b) := by
  have received : s.EndKept (s.setTrunkRx (s.trunkRx.receive b).2) :=
    State.SameFlags.endKept (.of_lanes rfl rfl rfl rfl rfl) rfl rfl rfl rfl
  refine received.trans (.foldl (fun t e => ?_) _ _)
  cases e with
  | error => exact t.endKept_trunkError
  | frame f => exact t.endKept_trunkFrameArrival f

/-! ### Arrivals on the lanes (R36 to R41) -/

theorem State.endKept_laneErrorArrival (l : Lane) : s.EndKept (s.laneErrorArrival l) := by
  unfold State.laneErrorArrival
  split
  · exact State.KeepsSending.finish (.of_frame rfl rfl rfl rfl)
  · exact .refl s

theorem State.keepsSending_overrunReads (l : Lane) (n : Nat) : s.KeepsSending (s.overrunReads l n) :=
  .of_frame rfl rfl rfl rfl

theorem State.endKept_singleArrival (l : Lane) (r : SingleRead) : s.EndKept (s.singleArrival l r) := by
  unfold State.singleArrival
  split
  · exact .refl s
  split
  · exact s.endKept_laneErrorArrival l
  split
  · exact (s.keepsSending_overrunReads l 1).finish
  · exact (s.keepsSending_acceptReads l _).finish

theorem State.endKept_stackArrival (l : Lane) (stack : Byte) (reads : List CrateRead) :
    s.EndKept (s.stackArrival l stack reads) := by
  unfold State.stackArrival
  split
  · exact .refl s
  split
  · exact s.endKept_laneErrorArrival l
  split
  · exact s.endKept_laneErrorArrival l
  split
  · exact s.endKept_laneErrorArrival l
  split
  · exact (s.keepsSending_overrunReads l _).finish
  · exact (s.keepsSending_acceptReads l _).finish

theorem State.keepsSending_withdrawStack (l : Lane) (n : Nat) : s.KeepsSending (s.withdrawStack l n) := by
  unfold State.withdrawStack
  split
  · exact (s.keepsSending_removeItems l _ _).trans (State.keepsSending_drainTagged _ _ _)
  · exact s.keepsSending_removeItems l _ _

theorem State.endKept_cancelArrival (l : Lane) (stack : Byte) : s.EndKept (s.cancelArrival l stack) := by
  unfold State.cancelArrival
  split
  · exact .refl s
  split
  · exact (s.keepsSending_withdrawStack l _).finish
  · exact State.KeepsSending.finish (.of_frame rfl rfl rfl rfl)

theorem State.endKept_noticeArrival (l : Lane) (bytes : List Byte) : s.EndKept (s.noticeArrival l bytes) := by
  unfold State.noticeArrival
  split
  · exact .refl s
  split
  · exact s.endKept_laneErrorArrival l
  · exact (s.keepsSending_placeItem _).finish

theorem State.endKept_laneFrameArrival (l : Lane) (f : Frame) : s.EndKept (s.laneFrameArrival l f) := by
  unfold State.laneFrameArrival
  split
  · exact s.endKept_singleArrival l _
  · exact s.endKept_stackArrival l _ _
  · exact s.endKept_cancelArrival l _
  · exact s.endKept_noticeArrival l _
  · exact s.endKept_laneErrorArrival l

theorem State.endKept_laneByte (l : Lane) (b : Byte) : s.EndKept (s.laneByte l b) := by
  have received : s.EndKept (s.modifyLane l fun p => { p with rx := (p.rx.receive b).2 }) :=
    State.SameFlags.endKept (State.sameFlags_modifyLane l fun _ => rfl) rfl rfl rfl rfl
  refine received.trans (.foldl (fun t e => ?_) _ _)
  cases e with
  | error => exact t.endKept_laneErrorArrival l
  | frame f => exact t.endKept_laneFrameArrival l f

/-! ### Timers (R14 to R20, R173) -/

theorem State.endKept_expireOpen (v : VisitSlot) : s.EndKept (s.expireOpen v) :=
  ((s.keepsSending_leaveOpen v .expired).trans (u := State.latchPart _ .visitExpired) (.of_frame rfl rfl rfl rfl)).finish

theorem State.endKept_expireGrace (v : VisitSlot) : s.EndKept (s.expireGrace v) := by
  have settles : ∀ t : State, t.KeepsSending ((t.clearTagged v).enterSettling v) := fun _ => .of_frame rfl rfl rfl rfl
  exact ((s.keepsSending_abandon (s.visitTag v)).trans (settles _)).finish

theorem State.endKept_tickVisit (v : VisitSlot) : s.EndKept (s.tickVisit v) := by
  have counted : s.EndKept (s.counted v) := State.SameFlags.endKept (.of_lanes rfl rfl rfl rfl rfl) rfl rfl rfl rfl
  rw [State.tickVisit_eq]
  split
  · exact counted.trans (State.endKept_expireOpen _ v)
  split
  · exact counted.trans (State.endKept_expireGrace _ v)
  · exact counted

/-! ### Completions (R50, R189, R193) -/

/-- The second frame of a message follows the first, so the message has count lines (R189). -/
theorem State.endKept_completeFirstFrame : s.EndKept s.completeFirstFrame := by
  unfold State.completeFirstFrame
  split
  · next q f sending =>
    split
    · next m front =>
      refine ⟨(State.SameFlags.of_lanes (t := s.setTrunkTx _) rfl rfl rfl rfl rfl).attentionTrue, fun sound => ?_⟩
      obtain ⟨m', _, front', -, first, -⟩ := sound.sending q .first f sending
      obtain rfl : m = m' := Option.some.inj (front.symm.trans front')
      refine ⟨nofun, fun q' part' f' second => ?_⟩
      obtain ⟨rfl, rfl, rfl⟩ := TrunkTx.sending.inj second
      exact ⟨m, s.attention, by cases q <;> exact front, nofun, nofun, fun _ => ⟨(first rfl).1, rfl⟩⟩
    · exact .refl s
  · exact .refl s
  · exact .refl s
  · exact .refl s

theorem State.endKept_laneFrameCompletion (l : Lane) :
    s.EndKept (s.modifyLane l fun p => { p with txQueue := p.txQueue.drop 1 }) :=
  State.SameFlags.endKept (State.sameFlags_modifyLane l fun _ => rfl) rfl rfl rfl rfl

theorem State.endKept_completeMessage : s.EndKept s.completeMessage := by
  unfold State.completeMessage
  split
  · exact State.endKept_finish_idle rfl
  · exact State.endKept_finish_idle rfl
  · exact .refl s
  · exact .refl s

/-! ### Grants and settlements -/

variable {s}

theorem execGrant_endKept (h : execGrant s = .next t) : s.EndKept t := by
  unfold execGrant at h
  split at h
  · cases h; exact .refl s
  next l _ =>
  split at h
  · cases h; exact .refl s
  next e rest _ =>
  have taken : s.KeepsSending (s.takeEntry l rest) := .of_frame rfl rfl rfl rfl
  split at h
  · cases h
    exact (taken.trans (State.keepsSending_grantOrphan _ l e)).finish
  split at h
  · cases h
  · cases h
    exact (taken.trans (State.keepsSending_grantTagged _ l e _ _)).finish

theorem execSettlement_endKept (h : execSettlement s = .next t) : s.EndKept t := by
  unfold execSettlement at h
  split at h
  · cases h; exact .refl s
  split at h
  · cases h; exact .refl s
  split at h
  · split at h
    · cases h
      exact (s.keepsSending_settleVisit _ _ _).finish
    · cases h
  · cases h

/-! ### Every command -/

theorem State.endKept_powerOn : s.EndKept s.powerOn := by
  have reset : State.reset.EndKept s.powerOn := State.SameFlags.endKept (.of_lanes rfl rfl rfl rfl rfl) rfl rfl rfl rfl
  exact ⟨fun _ => reset.attention State.reset_attentionTrue, fun _ => reset.transmitter State.reset_transmitterSound⟩

theorem exec_endKept (c : Instr) (h : exec c s = .next t) : s.EndKept t := by
  have goes : ∀ {u : State}, s.EndKept u → (Host.Outcome.next u : Host.Outcome State Fault Refusal) = .next t →
      s.EndKept t := fun kept e => by cases e; exact kept
  have served : ∀ {tag : Byte} (r : Request), exec (r.command tag) s = .next t → s.EndKept t := fun {tag} r e =>
    goes (s.endKept_serve tag r.code (answerTo_decided r)) ((exec_command tag r s).symm.trans e)
  cases c with
  | powerOnReset => exact goes State.endKept_powerOn h
  | openVisit tag account lanes minutes => exact served (.openVisit account lanes minutes) h
  | bindLanes tag visit lanes => exact served (.bindLanes visit lanes) h
  | releaseLanes tag visit lanes => exact served (.releaseLanes visit lanes) h
  | nextSegment tag visit account => exact served (.nextSegment visit account) h
  | closeVisit tag visit => exact served (.closeVisit visit) h
  | cancelVisit tag visit => exact served (.cancelVisit visit) h
  | readVisit tag key segment => exact served (.readVisit key segment) h
  | configureLane tag lane enabled kind level reporting =>
    exact served (.configureLane lane enabled kind level reporting) h
  | laneReset tag lane => exact served (.laneReset lane) h
  | readLane tag lane => exact served (.readLane lane) h
  | writeType tag tagCode spec family schedule => exact served (.writeType tagCode spec family schedule) h
  | deleteType tag tagCode => exact served (.deleteType tagCode) h
  | readTypeByTagCode tag tagCode => exact served (.readTypeByTagCode tagCode) h
  | readTypeByIndex tag index => exact served (.readTypeByIndex index) h
  | writeTariffHeader tag generation mode feeA feeB feeC feeD enables =>
    exact served (.writeTariffHeader generation mode feeA feeB feeC feeD enables) h
  | writeSchedule tag schedule defined depositA depositB depositC depositD bottle damaged ullage =>
    exact served (.writeSchedule schedule defined depositA depositB depositC depositD bottle damaged ullage) h
  | readTariff tag slot part => exact served (.readTariff slot part) h
  | promoteTariff tag expected => exact served (.promoteTariff expected) h
  | discardPending tag => exact served .discardPending h
  | writeAccount tag slot account cls frozen ceiling => exact served (.writeAccount slot account cls frozen ceiling) h
  | deleteAccount tag account => exact served (.deleteAccount account) h
  | readAccount tag key => exact served (.readAccount key) h
  | issueContainers tag account family count => exact served (.issueContainers account family count) h
  | setFloat tag account family value => exact served (.setFloat account family value) h
  | freezeRun tag start count mark => exact served (.freezeRun start count mark) h
  | dayClose tag => exact served .dayClose h
  | releaseHeld tag account amount => exact served (.releaseHeld account amount) h
  | identify tag => exact served .identify h
  | readStatus tag => exact served .readStatus h
  | setMasks tag part lanes => exact served (.setMasks part lanes) h
  | setPartParameters tag grace aging => exact served (.setPartParameters grace aging) h
  | partReset tag => exact served .partReset h
  | unknownRequest tag code =>
    refine goes ?_ h
    split
    · exact .refl s
    · exact s.endKept_serve _ _ (.refused _ _)
  | requestOverrun =>
    refine goes ?_ h
    split
    · exact .refl s
    · exact s.endKept_overrun
  | downstreamFrame frame => exact goes (s.endKept_trunkFrameArrival frame) h
  | trunkFrameError => exact goes s.endKept_trunkError h
  | singleRead lane read => exact goes (s.endKept_singleArrival lane read) h
  | stackFrame lane stack reads => exact goes (s.endKept_stackArrival lane stack reads) h
  | stackCancel lane stack => exact goes (s.endKept_cancelArrival lane stack) h
  | laneNotice lane bytes => exact goes (s.endKept_noticeArrival lane bytes) h
  | laneFrameError lane => exact goes (s.endKept_laneErrorArrival lane) h
  | grant => exact execGrant_endKept h
  | tick => exact goes (.foldl State.endKept_tickVisit allVisits s) h
  | openTimeExpiry slot =>
    refine goes ?_ h
    split
    · exact s.endKept_expireOpen slot
    · exact .refl s
  | graceExpiry slot =>
    refine goes ?_ h
    split
    · exact s.endKept_expireGrace slot
    · exact .refl s
  | settlement => exact execSettlement_endKept h
  | laneFrameCompletion lane =>
    exact goes (s.endKept_laneFrameCompletion lane) h
  | firstFrameCompletion => exact goes s.endKept_completeFirstFrame h
  | messageCompletion => exact goes s.endKept_completeMessage h
  | byteReceived link byte =>
    refine goes ?_ h
    cases link with
    | lane l => exact s.endKept_laneByte l byte
    | trunk => exact s.endKept_trunkByte byte

theorem step_endKept (h : step s = .next t) : s.EndKept t := by
  unfold step at h
  split at h
  · cases h; exact .refl s
  · next c rest _ =>
    have waiting : s.EndKept (s.setPending rest) :=
      State.SameFlags.endKept (.of_lanes rfl rfl rfl rfl rfl) rfl rfl rfl rfl
    exact waiting.trans (exec_endKept c h)

/-- Settles O12: an event either ends with the message in transmission as it was, or changes nothing that its end looks
at; the first frame's completion goes on with the same message. -/
theorem attentionKept : Obligations.AttentionKept :=
  ⟨fun _ _ start h => (step_endKept h).attention start, fun _ _ start h => (step_endKept h).transmitter start⟩

end Sys2Proof.Machine

/-! ## Identify, Read Status, Set Masks and Set Part Parameters (chapter 9) -/

namespace Sys2Proof

/-- The six lane mask sets of a Set Masks, as the wire brings them. -/
def LaneMaskFields.words (m : LaneMaskFields) : List Word16 := [m.lane0, m.lane1, m.lane2, m.lane3, m.lane4, m.lane5]

/-- The lane mask sets that a Set Masks writes (R170). -/
def LaneMaskFields.sets (m : LaneMaskFields) : Vector Machine.LaneFlags 6 :=
  #v[m.lane0.setWidth 10, m.lane1.setWidth 10, m.lane2.setWidth 10, m.lane3.setWidth 10, m.lane4.setWidth 10,
    m.lane5.setWidth 10]

end Sys2Proof

namespace Sys2Proof.Machine

variable {s : State}

/-- Settles O40. -/
theorem identifyAnswers : Obligations.IdentifyAnswers := by
  unfold Obligations.IdentifyAnswers
  intro s tag room
  exact State.next_serve_accept room (m := identify) rfl

/-! ### Read Status (R168, R169) -/

theorem State.clearFlags_attentionNow (s : State) : s.clearFlags.attentionNow = false := by
  rw [Bool.eq_false_iff, Ne, State.attentionNow_iff]
  rintro (⟨f, latched, -⟩ | ⟨l, f, latched, -⟩)
  · simp [State.clearFlags, State.setPartFlags, State.mapLanes] at latched
  · simp [State.clearFlags, State.mapLanes] at latched

/-- Settles O41: with every flag cleared, attention is clear. -/
theorem readStatusClears : Obligations.ReadStatusClears := by
  unfold Obligations.ReadStatusClears
  intro s tag room
  refine ⟨_, s.statusReport, State.next_serve_accept room (m := readStatus) rfl, ?_, rfl, fun l => updAll_get _ _ l,
    rfl, rfl, rfl, rfl, rfl, rfl, ?_, ?_⟩
  · have clear : (s.clearFlags.answered tag 0x39#8 .ok (.status s.statusReport)).attentionNow = false :=
      s.clearFlags_attentionNow
    refine (State.finish_frame _).trans ?_
    rw [clear]
    rfl
  · exact (congrArg (List.map _) (toList_eq_map s.visits)).trans List.map_map
  · exact (congrArg (List.map _) (toList_eq_map s.tariffs)).trans List.map_map

/-! ### Set Masks (R170) -/

theorem partMasksOf_eq {b : Byte} (h : b.toNat < 128) : partMasksOf b = some (b.setWidth 7) := if_pos h

theorem laneMasksOf_eq {w : Word16} (h : w.toNat < 1024) : laneMasksOf w = some (w.setWidth 10) := if_pos h

theorem lt_of_partMasksOf {b : Byte} {p : PartFlags} (h : partMasksOf b = some p) : b.toNat < 128 := by
  by_contra above
  exact nomatch (if_neg above).symm.trans h

theorem lt_of_laneMasksOf {w : Word16} {m : LaneFlags} (h : laneMasksOf w = some m) : w.toNat < 1024 := by
  by_contra above
  exact nomatch (if_neg above).symm.trans h

/-- A mask set that names no flag of its kind (R170). -/
theorem setMasks_malformed {part : Byte} {m : LaneMaskFields}
    (bad : 128 ≤ part.toNat ∨ ∃ w ∈ m.words, 1024 ≤ w.toNat) : setMasks part m s = refuse s .malformed .empty := by
  unfold setMasks
  split
  · next hp h0 h1 h2 h3 h4 h5 =>
    have fits : ∀ w ∈ m.words, w.toNat < 1024 := by
      simp only [LaneMaskFields.words, List.forall_mem_cons]
      exact ⟨lt_of_laneMasksOf h0, lt_of_laneMasksOf h1, lt_of_laneMasksOf h2, lt_of_laneMasksOf h3,
        lt_of_laneMasksOf h4, lt_of_laneMasksOf h5, nofun⟩
    rcases bad with above | ⟨w, field, above⟩
    · exact absurd (lt_of_partMasksOf hp) (Nat.not_lt.2 above)
    · exact absurd (fits w field) (Nat.not_lt.2 above)
  · rfl

theorem setMasks_writes {part : Byte} {m : LaneMaskFields} (hp : part.toNat < 128)
    (fits : ∀ w ∈ m.words, w.toNat < 1024) : setMasks part m s =
      accept (s.setMaskSets (part.setWidth 7) m.sets)
        (.masks (part.setWidth 7) m.sets (s.setMaskSets (part.setWidth 7) m.sets).attentionNow) := by
  simp only [LaneMaskFields.words, List.forall_mem_cons] at fits
  obtain ⟨h0, h1, h2, h3, h4, h5, -⟩ := fits
  unfold setMasks
  rw [partMasksOf_eq hp, laneMasksOf_eq h0, laneMasksOf_eq h1, laneMasksOf_eq h2, laneMasksOf_eq h3, laneMasksOf_eq h4,
    laneMasksOf_eq h5]
  rfl

/-! ### Set Part Parameters (R172) -/

theorem appliedGrace_eq (n : Nat) : appliedGrace n = max 1 (min n 60) := by
  unfold appliedGrace
  split <;> omega

/-- Settles O42: the masks as written decide the attention that the response and the part show. -/
theorem masksAndParameters : Obligations.MasksAndParameters := by
  unfold Obligations.MasksAndParameters
  intro s tag room
  refine ⟨fun part m => ⟨fun bad => State.serve_refuse room (setMasks_malformed bad), fun hp fits => ?_⟩,
    fun grace aging => ?_⟩
  · refine ⟨_, m.sets, State.next_serve_accept room (setMasks_writes hp fits), rfl, ?_, State.finish_attentionTrue _⟩
    rw [State.finish_attention]
    exact State.finish_frame _
  · rw [← appliedGrace_eq]
    exact State.next_serve_accept room (m := setPartParameters grace aging) rfl

end Sys2Proof.Machine

/-! ## Requests and lane frames, read from their bytes (10.3, R182, R184 to R187) -/

namespace Sys2Proof

/-- Settles O7. -/
theorem requestRoundTrip : Obligations.RequestRoundTrip := by
  unfold Obligations.RequestRoundTrip
  exact fun _ wellFormed => decodeRequest_encodeRequest wellFormed

/-! ### Bytes of a word and of a slot map, taken apart again -/

theorem bytesOfWord_append (a b : Byte) : bytesOfWord (a ++ b) = [a, b] := by
  have := a.isLt
  have := b.isLt
  have high : (((a ++ b) >>> 8).setWidth 8 : Byte) = a := by
    refine BitVec.eq_of_toNat_eq ?_
    simp only [BitVec.toNat_setWidth, BitVec.toNat_ushiftRight, toNat_append_byte, Nat.shiftRight_eq_div_pow]
    omega
  have low : ((a ++ b).setWidth 8 : Byte) = b := by
    refine BitVec.eq_of_toNat_eq ?_
    simp only [BitVec.toNat_setWidth, toNat_append_byte]
    omega
  rw [bytesOfWord, high, low]

theorem mapBytes_mapOf (a b c : Byte) : mapBytes (mapOf a b c) = [a, b, c] := by
  have := a.isLt
  have := b.isLt
  have := c.isLt
  have high : ((mapOf a b c >>> 16).setWidth 8 : Byte) = a := by
    refine BitVec.eq_of_toNat_eq ?_
    simp only [mapOf, BitVec.toNat_setWidth, BitVec.toNat_ushiftRight, toNat_append_byte, Nat.shiftRight_eq_div_pow]
    omega
  have middle : ((mapOf a b c >>> 8).setWidth 8 : Byte) = b := by
    refine BitVec.eq_of_toNat_eq ?_
    simp only [mapOf, BitVec.toNat_setWidth, BitVec.toNat_ushiftRight, toNat_append_byte, Nat.shiftRight_eq_div_pow]
    omega
  have low : ((mapOf a b c).setWidth 8 : Byte) = c := by
    refine BitVec.eq_of_toNat_eq ?_
    simp only [mapOf, BitVec.toNat_setWidth, toNat_append_byte]
    omega
  rw [mapBytes, high, middle, low]

/-- The three bytes of a slot map as a lane frame carries them, put together again. -/
theorem mapOf_mapBytes (m : SlotMap) :
    mapOf ((m >>> 16).setWidth 8) ((m >>> 8).setWidth 8) (m.setWidth 8) = m := by
  have := m.isLt
  refine BitVec.eq_of_toNat_eq ?_
  simp only [mapOf, toNat_append_byte, BitVec.toNat_setWidth, BitVec.toNat_ushiftRight, Nat.shiftRight_eq_div_pow]
  omega

/-! ### Conditions -/

theorem conditionOf_conditionCode (c : Condition) : conditionOf (conditionCode c) = some c := by cases c <;> rfl

theorem conditionCode_of_conditionOf {b : Byte} {c : Condition} (h : conditionOf b = some c) : conditionCode c = b := by
  unfold conditionOf at h
  split at h
  · next code => cases h; exact BitVec.eq_of_toNat_eq code.symm
  · next code => cases h; exact BitVec.eq_of_toNat_eq code.symm
  · next code => cases h; exact BitVec.eq_of_toNat_eq code.symm
  · cases h

/-! ### The reads of a frame -/

theorem CrateRead.bytes_length (r : CrateRead) : r.bytes.length = 6 := rfl

theorem flatMap_bytes_length (rs : List CrateRead) : (rs.flatMap CrateRead.bytes).length = 6 * rs.length := by
  induction rs with
  | nil => rfl
  | cons r rs ih => rw [List.flatMap_cons, List.length_append, ih, r.bytes_length, List.length_cons]; omega

/-- A read from the six bytes that carry it: the bytes are the read's. -/
theorem CrateRead.bytes_mk {t1 t0 c a b d : Byte} {condition : Condition} (h : conditionOf c = some condition) :
    CrateRead.bytes ⟨t1 ++ t0, condition, mapOf a b d⟩ = [t1, t0, c, a, b, d] := by
  rw [CrateRead.bytes, bytesOfWord_append, mapBytes_mapOf, conditionCode_of_conditionOf h]
  rfl

theorem decodeReads_flatMap (rs : List CrateRead) : decodeReads rs.length (rs.flatMap CrateRead.bytes) = some rs := by
  induction rs with
  | nil => rfl
  | cons r rs ih =>
    have bytes : (r :: rs).flatMap CrateRead.bytes = _ :: _ :: conditionCode r.condition :: _ :: _ :: _ ::
      rs.flatMap CrateRead.bytes := rfl
    rw [List.length_cons, bytes, decodeReads, conditionOf_conditionCode, ih, word_bytes, mapOf_mapBytes]

theorem flatMap_of_decodeReads {n : Nat} {bytes : List Byte} {rs : List CrateRead}
    (h : decodeReads n bytes = some rs) : rs.length = n ∧ rs.flatMap CrateRead.bytes = bytes := by
  induction n generalizing bytes rs with
  | zero =>
    unfold decodeReads at h
    split at h
    · cases h; exact ⟨rfl, rfl⟩
    · next e => cases e
    · cases h
  | succ n ih =>
    unfold decodeReads at h
    split at h
    · next none => exact absurd none (Nat.succ_ne_zero n)
    · next e =>
      cases e
      split at h
      · next condition read =>
        cases h
        obtain ⟨length, rest⟩ := ih read
        exact ⟨congrArg (· + 1) length, by rw [List.flatMap_cons, CrateRead.bytes_mk condition, rest]; rfl⟩
      · cases h
    · cases h

/-! ### Lane frames -/

theorem decodeSingle_payload (r : SingleRead) : decodeSingle (LaneArrival.single r).payload = some r := by
  cases r with
  | crate r =>
    have bytes : (LaneArrival.single (.crate r)).payload = [0, _, _, conditionCode r.condition, _, _, _] := rfl
    rw [bytes, decodeSingle, if_pos rfl, conditionOf_conditionCode, word_bytes, mapOf_mapBytes]
    rfl
  | keg t c m =>
    have bytes : (LaneArrival.single (.keg t c m)).payload = [1, _, _, conditionCode c, _, _] := rfl
    rw [bytes, decodeSingle, if_pos rfl, conditionOf_conditionCode, word_bytes, word_bytes]
    rfl

theorem payload_of_decodeSingle {bytes : List Byte} {r : SingleRead} (h : decodeSingle bytes = some r) :
    bytes = (LaneArrival.single r).payload := by
  unfold decodeSingle at h
  split at h
  · split at h
    · next kind =>
      obtain ⟨c, condition, rfl⟩ := Option.map_eq_some_iff.1 h
      rw [LaneArrival.payload, CrateRead.bytes_mk condition, kind]
    · cases h
  · split at h
    · next kind =>
      obtain ⟨c, condition, rfl⟩ := Option.map_eq_some_iff.1 h
      rw [LaneArrival.payload, bytesOfWord_append, bytesOfWord_append, conditionCode_of_conditionOf condition, kind]
      rfl
    · cases h
  · cases h

theorem decodeStack_payload {n : Byte} {rs : List CrateRead} (h : (LaneArrival.stack n rs).wellFormed = true) :
    decodeStack (LaneArrival.stack n rs).payload = some (.stack n rs) := by
  simp only [LaneArrival.wellFormed, Bool.and_eq_true, decide_eq_true_eq] at h
  obtain ⟨least, most⟩ := h
  have count : (BitVec.ofNat 8 rs.length).toNat = rs.length := Nat.mod_eq_of_lt (by omega)
  have nonzero : BitVec.ofNat 8 rs.length ≠ 0 := fun e => by
    have none : rs.length = 0 := count.symm.trans (congrArg BitVec.toNat e)
    omega
  rw [LaneArrival.payload, decodeStack, count, if_neg (not_or.2 ⟨nonzero, Nat.not_lt.2 most⟩), decodeReads_flatMap]
  rfl

theorem payload_of_decodeStack {bytes : List Byte} {a : LaneArrival} (h : decodeStack bytes = some a) :
    a.wellFormed = true ∧ a.kind = 0x22#8 ∧ bytes = a.payload := by
  unfold decodeStack at h
  split at h
  · next number count rest =>
    split at h
    · cases h
    · next range =>
      obtain ⟨nonzero, most⟩ := not_or.1 range
      obtain ⟨rs, read, rfl⟩ := Option.map_eq_some_iff.1 h
      obtain ⟨length, flat⟩ := flatMap_of_decodeReads read
      have least : count.toNat ≠ 0 := fun e => nonzero (BitVec.eq_of_toNat_eq e)
      refine ⟨?_, rfl, ?_⟩
      · simp only [LaneArrival.wellFormed, Bool.and_eq_true, decide_eq_true_eq]
        omega
      · rw [LaneArrival.payload, length, BitVec.ofNat_toNat, BitVec.setWidth_eq, flat]
  · cases h

/-- A lane frame that R182 and R186 lay out is read as what it carries. -/
theorem decodeLaneFrame_payload {a : LaneArrival} {f : Frame} (wellFormed : a.wellFormed = true)
    (address : f.address = 0) (kind : f.kind = a.kind) (payload : f.payload = a.payload) :
    decodeLaneFrame f = some a := by
  rw [decodeLaneFrame, if_neg (not_not.2 address), kind, payload]
  cases a with
  | single r => exact congrArg (Option.map LaneArrival.single) (decodeSingle_payload r)
  | stack n rs => exact decodeStack_payload wellFormed
  | cancel n => rfl
  | notice bytes => exact if_pos (of_decide_eq_true wellFormed)

theorem decodeLaneFrame_address {f : Frame} (address : f.address ≠ 0) : decodeLaneFrame f = none := if_pos address

/-- What a lane frame is read as, it carries, laid out as R182 and R186 say. -/
theorem payload_of_decodeLaneFrame {f : Frame} {a : LaneArrival} (h : decodeLaneFrame f = some a) :
    a.wellFormed = true ∧ f.kind = a.kind ∧ f.payload = a.payload := by
  unfold decodeLaneFrame at h
  split at h
  · cases h
  split at h
  · next kind =>
    obtain ⟨r, read, rfl⟩ := Option.map_eq_some_iff.1 h
    exact ⟨rfl, BitVec.eq_of_toNat_eq kind, payload_of_decodeSingle read⟩
  · next kind =>
    obtain ⟨wellFormed, stack, payload⟩ := payload_of_decodeStack h
    exact ⟨wellFormed, stack ▸ BitVec.eq_of_toNat_eq kind, payload⟩
  · next kind =>
    split at h
    · next n payload => cases h; exact ⟨rfl, BitVec.eq_of_toNat_eq kind, payload⟩
    · cases h
  · next kind =>
    split at h
    · next short => cases h; exact ⟨decide_eq_true short, BitVec.eq_of_toNat_eq kind, rfl⟩
    · cases h
  · cases h

/-- The lengths and kinds that no lane frame of R182 and R186 has. -/
def Frame.laneMisfit (f : Frame) : Prop :=
  (f.kind ≠ 0x21#8 ∧ f.kind ≠ 0x22#8 ∧ f.kind ≠ 0x23#8 ∧ f.kind ≠ 0x24#8) ∨
  (f.kind = 0x21#8 ∧ f.payload.length ≠ 7 ∧ f.payload.length ≠ 6) ∨
  (f.kind = 0x22#8 ∧ ∀ n k rest, f.payload = n :: k :: rest →
    k.toNat = 0 ∨ 16 < k.toNat ∨ rest.length ≠ 6 * k.toNat) ∨
  (f.kind = 0x23#8 ∧ f.payload.length ≠ 1) ∨ (f.kind = 0x24#8 ∧ 32 < f.payload.length)

/-- A frame of a kind or a length that no arrival has carries no arrival. -/
theorem Frame.laneMisfit.payload_ne {f : Frame} (misfit : f.laneMisfit) {a : LaneArrival}
    (wellFormed : a.wellFormed = true) (kind : f.kind = a.kind) : f.payload ≠ a.payload := by
  intro payload
  unfold Frame.laneMisfit at misfit
  rw [kind, payload] at misfit
  cases a with
  | single r =>
    have length : (LaneArrival.single r).payload.length = 7 ∨ (LaneArrival.single r).payload.length = 6 := by
      cases r with
      | crate r => exact .inl rfl
      | keg t c m => exact .inr rfl
    have other : (LaneArrival.single r).payload.length ≠ 7 ∧ (LaneArrival.single r).payload.length ≠ 6 := by
      simpa [LaneArrival.kind] using misfit
    omega
  | stack n rs =>
    simp only [LaneArrival.wellFormed, Bool.and_eq_true, decide_eq_true_eq] at wellFormed
    have count : (BitVec.ofNat 8 rs.length).toNat = rs.length := Nat.mod_eq_of_lt (by omega)
    have all : ∀ m k rest, (LaneArrival.stack n rs).payload = m :: k :: rest →
        k.toNat = 0 ∨ 16 < k.toNat ∨ rest.length ≠ 6 * k.toNat := by simpa [LaneArrival.kind] using misfit
    have bad := all n _ _ rfl
    rw [count, flatMap_bytes_length] at bad
    omega
  | cancel n => simp [LaneArrival.kind, LaneArrival.payload] at misfit
  | notice bytes =>
    have most : bytes.length ≤ 32 := of_decide_eq_true wellFormed
    have least : 32 < bytes.length := by simpa [LaneArrival.kind, LaneArrival.payload] using misfit
    omega

namespace Machine

variable {l : Lane} {f : Frame} {a : LaneArrival} {s : State}

theorem exec_laneArrival (h : decodeLaneFrame f = some a) : exec (a.command l) s = .next (s.laneFrameArrival l f) := by
  rw [State.laneFrameArrival, h]
  cases a <;> rfl

theorem exec_laneFrameError (h : decodeLaneFrame f = none) :
    exec (.laneFrameError l) s = .next (s.laneFrameArrival l f) := by
  rw [State.laneFrameArrival, h]
  rfl

/-- A frame that carries no well-formed arrival is a frame error. -/
theorem decodeLaneFrame_none
    (h : ∀ a : LaneArrival, a.wellFormed = true → f.kind = a.kind → f.payload ≠ a.payload) :
    decodeLaneFrame f = none := by
  refine Option.eq_none_iff_forall_ne_some.2 fun a read => ?_
  obtain ⟨wellFormed, kind, payload⟩ := payload_of_decodeLaneFrame read
  exact h a wellFormed kind payload

/-- Settles O8: a frame is read as an arrival exactly when the arrival's layout is the frame's. -/
theorem laneFrameRunsCommand : Obligations.LaneFrameRunsCommand := by
  unfold Obligations.LaneFrameRunsCommand
  refine ⟨fun l a f s wellFormed address kind payload => ?_, fun l f s address => ?_, fun l f s other => ?_,
    fun l f s misfit => ?_⟩
  · exact exec_laneArrival (decodeLaneFrame_payload wellFormed address kind payload)
  · exact exec_laneFrameError (decodeLaneFrame_address address)
  · exact exec_laneFrameError (decodeLaneFrame_none other)
  · have fits : f.laneMisfit := misfit
    exact exec_laneFrameError (decodeLaneFrame_none fun a wellFormed kind => fits.payload_ne wellFormed kind)

end Machine

end Sys2Proof

/-! ## The receivers (10.2, R180, R181) -/

namespace Sys2Proof.Machine

/-! ### What the bytes since a sync byte amount to -/

/-- A length byte and as many bytes as a payload: what a complete candidate holds. -/
theorem candidate_whole {address kind tag flags len high low : Byte} {payload after : List Byte}
    (short : len.toNat ≤ 200) (length : payload.length = len.toNat) :
    candidate (address :: kind :: tag :: flags :: len :: (payload ++ high :: low :: after)) =
      if crc (address :: kind :: tag :: flags :: BitVec.ofNat 8 payload.length :: payload) = high ++ low then
        .passed ⟨address, kind, tag, flags, payload, high ++ low⟩ after
      else .failed := by
  rw [candidate, if_neg (Nat.not_lt.2 short), ← length, List.drop_left, List.take_left]
  rfl

/-- What a candidate is, said once: it has a length above 200, or the payload and the check to test, or neither yet. -/
theorem candidate_cases (held : List Byte) :
    (∃ address kind tag flags len rest, held = address :: kind :: tag :: flags :: len :: rest ∧ 200 < len.toNat) ∨
    (∃ address kind tag flags len high low payload after, len.toNat ≤ 200 ∧ payload.length = len.toNat ∧
      held = address :: kind :: tag :: flags :: len :: (payload ++ high :: low :: after)) ∨
    candidate held = .incomplete := by
  unfold candidate
  split
  · next address kind tag flags len rest =>
    by_cases above : 200 < len.toNat
    · exact .inl ⟨address, kind, tag, flags, len, rest, rfl, above⟩
    rw [if_neg above]
    split
    · next high low after tail =>
      have whole : rest.take len.toNat ++ high :: low :: after = rest := tail ▸ List.take_append_drop _ _
      have length : (rest.take len.toNat).length = len.toNat := by
        have := congrArg List.length tail
        rw [List.length_drop, List.length_cons] at this
        rw [List.length_take]
        omega
      have short : len.toNat ≤ 200 := Nat.not_lt.1 above
      exact .inr (.inl ⟨address, kind, tag, flags, len, high, low, _, after, short, length, by rw [whole]⟩)
    · exact .inr (.inr rfl)
  · exact .inr (.inr rfl)

theorem candidate_long {address kind tag flags len : Byte} (rest : List Byte) (long : 200 < len.toNat) :
    candidate (address :: kind :: tag :: flags :: len :: rest) = .failed := if_pos long

/-- A failed candidate stays so, whatever follows. -/
theorem candidate_failed_append {held : List Byte} (h : candidate held = .failed) (more : List Byte) :
    candidate (held ++ more) = .failed := by
  rcases candidate_cases held with ⟨address, kind, tag, flags, len, rest, rfl, long⟩ |
    ⟨address, kind, tag, flags, len, high, low, payload, after, short, length, rfl⟩ | incomplete
  · exact candidate_long _ long
  · simp only [List.cons_append, List.append_assoc]
    rw [candidate_whole short length] at h ⊢
    split at h
    · cases h
    · next wrong => rw [if_neg wrong]
  · exact nomatch incomplete.symm.trans h

/-- A right frame stays so, and what follows goes after it. -/
theorem candidate_passed_append {held after : List Byte} {f : Frame} (h : candidate held = .passed f after)
    (more : List Byte) : candidate (held ++ more) = .passed f (after ++ more) := by
  rcases candidate_cases held with ⟨address, kind, tag, flags, len, rest, rfl, long⟩ |
    ⟨address, kind, tag, flags, len, high, low, payload, after', short, length, rfl⟩ | incomplete
  · exact nomatch (candidate_long _ long).symm.trans h
  · simp only [List.cons_append, List.append_assoc]
    rw [candidate_whole short length] at h ⊢
    split at h
    · next right =>
      cases h
      rw [if_pos right]
    · cases h
  · exact nomatch incomplete.symm.trans h

theorem candidate_passed_length {held after : List Byte} {f : Frame} (h : candidate held = .passed f after) :
    after.length ≤ held.length := by
  rcases candidate_cases held with ⟨address, kind, tag, flags, len, rest, rfl, long⟩ |
    ⟨address, kind, tag, flags, len, high, low, payload, after', short, length, rfl⟩ | incomplete
  · exact nomatch (candidate_long _ long).symm.trans h
  · rw [candidate_whole short length] at h
    split at h
    · cases h
      simp only [List.length_cons, List.length_append]
      omega
    · cases h
  · exact nomatch incomplete.symm.trans h

/-- The bytes of a frame after its sync byte, tested: the check decides. -/
theorem candidate_frame {f : Frame} (short : f.payload.length ≤ 200) :
    candidate (f.bytes.drop 1) = if f.properCheck = f.check then .passed f [] else .failed := by
  have length : (BitVec.ofNat 8 f.payload.length).toNat = f.payload.length := Nat.mod_eq_of_lt (by omega)
  have bytes : f.bytes.drop 1 = f.address :: f.kind :: f.tag :: f.flags :: BitVec.ofNat 8 f.payload.length ::
      (f.payload ++ (f.check >>> 8).setWidth 8 :: f.check.setWidth 8 :: []) := rfl
  rw [bytes, candidate_whole (by rwa [length]) length.symm, word_bytes]
  rfl

/-! ### Runs of bytes -/

/-- Fuel beyond the number of bytes changes nothing. -/
theorem scan_fuel {n m : Nat} {bytes : List Byte} (hn : bytes.length ≤ n) (hm : bytes.length ≤ m) :
    scan n bytes = scan m bytes := by
  induction n generalizing m bytes with
  | zero =>
    obtain rfl := List.eq_nil_of_length_eq_zero (Nat.le_zero.1 hn)
    cases m <;> rfl
  | succ n ih =>
    cases bytes with
    | nil => cases m <;> rfl
    | cons b rest =>
      obtain ⟨m, rfl⟩ : ∃ k, m = k + 1 := Nat.exists_eq_succ_of_ne_zero (Nat.ne_zero_of_lt hm)
      have hn : rest.length ≤ n := Nat.le_of_succ_le_succ hn
      have hm : rest.length ≤ m := Nat.le_of_succ_le_succ hm
      rw [scan, scan]
      cases tested : candidate rest with
      | incomplete => simp only [ih hn hm]
      | failed => simp only [ih hn hm]
      | passed f after =>
        have within : after.length ≤ rest.length := candidate_passed_length tested
        simp only [ih hn hm, ih (within.trans hn) (within.trans hm)]

/-- A receiver in HUNT takes up a whole run of bytes (R181). -/
def takeUp (bytes : List Byte) : List LinkEvent × Receiver := scan bytes.length bytes

theorem takeUp_nil : takeUp [] = ([], .hunt) := rfl

theorem takeUp_skip {b : Byte} (other : b ≠ 0x7E#8) (rest : List Byte) : takeUp (b :: rest) = takeUp rest :=
  if_neg other

theorem takeUp_incomplete {rest : List Byte} (h : candidate rest = .incomplete) :
    takeUp (0x7E#8 :: rest) = ([], .awaiting rest) := by
  rw [takeUp, List.length_cons, scan, if_pos rfl, h]

theorem takeUp_failed {rest : List Byte} (h : candidate rest = .failed) :
    takeUp (0x7E#8 :: rest) = (.error :: (takeUp rest).1, (takeUp rest).2) := by
  rw [takeUp, List.length_cons, scan, if_pos rfl, h]
  rfl

theorem takeUp_passed {rest after : List Byte} {f : Frame} (h : candidate rest = .passed f after) :
    takeUp (0x7E#8 :: rest) = (.frame f :: (takeUp after).1, (takeUp after).2) := by
  rw [takeUp, List.length_cons, scan, if_pos rfl, h]
  simp only [scan_fuel (candidate_passed_length h) le_rfl, takeUp]

/-- The run of bytes, by what the receiver makes of its first: it skips it, or tests what follows it as a candidate,
and goes on with fewer bytes. -/
theorem takeUp_induction {P : List Byte → Prop} (nil : P [])
    (skip : ∀ b rest, b ≠ 0x7E#8 → P rest → P (b :: rest))
    (incomplete : ∀ rest, candidate rest = .incomplete → P (0x7E#8 :: rest))
    (failed : ∀ rest, candidate rest = .failed → P rest → P (0x7E#8 :: rest))
    (passed : ∀ rest f after, candidate rest = .passed f after → P after → P (0x7E#8 :: rest))
    (bytes : List Byte) : P bytes := by
  induction bytes using (measure List.length).wf.induction with
  | _ bytes ih =>
    cases bytes with
    | nil => exact nil
    | cons b rest =>
      by_cases sync : b = 0x7E#8
      · subst sync
        cases tested : candidate rest with
        | incomplete => exact incomplete rest tested
        | failed => exact failed rest tested (ih rest (Nat.lt_succ_self _))
        | passed f after =>
          exact passed rest f after tested (ih after (Nat.lt_succ_of_le (candidate_passed_length tested)))
      · exact skip b rest sync (ih rest (Nat.lt_succ_self _))

theorem Receiver.awaiting_bytes (held : List Byte) : (Receiver.awaiting held).bytes = 0x7E#8 :: held := by
  unfold Receiver.awaiting
  split
  · split <;> rfl
  · rfl

/-- A run of bytes in two parts: the second goes on from the bytes that the receiver holds after the first. -/
theorem takeUp_append (bytes more : List Byte) :
    takeUp (bytes ++ more) =
      ((takeUp bytes).1 ++ (takeUp ((takeUp bytes).2.bytes ++ more)).1,
        (takeUp ((takeUp bytes).2.bytes ++ more)).2) := by
  induction bytes using takeUp_induction with
  | nil => rfl
  | skip b rest other ih => rw [List.cons_append, takeUp_skip other, takeUp_skip other, ih]
  | incomplete rest h => rw [takeUp_incomplete h, Receiver.awaiting_bytes, List.nil_append]
  | failed rest h ih =>
    rw [List.cons_append, takeUp_failed (candidate_failed_append h more), takeUp_failed h, ih, List.cons_append]
  | passed rest f after h ih =>
    rw [List.cons_append, takeUp_passed (candidate_passed_append h more), takeUp_passed h, ih, List.cons_append]

/-- A receiver stands as the bytes that it holds leave one in HUNT. -/
def Receiver.Settled (r : Receiver) : Prop := takeUp r.bytes = ([], r)

theorem Receiver.settled_takeUp (bytes : List Byte) : (takeUp bytes).2.Settled := by
  induction bytes using takeUp_induction with
  | nil => rfl
  | skip b rest other ih => rwa [takeUp_skip other]
  | incomplete rest h =>
    rw [takeUp_incomplete h, Receiver.Settled, Receiver.awaiting_bytes, takeUp_incomplete h]
  | failed rest h ih => rwa [takeUp_failed h]
  | passed rest f after h ih => rwa [takeUp_passed h]

theorem Receiver.receive_eq (r : Receiver) (b : Byte) : r.receive b = takeUp (r.bytes ++ [b]) := by
  rw [Receiver.receive, takeUp, List.length_append]
  rfl

/-- Bytes one by one come to what they come to as one run, after those that the receiver holds. -/
theorem Receiver.receiveAll_eq {r : Receiver} (settled : r.Settled) (bytes : List Byte) :
    r.receiveAll bytes = takeUp (r.bytes ++ bytes) := by
  induction bytes generalizing r with
  | nil => rw [List.append_nil, settled, Receiver.receiveAll]
  | cons b rest ih =>
    rw [Receiver.receiveAll, Receiver.receive_eq, ih (Receiver.settled_takeUp _), ← takeUp_append, List.append_assoc,
      List.singleton_append]

theorem Receiver.receiveAll_hunt (bytes : List Byte) : Receiver.hunt.receiveAll bytes = takeUp bytes :=
  Receiver.receiveAll_eq (r := .hunt) takeUp_nil bytes

theorem takeUp_append_noise {noise : List Byte} (h : ∀ b ∈ noise, b ≠ 0x7E#8) (bytes : List Byte) :
    takeUp (noise ++ bytes) = takeUp bytes := by
  induction noise with
  | nil => rfl
  | cons b noise ih =>
    obtain ⟨other, others⟩ := List.forall_mem_cons.1 h
    rw [List.cons_append, takeUp_skip other, ih others]

theorem takeUp_noise {noise : List Byte} (h : ∀ b ∈ noise, b ≠ 0x7E#8) : takeUp noise = ([], .hunt) := by
  rw [← List.append_nil noise, takeUp_append_noise h, takeUp_nil]

/-- A right frame, alone. -/
theorem takeUp_frame {f : Frame} (short : f.payload.length ≤ 200) (right : f.properCheck = f.check) :
    takeUp f.bytes = ([.frame f], .hunt) := by
  have passed := candidate_frame short
  rw [if_pos right] at passed
  exact takeUp_passed passed

/-- Settles O9: bytes one by one are taken up as one run, and the run is the noise and the frame. -/
theorem frameReception : Obligations.FrameReception := by
  unfold Obligations.FrameReception
  intro noise f others short check
  rw [Receiver.receiveAll_hunt, takeUp_append_noise others]
  exact takeUp_frame short check.symm

end Sys2Proof.Machine

/-! ## No event reads or changes a receiver (10.2) -/

namespace Sys2Proof.Machine

/-- The receiver of a link. -/
def State.receiver (s : State) : Link → Receiver
  | .lane l => s.lanes[l].rx
  | .trunk => s.trunkRx

/-- A lane with its receiver replaced. -/
def LanePort.setReceiver (p : LanePort) (x : Receiver) : LanePort := { p with rx := x }

/-- A state with the receiver of a link replaced. -/
def State.setReceiver (s : State) : Link → Receiver → State
  | .lane l, x => s.modifyLane l (fun p => p.setReceiver x)
  | .trunk, x => s.setTrunkRx x

/-- What a link's receiver reports, taken as an event. -/
def State.linkEvent : Link → State → LinkEvent → State
  | .lane l, s, e => s.laneLinkEvent l e
  | .trunk, s, e => s.trunkLinkEvent e

variable {s : State} {k : Link} {x : Receiver}

/-! ### The fields of a state with a receiver replaced -/

section fields

@[simp] theorem State.setReceiver_tariffs : (s.setReceiver k x).tariffs = s.tariffs := by cases k <;> rfl
@[simp] theorem State.setReceiver_types : (s.setReceiver k x).types = s.types := by cases k <;> rfl
@[simp] theorem State.setReceiver_visits : (s.setReceiver k x).visits = s.visits := by cases k <;> rfl
@[simp] theorem State.setReceiver_settleWait : (s.setReceiver k x).settleWait = s.settleWait := by cases k <;> rfl
@[simp] theorem State.setReceiver_settlementQueue : (s.setReceiver k x).settlementQueue = s.settlementQueue := by
  cases k <;> rfl
@[simp] theorem State.setReceiver_responses : (s.setReceiver k x).responses = s.responses := by cases k <;> rfl
@[simp] theorem State.setReceiver_items : (s.setReceiver k x).items = s.items := by cases k <;> rfl
@[simp] theorem State.setReceiver_lossCount : (s.setReceiver k x).lossCount = s.lossCount := by cases k <;> rfl
@[simp] theorem State.setReceiver_trunkTx : (s.setReceiver k x).trunkTx = s.trunkTx := by cases k <;> rfl
@[simp] theorem State.setReceiver_partFlags : (s.setReceiver k x).partFlags = s.partFlags := by cases k <;> rfl
@[simp] theorem State.setReceiver_partMasks : (s.setReceiver k x).partMasks = s.partMasks := by cases k <;> rfl
@[simp] theorem State.setReceiver_laneMasks : (s.setReceiver k x).laneMasks = s.laneMasks := by cases k <;> rfl
@[simp] theorem State.setReceiver_attention : (s.setReceiver k x).attention = s.attention := by cases k <;> rfl

theorem State.setReceiver_lane (m : Lane) : ∃ y, (s.setReceiver k x).lanes[m] = s.lanes[m].setReceiver y := by
  cases k with
  | trunk => exact ⟨s.lanes[m].rx, rfl⟩
  | lane l =>
    rw [State.setReceiver, State.modifyLane_lanes, upd_get]
    split
    · next same => exact ⟨x, by rw [same]⟩
    · exact ⟨s.lanes[m].rx, rfl⟩

/-- What does not look at a lane's receiver is the same of the lane as it was. -/
theorem State.setReceiver_read {α : Type} (g : LanePort → α) (blind : ∀ p y, g (p.setReceiver y) = g p)
    (m : Lane) : g (s.setReceiver k x).lanes[m] = g s.lanes[m] := by
  obtain ⟨y, lane⟩ := s.setReceiver_lane (k := k) (x := x) m
  rw [lane, blind]

@[simp] theorem State.setReceiver_queue (m : Lane) : (s.setReceiver k x).lanes[m].queue = s.lanes[m].queue :=
  State.setReceiver_read _ (fun _ _ => rfl) m
@[simp] theorem State.setReceiver_context (m : Lane) : (s.setReceiver k x).lanes[m].context = s.lanes[m].context :=
  State.setReceiver_read _ (fun _ _ => rfl) m
@[simp] theorem State.setReceiver_kind (m : Lane) : (s.setReceiver k x).lanes[m].kind = s.lanes[m].kind :=
  State.setReceiver_read _ (fun _ _ => rfl) m
@[simp] theorem State.setReceiver_reporting (m : Lane) :
    (s.setReceiver k x).lanes[m].reporting = s.lanes[m].reporting :=
  State.setReceiver_read _ (fun _ _ => rfl) m
@[simp] theorem State.setReceiver_flags (m : Lane) : (s.setReceiver k x).lanes[m].flags = s.lanes[m].flags :=
  State.setReceiver_read _ (fun _ _ => rfl) m
@[simp] theorem State.setReceiver_enabled (m : Lane) : (s.setReceiver k x).lanes[m].enabled = s.lanes[m].enabled :=
  State.setReceiver_read _ (fun _ _ => rfl) m
@[simp] theorem State.setReceiver_tag (m : Lane) : (s.setReceiver k x).lanes[m].tag = s.lanes[m].tag :=
  State.setReceiver_read _ (fun _ _ => rfl) m
@[simp] theorem State.setReceiver_freeEntries (m : Lane) :
    (s.setReceiver k x).lanes[m].freeEntries = s.lanes[m].freeEntries :=
  State.setReceiver_read _ (fun _ _ => rfl) m
@[simp] theorem State.setReceiver_stackPending (m : Lane) (n : Nat) :
    (s.setReceiver k x).lanes[m].stackPending n = s.lanes[m].stackPending n :=
  State.setReceiver_read (fun p => p.stackPending n) (fun _ _ => rfl) m
@[simp] theorem State.setReceiver_stackTag (m : Lane) (n : Nat) :
    (s.setReceiver k x).lanes[m].stackTag n = s.lanes[m].stackTag n :=
  State.setReceiver_read (fun p => p.stackTag n) (fun _ _ => rfl) m
@[simp] theorem State.setReceiver_chosenCount (m : Lane) (c : Choice) :
    (s.setReceiver k x).lanes[m].chosenCount c = s.lanes[m].chosenCount c :=
  State.setReceiver_read (fun p => p.chosenCount c) (fun _ _ => rfl) m

@[simp] theorem State.setReceiver_attentionNow : (s.setReceiver k x).attentionNow = s.attentionNow := by
  have lane : (s.setReceiver k x).laneAttention = s.laneAttention := by
    funext m
    simp only [State.laneAttention, State.setReceiver_flags, State.setReceiver_laneMasks]
  simp only [State.attentionNow, lane, State.setReceiver_partFlags, State.setReceiver_partMasks]

@[simp] theorem State.setReceiver_tagLive (t : VisitTag) : (s.setReceiver k x).tagLive t = s.tagLive t := by
  simp only [State.tagLive, State.setReceiver_visits]

@[simp] theorem State.setReceiver_drained (v : VisitSlot) : (s.setReceiver k x).drained v = s.drained v := by
  simp only [State.drained, State.setReceiver_visits]

@[simp] theorem State.setReceiver_visitTag (v : VisitSlot) : (s.setReceiver k x).visitTag v = s.visitTag v := by
  simp only [State.visitTag, State.setReceiver_visits]

@[simp] theorem State.setReceiver_removalRecords (m : Lane) (outcome : ItemOutcome) (c : Choice) :
    (s.setReceiver k x).removalRecords m outcome c = s.removalRecords m outcome c := by
  have record : (s.setReceiver k x).queuedRecord = s.queuedRecord := by
    funext l outcome e
    simp only [State.queuedRecord, State.setReceiver_visits]
  simp only [State.removalRecords, State.setReceiver_queue, State.setReceiver_context, record]

end fields

/-! ### The elementary updates and the shared operations, in either order with the receiver's replacement -/

section operations

theorem upd_comm {α : Type} {n : Nat} (v : Vector α n) {i j : Fin n} (apart : i ≠ j) (f g : α → α) :
    upd (upd v i f) j g = upd (upd v j g) i f :=
  vector_ext fun m => by
    simp only [upd_get]
    by_cases first : m = i
    · rw [if_pos first, if_neg (first ▸ apart), if_neg apart, if_pos first]
    · simp only [if_neg first, if_neg (Ne.symm apart)]

theorem State.modifyLane_setReceiver (m : Lane) {f : LanePort → LanePort}
    (blind : ∀ p y, f (p.setReceiver y) = (f p).setReceiver y) :
    (s.setReceiver k x).modifyLane m f = (s.modifyLane m f).setReceiver k x := by
  cases k with
  | trunk => rfl
  | lane l =>
    have lanes : upd (upd s.lanes l (·.setReceiver x)) m f = upd (upd s.lanes m f) l (·.setReceiver x) := by
      by_cases same : l = m
      · rw [same, upd_upd, upd_upd]
        exact upd_congr (blind _ _)
      · exact upd_comm _ same _ _
    exact congrArg (fun lanes => { s with lanes := lanes }) lanes

@[simp] theorem State.modifyVisit_setReceiver (v : VisitSlot) (f : Visit → Visit) :
    (s.setReceiver k x).modifyVisit v f = (s.modifyVisit v f).setReceiver k x := by cases k <;> rfl
@[simp] theorem State.setSettleWait_setReceiver (list : List VisitTag) :
    (s.setReceiver k x).setSettleWait list = (s.setSettleWait list).setReceiver k x := by cases k <;> rfl
@[simp] theorem State.setItems_setReceiver (items : List ItemEntry) :
    (s.setReceiver k x).setItems items = (s.setItems items).setReceiver k x := by cases k <;> rfl
@[simp] theorem State.setLossCount_setReceiver (n : Nat) :
    (s.setReceiver k x).setLossCount n = (s.setLossCount n).setReceiver k x := by cases k <;> rfl
@[simp] theorem State.setAttention_setReceiver (b : Bool) :
    (s.setReceiver k x).setAttention b = (s.setAttention b).setReceiver k x := by cases k <;> rfl
@[simp] theorem State.setTrunkTx_setReceiver (tx : TrunkTx) :
    (s.setReceiver k x).setTrunkTx tx = (s.setTrunkTx tx).setReceiver k x := by cases k <;> rfl
@[simp] theorem State.latchPart_setReceiver (f : PartFlag) :
    (s.setReceiver k x).latchPart f = (s.latchPart f).setReceiver k x := by cases k <;> rfl
@[simp] theorem State.latchLane_setReceiver (m : Lane) (f : LaneFlag) :
    (s.setReceiver k x).latchLane m f = (s.latchLane m f).setReceiver k x :=
  State.modifyLane_setReceiver m fun _ _ => rfl

@[simp] theorem State.placeItem_setReceiver (e : ItemEntry) :
    (s.setReceiver k x).placeItem e = (s.placeItem e).setReceiver k x := by
  simp only [State.placeItem, State.setReceiver_items, State.setReceiver_lossCount, State.setItems_setReceiver,
    State.setLossCount_setReceiver, State.latchPart_setReceiver]
  split <;> rfl

theorem State.offerRecord_setReceiver (r : ItemRecord) :
    (s.setReceiver k x).offerRecord r = (s.offerRecord r).setReceiver k x := by
  simp only [State.offerRecord, State.setReceiver_reporting, State.placeItem_setReceiver]
  split <;> rfl

theorem State.offerRecords_setReceiver (rs : List ItemRecord) :
    (s.setReceiver k x).offerRecords rs = (s.offerRecords rs).setReceiver k x :=
  List.foldl_hom (State.setReceiver · k x) fun _ r => State.offerRecord_setReceiver r

@[simp] theorem State.removeItems_setReceiver (m : Lane) (outcome : ItemOutcome) (c : Choice) :
    (s.setReceiver k x).removeItems m outcome c = (s.removeItems m outcome c).setReceiver k x := by
  rw [State.removeItems, State.setReceiver_removalRecords, State.offerRecords_setReceiver]
  exact State.modifyLane_setReceiver m fun _ _ => rfl

@[simp] theorem State.raiseTagged_setReceiver (t : Option VisitTag) (n : Nat) :
    (s.setReceiver k x).raiseTagged t n = (s.raiseTagged t n).setReceiver k x := by
  cases t with
  | none => rfl
  | some t =>
    simp only [State.raiseTagged, State.setReceiver_tagLive, State.modifyVisit_setReceiver]
    split <;> rfl

@[simp] theorem State.lowerTagged_setReceiver (t : VisitTag) (n : Nat) :
    (s.setReceiver k x).lowerTagged t n = (s.lowerTagged t n).setReceiver k x := by
  simp only [State.lowerTagged, State.setReceiver_tagLive, State.modifyVisit_setReceiver]
  split <;> rfl

@[simp] theorem State.enterSettling_setReceiver (v : VisitSlot) :
    (s.setReceiver k x).enterSettling v = (s.enterSettling v).setReceiver k x := by
  simp only [State.enterSettling, State.modifyVisit_setReceiver, State.setReceiver_settleWait,
    State.setReceiver_visitTag, State.setSettleWait_setReceiver]

@[simp] theorem State.completeDrain_setReceiver (v : VisitSlot) :
    (s.setReceiver k x).completeDrain v = (s.completeDrain v).setReceiver k x := by
  simp only [State.completeDrain, State.setReceiver_drained, State.enterSettling_setReceiver]
  split <;> rfl

@[simp] theorem State.drainTagged_setReceiver (t : VisitTag) (n : Nat) :
    (s.setReceiver k x).drainTagged t n = (s.drainTagged t n).setReceiver k x := by
  simp only [State.drainTagged, State.lowerTagged_setReceiver, State.completeDrain_setReceiver]

@[simp] theorem State.setReceiver_chosenTx : (s.setReceiver k x).chosenTx = s.chosenTx := by
  have oldest : ∀ q, (s.setReceiver k x).oldest q = s.oldest q := fun q => by cases q <;> simp [State.oldest]
  simp only [State.chosenTx, State.nextQueue, oldest, State.setReceiver_responses, State.setReceiver_settlementQueue,
    State.setReceiver_items, State.setReceiver_attention]

@[simp] theorem State.finish_setReceiver : (s.setReceiver k x).finish = s.finish.setReceiver k x := by
  have starts : ∀ u : State, (u.setReceiver k x).startTrunk = u.startTrunk.setReceiver k x := fun u => by
    simp only [State.startTrunk, State.setReceiver_trunkTx, State.setReceiver_chosenTx, State.setTrunkTx_setReceiver]
    split <;> rfl
  simp only [State.finish, State.reevaluateAttention, State.setReceiver_attentionNow, State.setAttention_setReceiver,
    starts]

end operations

/-! ### What the receivers report -/

section arrivals

/-- A replaced receiver under a choice of states. -/
theorem State.ite_setReceiver {c : Prop} [Decidable c] (s t : State) :
    (if c then s else t).setReceiver k x = if c then s.setReceiver k x else t.setReceiver k x :=
  apply_ite (State.setReceiver · k x) c s t

@[simp] theorem State.laneErrorArrival_setReceiver (m : Lane) :
    (s.setReceiver k x).laneErrorArrival m = (s.laneErrorArrival m).setReceiver k x := by
  have error : (s.setReceiver k x).laneError m = (s.laneError m).setReceiver k x :=
    State.modifyLane_setReceiver m fun p y => by
      rw [apply_ite (LanePort.setReceiver · y)]
      rfl
  simp only [State.laneErrorArrival, State.setReceiver_enabled, error, State.finish_setReceiver,
    State.ite_setReceiver]

@[simp] theorem State.overrunReads_setReceiver (m : Lane) (n : Nat) :
    (s.setReceiver k x).overrunReads m n = (s.overrunReads m n).setReceiver k x :=
  State.modifyLane_setReceiver m fun _ _ => rfl

@[simp] theorem State.acceptReads_setReceiver (m : Lane) (es : List ReadEntry) :
    (s.setReceiver k x).acceptReads m es = (s.acceptReads m es).setReceiver k x := by
  rw [State.acceptReads, State.modifyLane_setReceiver m fun _ _ => rfl, State.setReceiver_tag,
    State.raiseTagged_setReceiver]
  rfl

theorem State.singleArrival_setReceiver (m : Lane) (r : SingleRead) :
    (s.setReceiver k x).singleArrival m r = (s.singleArrival m r).setReceiver k x := by
  simp only [State.singleArrival, State.setReceiver_enabled, State.setReceiver_kind, State.setReceiver_queue,
    State.setReceiver_tag, State.laneErrorArrival_setReceiver, State.overrunReads_setReceiver,
    State.acceptReads_setReceiver, State.finish_setReceiver, State.ite_setReceiver]

theorem State.stackArrival_setReceiver (m : Lane) (stack : Byte) (reads : List CrateRead) :
    (s.setReceiver k x).stackArrival m stack reads = (s.stackArrival m stack reads).setReceiver k x := by
  simp only [State.stackArrival, State.setReceiver_enabled, State.setReceiver_kind, State.setReceiver_stackPending,
    State.setReceiver_freeEntries, State.setReceiver_tag, State.laneErrorArrival_setReceiver,
    State.overrunReads_setReceiver, State.acceptReads_setReceiver, State.finish_setReceiver, State.ite_setReceiver]

theorem State.withdrawStack_setReceiver (m : Lane) (n : Nat) :
    (s.setReceiver k x).withdrawStack m n = (s.withdrawStack m n).setReceiver k x := by
  cases tag : s.lanes[m].stackTag n <;>
    simp only [State.withdrawStack, State.setReceiver_stackTag, tag, State.setReceiver_chosenCount,
      State.removeItems_setReceiver, State.drainTagged_setReceiver]

theorem State.cancelArrival_setReceiver (m : Lane) (stack : Byte) :
    (s.setReceiver k x).cancelArrival m stack = (s.cancelArrival m stack).setReceiver k x := by
  simp only [State.cancelArrival, State.setReceiver_enabled, State.setReceiver_stackPending,
    State.withdrawStack_setReceiver, State.latchLane_setReceiver, State.finish_setReceiver, State.ite_setReceiver]

theorem State.noticeArrival_setReceiver (m : Lane) (bytes : List Byte) :
    (s.setReceiver k x).noticeArrival m bytes = (s.noticeArrival m bytes).setReceiver k x := by
  simp only [State.noticeArrival, State.setReceiver_enabled, State.laneErrorArrival_setReceiver,
    State.placeItem_setReceiver, State.finish_setReceiver, State.ite_setReceiver]

theorem State.laneFrameArrival_setReceiver (m : Lane) (f : Frame) :
    (s.setReceiver k x).laneFrameArrival m f = (s.laneFrameArrival m f).setReceiver k x := by
  unfold State.laneFrameArrival
  split
  · exact State.singleArrival_setReceiver m _
  · exact State.stackArrival_setReceiver m _ _
  · exact State.cancelArrival_setReceiver m _
  · exact State.noticeArrival_setReceiver m _
  · exact State.laneErrorArrival_setReceiver m

end arrivals

/-! ### Requests, and the trunk receiver -/

section requests

@[simp] theorem State.setReceiver_graceSeconds : (s.setReceiver .trunk x).graceSeconds = s.graceSeconds := rfl
@[simp] theorem State.setReceiver_freeIndex : (s.setReceiver .trunk x).freeIndex = s.freeIndex := rfl
@[simp] theorem State.setFreeIndex_setReceiver (n : Nat) :
    (s.setReceiver .trunk x).setFreeIndex n = (s.setFreeIndex n).setReceiver .trunk x := rfl
@[simp] theorem State.setReceiver_findAccount (n : Nat) :
    (s.setReceiver .trunk x).findAccount n = s.findAccount n := rfl
@[simp] theorem State.setReceiver_findVisit (n : Nat) : (s.setReceiver .trunk x).findVisit n = s.findVisit n := rfl
@[simp] theorem State.setReceiver_findType (n : Nat) : (s.setReceiver .trunk x).findType n = s.findType n := rfl
@[simp] theorem State.setReceiver_activeTariff : (s.setReceiver .trunk x).activeTariff = s.activeTariff := rfl
@[simp] theorem State.setReceiver_pendingTariff : (s.setReceiver .trunk x).pendingTariff = s.pendingTariff := rfl
@[simp] theorem State.setReceiver_loadSlot : (s.setReceiver .trunk x).loadSlot = s.loadSlot := rfl
@[simp] theorem State.setReceiver_freeSlot : (s.setReceiver .trunk x).freeSlot = s.freeSlot := rfl
@[simp] theorem State.setReceiver_nextNumber : (s.setReceiver .trunk x).nextNumber = s.nextNumber := rfl
@[simp] theorem State.setReceiver_claimFailure (t : VisitTag) (lanes : LaneSet) :
    (s.setReceiver .trunk x).claimFailure t lanes = s.claimFailure t lanes := rfl
@[simp] theorem State.setReceiver_duplicateOf (a : AccountSlot) (n : Nat) :
    (s.setReceiver .trunk x).duplicateOf a n = s.duplicateOf a n := rfl

@[simp] theorem State.latchPartIf_setReceiver (f : PartFlag) (raised : Bool) :
    (s.setReceiver k x).latchPartIf f raised = (s.latchPartIf f raised).setReceiver k x := by
  simp only [State.latchPartIf, State.latchPart_setReceiver, State.ite_setReceiver]

theorem State.dropUses_setReceiver (gs : List Segment) :
    (s.setReceiver .trunk x).dropUses gs = (s.dropUses gs).setReceiver .trunk x :=
  List.foldl_hom (State.setReceiver · .trunk x) fun _ _ => rfl

theorem State.unpin_setReceiver (p : Option Pin) :
    (s.setReceiver .trunk x).unpin p = (s.unpin p).setReceiver .trunk x := by
  cases p with
  | none => rfl
  | some p =>
    cases slot : s.tariffs[p.slot] with
    | retiring g n =>
      simp only [State.unpin, State.setReceiver_tariffs, slot, State.ite_setReceiver]
      rfl
    | active g n =>
      simp only [State.unpin, State.setReceiver_tariffs, slot]
      rfl
    | empty => simp only [State.unpin, State.setReceiver_tariffs, slot]
    | pending g => simp only [State.unpin, State.setReceiver_tariffs, slot]

@[simp] theorem State.freeVisit_setReceiver (v : VisitSlot) :
    (s.setReceiver .trunk x).freeVisit v = (s.freeVisit v).setReceiver .trunk x := by
  simp only [State.freeVisit, State.setReceiver_visits, State.dropUses_setReceiver, State.unpin_setReceiver,
    State.modifyVisit_setReceiver]

theorem State.addFloat_setReceiver (a : AccountSlot) (f : Family) (n : Nat) :
    (s.setReceiver .trunk x).addFloat a f n = (s.addFloat a f n).setReceiver .trunk x :=
  State.latchPartIf_setReceiver (s := s.setFloatValue a f (satAdd Config.top16 (s.float a f) n)) (k := .trunk) _ _

@[simp] theorem State.addBackSegment_setReceiver (g : Segment) :
    (s.setReceiver .trunk x).addBackSegment g = (s.addBackSegment g).setReceiver .trunk x :=
  List.foldl_hom (State.setReceiver · .trunk x) fun _ f => State.addFloat_setReceiver g.accountSlot f _

@[simp] theorem State.addBack_setReceiver (gs : List Segment) :
    (s.setReceiver .trunk x).addBack gs = (s.addBack gs).setReceiver .trunk x :=
  List.foldl_hom (State.setReceiver · .trunk x) fun _ g => State.addBackSegment_setReceiver g

@[simp] theorem State.giveUpLanes_setReceiver (v : VisitSlot) :
    (s.setReceiver .trunk x).giveUpLanes v = (s.giveUpLanes v).setReceiver .trunk x := rfl

@[simp] theorem State.leaveOpen_setReceiver (v : VisitSlot) (cause : CloseCause) :
    (s.setReceiver .trunk x).leaveOpen v cause = (s.leaveOpen v cause).setReceiver .trunk x := by
  simp only [State.leaveOpen, State.giveUpLanes_setReceiver, State.setReceiver_graceSeconds,
    State.modifyVisit_setReceiver, State.completeDrain_setReceiver]

theorem State.purgeVisit_setReceiver (outcome : ItemOutcome) (t : VisitTag) :
    (s.setReceiver .trunk x).purgeVisit outcome t = (s.purgeVisit outcome t).setReceiver .trunk x :=
  List.foldl_hom (State.setReceiver · .trunk x) fun _ l => State.removeItems_setReceiver l outcome _

@[simp] theorem State.cancelPurge_setReceiver (v : VisitSlot) :
    (s.setReceiver .trunk x).cancelPurge v = (s.cancelPurge v).setReceiver .trunk x := by
  simp only [State.cancelPurge, State.giveUpLanes_setReceiver, State.setReceiver_visitTag,
    State.purgeVisit_setReceiver, State.clearTagged, State.modifyVisit_setReceiver]

@[simp] theorem State.cancelVisitAt_setReceiver (v : VisitSlot) :
    (s.setReceiver .trunk x).cancelVisitAt v = (s.cancelVisitAt v).setReceiver .trunk x := by
  simp only [State.cancelVisitAt, State.cancelPurge_setReceiver, State.setReceiver_visits, State.addBack_setReceiver,
    State.freeVisit_setReceiver]

@[simp] theorem State.setReceiver_voidSummary (gs : List Segment) :
    (s.setReceiver .trunk x).voidSummary gs = s.voidSummary gs := by
  induction gs generalizing s with
  | nil => rfl
  | cons g gs ih =>
    rw [State.voidSummary, State.addBackSegment_setReceiver, ih, State.voidSummary]
    rfl

theorem State.lowerForLane_setReceiver (l : Lane) :
    (s.setReceiver .trunk x).lowerForLane l = (s.lowerForLane l).setReceiver .trunk x :=
  List.foldl_hom (State.setReceiver · .trunk x) fun _ v =>
    State.lowerTagged_setReceiver (s.visitTag v) (s.taggedOn l v)

theorem State.resetLane_setReceiver (l : Lane) :
    (s.setReceiver .trunk x).resetLane l = (s.resetLane l).setReceiver .trunk x := by
  have drained : (s.setReceiver .trunk x).drainedByReset l = s.drainedByReset l := by
    simp only [State.drainedByReset, State.lowerForLane_setReceiver, State.setReceiver_drained]
    rfl
  have settle (vs : List VisitSlot) (u : State) : vs.foldl State.enterSettling (u.setReceiver .trunk x) =
      (vs.foldl State.enterSettling u).setReceiver .trunk x :=
    List.foldl_hom (State.setReceiver · .trunk x) fun _ v => State.enterSettling_setReceiver v
  have clears (u : State) : (u.setReceiver .trunk x).modifyLane l LanePort.cleared =
      (u.modifyLane l LanePort.cleared).setReceiver .trunk x := rfl
  simp only [State.resetLane, drained, State.lowerForLane_setReceiver, clears, settle, State.setReceiver_freeIndex,
    State.setFreeIndex_setReceiver]

theorem State.resetPart_setReceiver :
    (s.setReceiver .trunk x).resetPart = s.resetPart.setReceiver .trunk x := by
  have cancel (u : State) (v : VisitSlot) :
      (u.setReceiver .trunk x).cancelForReset v = (u.cancelForReset v).setReceiver .trunk x := by
    simp only [State.cancelForReset, State.setReceiver_visits, State.giveUpLanes_setReceiver,
      State.addBack_setReceiver, State.freeVisit_setReceiver, State.ite_setReceiver]
  have cancelAll (u : State) : allVisits.foldl State.cancelForReset (u.setReceiver .trunk x) =
      (allVisits.foldl State.cancelForReset u).setReceiver .trunk x :=
    List.foldl_hom (State.setReceiver · .trunk x) cancel
  have emptied : (s.setReceiver .trunk x).clearFlags.emptyLanes =
      s.clearFlags.emptyLanes.setReceiver .trunk x := rfl
  have quiets (u : State) : ((u.setReceiver .trunk x).mapLanes fun _ p => p.quiet).dropUnstartedMessages =
      ((u.mapLanes fun _ p => p.quiet).dropUnstartedMessages).setReceiver .trunk x := rfl
  rw [State.resetPart, emptied, cancelAll, quiets, State.resetPart]

/-- An answer whose state has the trunk receiver replaced. -/
def Answer.setReceiver (a : Answer) (x : Receiver) : Answer := { a with state := a.state.setReceiver .trunk x }

theorem Answer.ite_setReceiver {c : Prop} [Decidable c] (a b : Answer) :
    (if c then a else b).setReceiver x = if c then a.setReceiver x else b.setReceiver x :=
  apply_ite (Answer.setReceiver · x) c a b

/-- An answer that neither reads nor changes the trunk receiver. -/
def Blind (answer : State → Answer) : Prop :=
  ∀ s x, answer (s.setReceiver .trunk x) = (answer s).setReceiver x

theorem withVisit_setReceiver {n : Nat} {absent : Detail} {a b : VisitSlot → Answer}
    (h : ∀ v, b v = (a v).setReceiver x) :
    withVisit (s.setReceiver .trunk x) n absent b = (withVisit s n absent a).setReceiver x := by
  simp only [withVisit, State.setReceiver_findVisit, Answer.ite_setReceiver]
  cases s.findVisit n with
  | none => rfl
  | some v => simp only [h]; rfl

theorem withAccount_setReceiver {n : Nat} {a b : AccountSlot → Answer} (h : ∀ v, b v = (a v).setReceiver x) :
    withAccount (s.setReceiver .trunk x) n b = (withAccount s n a).setReceiver x := by
  simp only [withAccount, State.setReceiver_findAccount, Answer.ite_setReceiver]
  cases s.findAccount n with
  | none => rfl
  | some v => simp only [h]; rfl

theorem whenOpen_setReceiver {v : VisitSlot} {a b : Answer} (h : b = a.setReceiver x) :
    whenOpen (s.setReceiver .trunk x) v b = (whenOpen s v a).setReceiver x := by
  rw [whenOpen, whenOpen, Answer.ite_setReceiver, h]
  rfl

theorem accept_setReceiver {t u : State} (d : Detail) (h : u = t.setReceiver .trunk x) :
    accept u d = (accept t d).setReceiver x := by rw [h]; rfl

theorem openVisit_blind (account : Nat) (lanes : Byte) (minutes : Nat) : Blind (openVisit account lanes minutes) := by
  intro s x
  unfold openVisit
  split
  · rfl
  rw [Answer.ite_setReceiver]
  split
  · rfl
  simp only [State.setReceiver_activeTariff, State.setReceiver_freeSlot, State.setReceiver_findAccount,
    State.setReceiver_claimFailure, State.setReceiver_nextNumber]
  split
  · rfl
  split
  · rfl
  split
  · rfl
  split
  · rfl
  · rfl

theorem bindLanes_blind (visit : Nat) (lanes : Byte) : Blind (bindLanes visit lanes) := by
  intro s x
  unfold bindLanes
  split
  · rfl
  refine withVisit_setReceiver fun v => whenOpen_setReceiver ?_
  simp only [State.setReceiver_visitTag, State.setReceiver_claimFailure]
  split
  · rfl
  · rfl

theorem releaseLanes_blind (visit : Nat) (lanes : Byte) : Blind (releaseLanes visit lanes) := by
  intro s x
  unfold releaseLanes
  split
  · rfl
  · exact withVisit_setReceiver fun v => whenOpen_setReceiver rfl

theorem nextSegment_blind (visit account : Nat) : Blind (nextSegment visit account) := by
  intro s x
  rw [nextSegment, nextSegment, Answer.ite_setReceiver]
  split
  · rfl
  refine withVisit_setReceiver fun v => whenOpen_setReceiver ?_
  simp only [State.setReceiver_visits, Answer.ite_setReceiver, State.setReceiver_findAccount]
  split
  · rfl
  split
  · rfl
  · rfl

theorem closeVisit_blind (visit : Nat) : Blind (closeVisit visit) := fun s x =>
  withVisit_setReceiver fun v => whenOpen_setReceiver (by
    simp only [State.leaveOpen_setReceiver, State.setReceiver_visits]
    rfl)

theorem cancelVisit_blind (visit : Nat) : Blind (cancelVisit visit) := by
  intro s x
  refine withVisit_setReceiver fun v => ?_
  simp only [State.setReceiver_visits, State.cancelVisitAt_setReceiver, State.cancelPurge_setReceiver,
    State.setReceiver_voidSummary, Answer.ite_setReceiver]
  rfl

theorem readVisit_blind (key : VisitKey) (segment : Nat) : Blind (readVisit key segment) := by
  intro s x
  cases key with
  | number n => exact withVisit_setReceiver fun _ => rfl
  | slot n =>
    unfold readVisit
    split
    · next same => cases same
    split
    · rfl
    · rfl

theorem configureLane_blind (lane enabled kind level reporting : Nat) :
    Blind (configureLane lane enabled kind level reporting) := by
  intro s x
  unfold configureLane
  split
  · simp only [configureLaneAt, Answer.ite_setReceiver]
    rfl
  · rfl

theorem laneReset_blind (lane : Nat) : Blind (laneReset lane) := by
  intro s x
  unfold laneReset
  split
  · rfl
  · exact accept_setReceiver _ (State.resetLane_setReceiver _)

theorem readLane_blind (lane : Nat) : Blind (readLane lane) := by
  intro s x
  unfold readLane
  split
  · rfl
  · rfl

theorem writeType_blind (tagCode : Nat) (spec : TypeSpec) (family schedule : Nat) :
    Blind (writeType tagCode spec family schedule) := by
  intro s x
  unfold writeType
  split
  · rfl
  · simp only [Answer.ite_setReceiver]
    rfl

theorem deleteType_blind (tagCode : Nat) : Blind (deleteType tagCode) := by
  intro s x
  simp only [deleteType, State.setReceiver_findType, Answer.ite_setReceiver]
  cases s.findType tagCode with
  | none => rfl
  | some e => rfl

theorem readTypeByTagCode_blind (tagCode : Nat) : Blind (readTypeByTagCode tagCode) := by
  intro s x
  simp only [readTypeByTagCode, State.setReceiver_findType, Answer.ite_setReceiver]
  cases s.findType tagCode with
  | none => rfl
  | some e => rfl

theorem readTypeByIndex_blind (index : Nat) : Blind (readTypeByIndex index) := by
  intro s x
  simp only [readTypeByIndex, State.setReceiver_types, Answer.ite_setReceiver]
  cases s.types[index]? with
  | none => rfl
  | some e => rfl

theorem loadWrite_setReceiver (change : Generation → Generation) (detail : TariffIndex → Generation → Detail) :
    loadWrite (s.setReceiver .trunk x) change detail = (loadWrite s change detail).setReceiver x := by
  simp only [loadWrite, State.setReceiver_loadSlot, State.setReceiver_tariffs]
  cases s.tariffs[s.loadSlot] with
  | empty => rfl
  | pending g => rfl
  | retiring g n => rfl
  | active g n => rfl

theorem writeTariffHeader_blind (generation mode feeA feeB feeC feeD : Nat) (enables : Byte) :
    Blind (writeTariffHeader generation mode feeA feeB feeC feeD enables) := by
  intro s x
  unfold writeTariffHeader
  split
  · rw [Answer.ite_setReceiver, loadWrite_setReceiver]
    rfl
  · rfl

theorem writeSchedule_blind (schedule defined a b c d bottle damaged ullage : Nat) :
    Blind (writeSchedule schedule defined a b c d bottle damaged ullage) := by
  intro s x
  unfold writeSchedule
  split
  · rw [Answer.ite_setReceiver, loadWrite_setReceiver]
    rfl
  · rfl

theorem readTariff_blind (slot part : Nat) : Blind (readTariff slot part) := by
  intro s x
  unfold readTariff
  split
  · rfl
  next t _ =>
  cases contents : s.tariffs[t].contents with
  | none =>
    simp only [State.setReceiver_tariffs, contents, Answer.ite_setReceiver]
    rfl
  | some g =>
    simp only [State.setReceiver_tariffs, contents, Answer.ite_setReceiver]
    cases scheduleOf part with
    | none => rfl
    | some k => rfl

theorem promoteTariff_blind (expected : Nat) : Blind (promoteTariff expected) := by
  intro s x
  have promote (t : TariffIndex) (g : Generation) :
      (s.setReceiver .trunk x).promote t g = (s.promote t g).setReceiver .trunk x := by
    simp only [State.promote, State.setReceiver_activeTariff]
    cases s.activeTariff with
    | none => rfl
    | some o => rfl
  cases pending : s.pendingTariff.bind fun t => s.tariffs[t].contents.map fun g => (t, g) with
  | none =>
    simp only [promoteTariff, State.setReceiver_pendingTariff, State.setReceiver_tariffs, pending,
      Answer.ite_setReceiver]
    rfl
  | some slot =>
    simp only [promoteTariff, State.setReceiver_pendingTariff, State.setReceiver_tariffs, pending, promote,
      Answer.ite_setReceiver]
    rfl

theorem discardPending_blind : Blind discardPending := by
  intro s x
  simp only [discardPending, State.setReceiver_pendingTariff]
  cases s.pendingTariff with
  | none => rfl
  | some t => rfl

theorem writeAccount_blind (slot account cls frozen ceiling : Nat) :
    Blind (writeAccount slot account cls frozen ceiling) := by
  intro s x
  have at_slot (a : AccountSlot) (cls : CustomerClass) (frozen : Bool) :
      writeAccountAt a account cls frozen ceiling (s.setReceiver .trunk x) =
        (writeAccountAt a account cls frozen ceiling s).setReceiver x := by
    simp only [writeAccountAt, State.setReceiver_duplicateOf]
    cases s.duplicateOf a account with
    | some b => rfl
    | none =>
      simp only [Answer.ite_setReceiver]
      rfl
  unfold writeAccount
  split
  · rw [Answer.ite_setReceiver, at_slot]
    rfl
  · rfl

theorem deleteAccount_blind (account : Nat) : Blind (deleteAccount account) := fun s x =>
  withAccount_setReceiver fun a => by
    simp only [Answer.ite_setReceiver]
    rfl

theorem readAccount_blind (key : AccountKey) : Blind (readAccount key) := by
  intro s x
  cases key with
  | number n => exact withAccount_setReceiver fun _ => rfl
  | slot n =>
    unfold readAccount
    split
    · next same => cases same
    split
    · rfl
    · rfl

theorem issueContainers_blind (account family count : Nat) : Blind (issueContainers account family count) := by
  intro s x
  unfold issueContainers
  split
  · rfl
  rw [Answer.ite_setReceiver]
  split
  · rfl
  · exact withAccount_setReceiver fun a => accept_setReceiver _ (State.addFloat_setReceiver _ _ _)

theorem setFloat_blind (account family value : Nat) : Blind (setFloat account family value) := by
  intro s x
  unfold setFloat
  split
  · rfl
  rw [Answer.ite_setReceiver]
  split
  · rfl
  · exact withAccount_setReceiver fun a => rfl

theorem freezeRun_blind (start count mark : Nat) : Blind (freezeRun start count mark) := by
  intro s x
  unfold freezeRun
  split
  · rfl
  · rw [Answer.ite_setReceiver]
    rfl

theorem releaseHeld_blind (account amount : Nat) : Blind (releaseHeld account amount) := by
  intro s x
  rw [releaseHeld, releaseHeld, Answer.ite_setReceiver]
  split
  · rfl
  refine withAccount_setReceiver fun a => ?_
  simp only [Answer.ite_setReceiver]
  rfl

theorem setMasks_blind (part : Byte) (lanes : LaneMaskFields) : Blind (setMasks part lanes) := by
  intro s x
  unfold setMasks
  split
  · rfl
  · rfl

theorem partReset_blind : Blind partReset := fun _ _ => accept_setReceiver _ State.resetPart_setReceiver

theorem answerTo_blind (r : Request) : Blind (answerTo r) := by
  cases r with
  | openVisit account lanes minutes => exact openVisit_blind account lanes minutes
  | bindLanes visit lanes => exact bindLanes_blind visit lanes
  | releaseLanes visit lanes => exact releaseLanes_blind visit lanes
  | nextSegment visit account => exact nextSegment_blind visit account
  | closeVisit visit => exact closeVisit_blind visit
  | cancelVisit visit => exact cancelVisit_blind visit
  | readVisit key segment => exact readVisit_blind key segment
  | configureLane lane enabled kind level reporting => exact configureLane_blind lane enabled kind level reporting
  | laneReset lane => exact laneReset_blind lane
  | readLane lane => exact readLane_blind lane
  | writeType tagCode spec family schedule => exact writeType_blind tagCode spec family schedule
  | deleteType tagCode => exact deleteType_blind tagCode
  | readTypeByTagCode tagCode => exact readTypeByTagCode_blind tagCode
  | readTypeByIndex index => exact readTypeByIndex_blind index
  | writeTariffHeader g m a b c d enables => exact writeTariffHeader_blind g m a b c d enables
  | writeSchedule n d a b c e bottle damaged ullage => exact writeSchedule_blind n d a b c e bottle damaged ullage
  | readTariff slot part => exact readTariff_blind slot part
  | promoteTariff expected => exact promoteTariff_blind expected
  | discardPending => exact discardPending_blind
  | writeAccount slot account cls frozen ceiling => exact writeAccount_blind slot account cls frozen ceiling
  | deleteAccount account => exact deleteAccount_blind account
  | readAccount key => exact readAccount_blind key
  | issueContainers account family count => exact issueContainers_blind account family count
  | setFloat account family value => exact setFloat_blind account family value
  | freezeRun start count mark => exact freezeRun_blind start count mark
  | dayClose => exact fun _ _ => rfl
  | releaseHeld account amount => exact releaseHeld_blind account amount
  | identify => exact fun _ _ => rfl
  | readStatus => exact fun _ _ => rfl
  | setMasks part lanes => exact setMasks_blind part lanes
  | setPartParameters grace aging => exact fun _ _ => rfl
  | partReset => exact partReset_blind

theorem answerForm_blind (form : RequestForm) : Blind (answerForm form) := by
  cases form with
  | request r => exact answerTo_blind r
  | unknown code => exact fun _ _ => rfl
  | malformed code => exact fun _ _ => rfl

theorem State.serve_setReceiver {meaning : State → Answer} (blind : Blind meaning) (tag code : Byte) :
    (s.setReceiver .trunk x).serve tag code meaning = (s.serve tag code meaning).setReceiver .trunk x := by
  have overrun : (s.setReceiver .trunk x).overrun = s.overrun.setReceiver .trunk x := by
    simp only [State.overrun, State.latchPart_setReceiver, State.finish_setReceiver]
  have answered : (((meaning s).setReceiver x).state.respond
      ⟨tag, code, (meaning s).code, (meaning s).detail⟩).finish =
      ((meaning s).state.respond ⟨tag, code, (meaning s).code, (meaning s).detail⟩).finish.setReceiver .trunk x :=
    State.finish_setReceiver (s := (meaning s).state.respond _) (k := .trunk)
  rw [State.serve, State.serve, State.ite_setReceiver, overrun, ← answered, blind]
  rfl

theorem State.trunkError_setReceiver :
    (s.setReceiver .trunk x).trunkError = s.trunkError.setReceiver .trunk x := by
  simp only [State.trunkError, State.latchPart_setReceiver, State.finish_setReceiver]

theorem State.trunkFrameArrival_setReceiver (f : Frame) :
    (s.setReceiver .trunk x).trunkFrameArrival f = (s.trunkFrameArrival f).setReceiver .trunk x := by
  have request : (s.setReceiver .trunk x).requestArrival f.tag f.payload =
      (s.requestArrival f.tag f.payload).setReceiver .trunk x :=
    State.serve_setReceiver (answerForm_blind _) _ _
  have downstream : (s.setReceiver .trunk x).downstreamArrival f = (s.downstreamArrival f).setReceiver .trunk x :=
    State.finish_setReceiver (s := s.mapLanes fun l p => if addressesLane f.address l then p.offer f else p)
      (k := .trunk)
  simp only [State.trunkFrameArrival, State.trunkError_setReceiver, request, downstream, State.ite_setReceiver]

end requests

/-! ### A byte on a link, and a run of bytes -/

theorem State.linkEvent_setReceiver (k : Link) (s : State) (x : Receiver) (e : LinkEvent) :
    State.linkEvent k (s.setReceiver k x) e = (State.linkEvent k s e).setReceiver k x := by
  cases k with
  | lane l =>
    cases e with
    | error => exact State.laneErrorArrival_setReceiver l
    | frame f => exact State.laneFrameArrival_setReceiver l f
  | trunk =>
    cases e with
    | error => exact State.trunkError_setReceiver
    | frame f => exact State.trunkFrameArrival_setReceiver f

theorem State.linkEvents_setReceiver (k : Link) (s : State) (x : Receiver) (es : List LinkEvent) :
    es.foldl (State.linkEvent k) (s.setReceiver k x) = (es.foldl (State.linkEvent k) s).setReceiver k x :=
  List.foldl_hom (State.setReceiver · k x) fun s e => State.linkEvent_setReceiver k s x e

@[simp] theorem State.receiver_setReceiver : (s.setReceiver k x).receiver k = x := by
  cases k with
  | lane l => exact congrArg LanePort.rx (upd_same s.lanes l fun p => p.setReceiver x)
  | trunk => rfl

@[simp] theorem State.setReceiver_setReceiver (y : Receiver) :
    (s.setReceiver k x).setReceiver k y = s.setReceiver k y := by
  cases k with
  | lane l =>
    have lanes : upd (upd s.lanes l (·.setReceiver x)) l (·.setReceiver y) = upd s.lanes l (·.setReceiver y) :=
      upd_upd s.lanes l _ _
    exact congrArg (fun lanes => { s with lanes := lanes }) lanes
  | trunk => rfl

theorem State.setReceiver_receiver (s : State) (k : Link) : s.setReceiver k (s.receiver k) = s := by
  cases k with
  | lane l =>
    have lanes : upd s.lanes l (·.setReceiver s.lanes[l].rx) = s.lanes := upd_id rfl
    exact congrArg (fun lanes => { s with lanes := lanes }) lanes
  | trunk => rfl

/-- A byte on a link: what the receiver reports becomes events, the receiver standing as the byte leaves it (R181). -/
theorem exec_byteReceived (k : Link) (b : Byte) (s : State) :
    exec (.byteReceived k b) s =
      .next ((((s.receiver k).receive b).1.foldl (State.linkEvent k) s).setReceiver k
        ((s.receiver k).receive b).2) := by
  rw [← State.linkEvents_setReceiver]
  cases k with
  | lane l =>
    have received : (s.modifyLane l fun p => { p with rx := (p.rx.receive b).2 }) =
        s.setReceiver (.lane l) ((s.receiver (.lane l)).receive b).2 :=
      congrArg (fun lanes => { s with lanes := lanes }) (upd_congr rfl)
    exact congrArg (fun t => Host.Outcome.next (List.foldl (State.laneLinkEvent l) t _)) received
  | trunk => rfl

/-- Bytes on a link, one command after another, come to the events that its receiver reports of them all. -/
theorem execAll_byteReceived (k : Link) (bytes : List Byte) (s : State) :
    execAll (bytes.map (.byteReceived k)) s =
      .next ((((s.receiver k).receiveAll bytes).1.foldl (State.linkEvent k) s).setReceiver k
        ((s.receiver k).receiveAll bytes).2) := by
  induction bytes generalizing s with
  | nil =>
    rw [List.map_nil, execAll_nil, Receiver.receiveAll]
    exact congrArg Host.Outcome.next (s.setReceiver_receiver k).symm
  | cons b rest ih =>
    rw [List.map_cons, execAll_cons_next _ _ (exec_byteReceived k b s), ih, State.receiver_setReceiver,
      State.linkEvents_setReceiver, State.setReceiver_setReceiver, ← List.foldl_append, Receiver.receiveAll]

/-! ### BYTE_RECEIVED (R181) -/

/-- The command of a frame error on a link. -/
def errorCommand : Link → Instr
  | .lane l => .laneFrameError l
  | .trunk => .trunkFrameError

theorem exec_errorCommand (k : Link) (s : State) : exec (errorCommand k) s = .next (State.linkEvent k s .error) := by
  cases k <;> rfl

/-- A byte that arrives, by what it and the bytes that the receiver holds are taken up as. -/
theorem exec_byteReceived_bytes (b : Byte) {es : List LinkEvent}
    (h : takeUp ((s.receiver k).bytes ++ [b]) = (es, x)) :
    exec (.byteReceived k b) s = .next (es.foldl (State.linkEvent k) (s.setReceiver k x)) := by
  rw [exec_byteReceived, Receiver.receive_eq, h, State.linkEvents_setReceiver]

theorem exec_byteReceived_skip (hunt : s.receiver k = .hunt) {b : Byte} (other : b ≠ 0x7E#8) :
    exec (.byteReceived k b) s = .next s := by
  have skipped : takeUp ((s.receiver k).bytes ++ [b]) = ([], .hunt) := by
    rw [hunt]
    exact takeUp_skip other []
  rw [exec_byteReceived_bytes b skipped, ← hunt, State.setReceiver_receiver]
  rfl

theorem exec_byteReceived_sync (hunt : s.receiver k = .hunt) :
    exec (.byteReceived k 0x7E#8) s = .next (s.setReceiver k (.header [])) := by
  have started : takeUp ((s.receiver k).bytes ++ [0x7E#8]) = ([], .header []) := by
    rw [hunt]
    rfl
  exact exec_byteReceived_bytes _ started

/-- The byte that completes a right frame. -/
theorem exec_byteReceived_right {f : Frame} {b : Byte} (whole : (s.receiver k).bytes ++ [b] = f.bytes)
    (short : f.payload.length ≤ 200) (right : f.properCheck = f.check) :
    exec (.byteReceived k b) s = .next (State.linkEvent k (s.setReceiver k .hunt) (.frame f)) :=
  exec_byteReceived_bytes b (by rw [whole, takeUp_frame short right])

/-- The byte by which a candidate fails: a frame error, then the bytes that followed the sync byte, one by one. -/
theorem exec_byteReceived_failed {held : List Byte} {b : Byte} (bytes : (s.receiver k).bytes = 0x7E#8 :: held)
    (failed : candidate (held ++ [b]) = .failed) :
    exec (.byteReceived k b) s =
      execAll (errorCommand k :: (held ++ [b]).map (.byteReceived k)) (s.setReceiver k .hunt) := by
  have again : takeUp ((s.receiver k).bytes ++ [b]) =
      (.error :: (takeUp (held ++ [b])).1, (takeUp (held ++ [b])).2) := by
    rw [bytes]
    exact takeUp_failed failed
  rw [exec_byteReceived_bytes b again, execAll_cons_next _ _ (exec_errorCommand k _), execAll_byteReceived]
  simp only [State.linkEvent_setReceiver, State.linkEvents_setReceiver, State.receiver_setReceiver,
    Receiver.receiveAll_hunt, State.setReceiver_setReceiver, List.foldl_cons]

/-- The byte that completes a wrong frame with no further sync byte. -/
theorem exec_byteReceived_wrong {f : Frame} {b : Byte} (whole : (s.receiver k).bytes ++ [b] = f.bytes)
    (short : f.payload.length ≤ 200) (wrong : f.properCheck ≠ f.check)
    (others : ∀ y ∈ f.bytes.drop 1, y ≠ 0x7E#8) :
    exec (.byteReceived k b) s = exec (errorCommand k) (s.setReceiver k .hunt) := by
  have failed := candidate_frame short
  rw [if_neg wrong] at failed
  have alone : takeUp f.bytes = ([.error], .hunt) := (takeUp_failed failed).trans (by rw [takeUp_noise others])
  rw [exec_byteReceived_bytes b (whole ▸ alone), exec_errorCommand]
  rfl

/-- The bytes after the sync byte of a candidate whose last byte makes it fail (R181): its length byte, or its check. -/
theorem candidate_failed {held : List Byte} {b : Byte}
    (h : (∃ address kind tag flags, held ++ [b] = [address, kind, tag, flags, b] ∧ 200 < b.toNat) ∨
      ∃ f : Frame, 0x7E#8 :: (held ++ [b]) = f.bytes ∧ f.payload.length ≤ 200 ∧ f.properCheck ≠ f.check) :
    candidate (held ++ [b]) = .failed := by
  rcases h with ⟨address, kind, tag, flags, bytes, long⟩ | ⟨f, bytes, short, wrong⟩
  · rw [bytes]
    exact candidate_long [] long
  · have tested := candidate_frame short
    rwa [if_neg wrong, ← bytes] at tested

/-- Settles O10: on either link, by what the receiver makes of the bytes it holds and the one that arrives. -/
theorem byteReceived : Obligations.ByteReceived := by
  unfold Obligations.ByteReceived
  intro s
  refine ⟨fun l b hunt other => ?_, fun b hunt other => ?_, fun l hunt => ?_, fun hunt => ?_,
    fun l f b whole short => ⟨fun right => ?_, fun wrong others => ?_⟩,
    fun f b whole short => ⟨fun right => ?_, fun wrong others => ?_⟩,
    fun held b fails => ⟨fun l bytes => ?_, fun bytes => ?_⟩⟩
  · exact exec_byteReceived_skip (k := .lane l) hunt other
  · exact exec_byteReceived_skip (k := .trunk) hunt other
  · exact exec_byteReceived_sync (k := .lane l) hunt
  · exact exec_byteReceived_sync (k := .trunk) hunt
  · exact exec_byteReceived_right (k := .lane l) whole short right
  · exact exec_byteReceived_wrong (k := .lane l) whole short wrong others
  · exact exec_byteReceived_right (k := .trunk) whole short right
  · exact exec_byteReceived_wrong (k := .trunk) whole short wrong others
  · exact exec_byteReceived_failed (k := .lane l) bytes (candidate_failed fails)
  · exact exec_byteReceived_failed (k := .trunk) bytes (candidate_failed fails)

end Sys2Proof.Machine

/-! ## One step (chapter 0, Events) -/

namespace Sys2Proof.Machine

variable {s : State}

/-- The empty queue: the block idles, the model's choice (log 1). -/
theorem step_of_pending_nil (h : s.pending = []) : step s = .next s := by
  rw [step, h]

/-- A waiting command: it is run on the state with the rest of the queue. -/
theorem step_of_pending_cons {c : Instr} {rest : List Instr} (h : s.pending = c :: rest) :
    step s = exec c (s.setPending rest) := by
  rw [step, h]

/-- Settles O1, by the two forms of the queue; `State.setPending` replaces the queue and nothing else. -/
theorem stepTakesFront : Obligations.StepTakesFront := by
  unfold Obligations.StepTakesFront
  exact ⟨fun _ _ _ front => step_of_pending_cons front, fun _ idle => step_of_pending_nil idle⟩

end Sys2Proof.Machine
